-- ==== Sys2Proof/Word.lean ====
section
/-! DEFINITION. The few things the manual treats as bits: bytes of a frame (R152) and the 32-bit encoder
count (R19). Every other quantity is a whole number (00, "Arithmetic": all quantities are integers). -/

namespace Sys2Proof

/-- One byte of a frame (R152). -/
abbrev Byte := BitVec 8

/-- An encoder count: a signed 32-bit number that wraps (R19). -/
abbrev Count := BitVec 32

end Sys2Proof
end

