-- ==== Sys2Proof/Syntax.lean ====
section
/-! DEFINITION. The commands of the Olwarde 2260: one constructor of `Instr` for each row of
spec/opcode_table.json, with the operands its rule gives it, and the names those operands are made of.

A request of the catalogue (R155) carries the station that sent it and its payload. A payload either carries
the fields the request names or is malformed (R155: BAD_REQUEST). An enumerated field is one of the values its
rule lists, or a code that names none of them (R155: BAD_VALUE). CAR POLL carries its bytes (R157). -/

namespace Sys2Proof

/-- The seven masters of the line bus (00, "Stations on the line bus"). -/
inductive Station where
  | drv | carA | carB | gateBot | gateMid | gateTop | con
deriving DecidableEq, Repr

/-- The two cars (R1). -/
inductive Car where
  | a | b
deriving DecidableEq, Repr

/-- A door side, facing uphill (R1). -/
inductive Side where
  | left | right
deriving DecidableEq, Repr

/-- The line stops 0, 1 and 2 (R2). -/
inductive Stop where
  | bottom | middle | top
deriving DecidableEq, Repr

/-- The three gate stations (R13): GATE-BOT, GATE-MID, GATE-TOP. -/
inductive Gate where
  | bot | mid | top
deriving DecidableEq, Repr

/-- The eight platforms (R3). -/
inductive Platform where
  | botBoard | botAlight | topBoard | topAlight | mwBoard | mwAlight | meBoard | meAlight
deriving DecidableEq, Repr

/-- The four places at which a car can stand; each has a board and an alight platform (R3). -/
inductive Berth where
  | bot | top | mw | me
deriving DecidableEq, Repr

/-- The kind of a gate lane (R13). -/
inductive LaneKind where
  | entry | exit
deriving DecidableEq, Repr

/-- Slot ownership (R82). -/
inductive SlotMode where
  | shared | consoleBoth | driveBoth
deriving DecidableEq, Repr

/-- The numeric parameters, in the order of the table of R6. -/
inductive NumParam where
  | trackLen | midStop | ovtTol | overshootTol | alignTol | stopZone | kEnc | ts | vstill | nStill
  | vcreep | vinsp | vred | vmax | vabs | aNom | aFloor | derate | personKg | capacity
  | kWarn | kSrv | kEm | xtol | mkTol | mkMiss | creepTol | rollbackTol | tDrv | tCar
  | brkFbTmo | sbGrace | minDwell | alightLead | doorTmo | settleT | passTmo
deriving DecidableEq, Repr

/-- A configuration parameter (R6): a number, or one of the two enumerated ones. -/
inductive Param where
  | num (p : NumParam)
  | slotMode
  | walkwaySide
deriving DecidableEq, Repr

/-- A standing, requested or trip mode (R82, R85). -/
inductive Mode where
  | normal | reduced | inspection
deriving DecidableEq, Repr

/-- What starts a slot's trip (R82). -/
inductive Trigger where
  | immediate | dispatch | dwell
deriving DecidableEq, Repr

/-- A slot's destination (R82). -/
inductive Destination where
  | stop (k : Stop)
  | shuttleExpress
  | shuttleAll
deriving DecidableEq, Repr

/-- The two trip request slots (R82). -/
inductive SlotId where
  | slot0 | slot1
deriving DecidableEq, Repr

/-- The two sheave brakes (R61). -/
inductive Brake where
  | service | emergency
deriving DecidableEq, Repr

/-- A brake feedback level (R61, R164). -/
inductive Feedback where
  | applied | released
deriving DecidableEq, Repr

/-- A direction of the line: UP_A when car A ascends, DOWN_A when it descends (R1). -/
inductive TripDir where
  | upA | downA
deriving DecidableEq, Repr

/-- The record kinds of a snapshot, in their fixed order (R159). -/
inductive SnapKind where
  | line | trip | slots | carA | carB | speed | brakes | platforms | lanes | reservations | incidentHead | resetCause
deriving DecidableEq, Repr

/-- The notice kinds, in the order of the table of R166. -/
inductive NoticeKind where
  | emergencyBrake | serviceBrake | fault | passengerAlarm | tripStarted | tripDone | tripAborted | tripStopped
  | triggerRefused | triggerIgnored | overspeedWarn | admissionOpen | admissionClosed | laneFault
  | incidentCaptured | incidentOverflow | lineState | modeChanged
deriving DecidableEq, Repr

/-- Why a frame is dropped without a reply (R154). -/
inductive DiscardCause where
  | wrongCheck | overLong | prematureIdle | duringReset
deriving DecidableEq, Repr

/-- The identity of a gate lane (R13). -/
structure LaneId where
  gate : Gate
  num  : Fin 8
deriving DecidableEq, Repr

/-- An enumerated field as sent: a value its rule lists, or a code that names none (R152, R155). -/
inductive Coded (α : Type) where
  | listed (a : α)
  | unlisted (code : Nat)
deriving DecidableEq, Repr

/-- A request's payload: it carries the request's fields, or its bytes do not (R155: BAD_REQUEST). -/
inductive Payload (α : Type) where
  | fields (f : α)
  | malformed (bytes : List Byte)
deriving DecidableEq, Repr

/-- A lane named in a request: a station and a lane number as sent (R14, R127). -/
structure LaneRef where
  gate : Coded Gate
  num  : Nat
deriving DecidableEq, Repr

/-- The fields of TRIP REQUEST (R83). The slot is optional. -/
structure TripRequestFields where
  slot    : Option Nat
  dest    : Coded Destination
  mode    : Coded Mode
  trigger : Coded Trigger
  oneShot : Coded Bool
  mask    : Coded Bool
deriving DecidableEq, Repr

/-- The target of MAINT END: one side of a car, or ALL (R118). -/
inductive MaintTarget where
  | all
  | side (car : Coded Car) (side : Coded Side)
deriving DecidableEq, Repr

/-- The fields of LANE PUT (R14). -/
structure LanePutFields where
  lane     : LaneRef
  kind     : Coded LaneKind
  platform : Coded Platform
deriving DecidableEq, Repr

/-- The target of CLEAR UNCOUNTED: a car or a board platform, named by its berth (R139). -/
inductive UncountedTarget where
  | car (c : Car)
  | board (b : Berth)
deriving DecidableEq, Repr

/-- What READ PARAMETER names: a parameter, or a platform's door side (R15). -/
inductive ReadName where
  | param (p : Param)
  | doorSide (p : Platform)
deriving DecidableEq, Repr

/-- What READ ENTRY names: a table and an index in it (R15). -/
inductive EntryRef where
  | segment (number : Nat)
  | marker (number : Nat)
  | lane (ref : LaneRef)
  | unlistedTable (code : Nat) (index : Nat)
deriving DecidableEq, Repr

/-- The head of a request frame (R152). -/
structure Head where
  cls     : BitVec 2
  station : BitVec 3
  code    : BitVec 7
deriving DecidableEq, Repr

/-- The commands: one constructor per row of spec/opcode_table.json, in its order. -/
inductive Instr where
  /-- CAR_POLL (R37, R38): the seven payload bytes of R157, or bytes of another length. -/
  | carPoll (st : Station) (bytes : List Byte)
  /-- STOP (R76). -/
  | stop (st : Station) (p : Payload Unit)
  /-- ESTOP (R76). -/
  | estop (st : Station) (p : Payload Unit)
  /-- RUN_REFRESH (R68). -/
  | runRefresh (st : Station) (p : Payload Unit)
  /-- CLEAR_BRAKE (R79). -/
  | clearBrake (st : Station) (p : Payload Unit)
  /-- TRIP_REQUEST (R83). -/
  | tripRequest (st : Station) (p : Payload TripRequestFields)
  /-- CANCEL_TRIP (R84): the slot, optional. -/
  | cancelTrip (st : Station) (p : Payload (Option Nat))
  /-- SET_MODE (R85). -/
  | setMode (st : Station) (p : Payload (Coded Mode))
  /-- SET_LIMIT (R53): the speed. -/
  | setLimit (st : Station) (p : Payload Int)
  /-- EVACUATE (R115). -/
  | evacuate (st : Station) (p : Payload (Coded Car))
  /-- EVACUATE_END (R115). -/
  | evacuateEnd (st : Station) (p : Payload (Coded Car))
  /-- MAINT_RELEASE (R117). -/
  | maintRelease (st : Station) (p : Payload (Coded Car × Coded Side))
  /-- MAINT_END (R118). -/
  | maintEnd (st : Station) (p : Payload MaintTarget)
  /-- ADMIT (R127). -/
  | admitPerson (st : Station) (p : Payload LaneRef)
  /-- PASSED (R128). -/
  | passed (st : Station) (p : Payload LaneRef)
  /-- ABANDONED (R131). -/
  | abandoned (st : Station) (p : Payload LaneRef)
  /-- EXITED (R134). -/
  | exited (st : Station) (p : Payload LaneRef)
  /-- OPEN (R144). -/
  | openLine (st : Station) (p : Payload Unit)
  /-- CLOSE (R146). -/
  | closeLine (st : Station) (p : Payload Unit)
  /-- INSPECTION_ENTER (R147). -/
  | inspectionEnter (st : Station) (p : Payload Unit)
  /-- INSPECTION_LEAVE (R148). -/
  | inspectionLeave (st : Station) (p : Payload Unit)
  /-- SET_REFERENCE (R21). -/
  | setReference (st : Station) (p : Payload (Coded Stop))
  /-- SET_CLEAR_IN_INSPECTION (R149). -/
  | setClearInInspection (st : Station) (p : Payload (Coded Bool))
  /-- RESET_PART (R175). -/
  | resetPart (st : Station) (p : Payload Unit)
  /-- SET_PARAMETER (R6): the parameter and the value, a number or an enumerated value's code. -/
  | setParameter (st : Station) (p : Payload (Coded Param × Int))
  /-- PLATFORM_SIDE (R4). -/
  | platformSide (st : Station) (p : Payload (Coded Platform × Coded Side))
  /-- PROFILE_PUT (R10): the start and the limit. -/
  | profilePut (st : Station) (p : Payload (Int × Int))
  /-- PROFILE_REMOVE (R10): the segment number. -/
  | profileRemove (st : Station) (p : Payload Nat)
  /-- PROFILE_CLEAR (R10). -/
  | profileClear (st : Station) (p : Payload Unit)
  /-- MARKER_PUT (R12): the position. -/
  | markerPut (st : Station) (p : Payload Int)
  /-- MARKER_REMOVE (R12): the marker number. -/
  | markerRemove (st : Station) (p : Payload Nat)
  /-- MARKER_CLEAR (R12). -/
  | markerClear (st : Station) (p : Payload Unit)
  /-- LANE_PUT (R14). -/
  | lanePut (st : Station) (p : Payload LanePutFields)
  /-- LANE_REMOVE (R14). -/
  | laneRemove (st : Station) (p : Payload LaneRef)
  /-- COMMIT (R16). -/
  | commit (st : Station) (p : Payload Unit)
  /-- ENABLE_LANE (R137). -/
  | enableLane (st : Station) (p : Payload LaneRef)
  /-- DISABLE_LANE (R137). -/
  | disableLane (st : Station) (p : Payload LaneRef)
  /-- ADJUST_LOAD (R138): the car and the aboard count. -/
  | adjustLoad (st : Station) (p : Payload (Coded Car × Int))
  /-- CLEAR_UNCOUNTED (R139). -/
  | clearUncounted (st : Station) (p : Payload (Coded UncountedTarget))
  /-- CLEAR_ALARM (R140). -/
  | clearAlarm (st : Station) (p : Payload (Coded Car))
  /-- READ_PARAMETER (R15). -/
  | readParameter (st : Station) (p : Payload (Coded ReadName))
  /-- READ_ENTRY (R15). -/
  | readEntry (st : Station) (p : Payload EntryRef)
  /-- SNAPSHOT_SELECT (R160): the list of kinds. -/
  | snapshotSelect (st : Station) (p : Payload (List (Coded SnapKind)))
  /-- SNAPSHOT (R161). -/
  | snapshot (st : Station) (p : Payload Unit)
  /-- NEXT_NOTICE (R169). -/
  | nextNotice (st : Station) (p : Payload Unit)
  /-- NOTICE_ENABLE (R170): the list of kinds. -/
  | noticeEnable (st : Station) (p : Payload (List (Coded NoticeKind)))
  /-- INCIDENT_READ (R173): the sequence number. -/
  | incidentRead (st : Station) (p : Payload Int)
  /-- INCIDENT_ACK (R173): the sequence number. -/
  | incidentAck (st : Station) (p : Payload Int)
  /-- RESET_CAUSE_READ (R174). -/
  | resetCauseRead (st : Station) (p : Payload Unit)
  /-- UNKNOWN_REQUEST_FRAME (R155, checks 1 and 2): the head of a frame taken whole. -/
  | unknownRequestFrame (head : Head)
  /-- FRAME_DISCARDED (R154). -/
  | frameDiscarded (why : DiscardCause)
  /-- REPLY_COLLISION (R156). -/
  | replyCollision
  /-- SPEED_SAMPLE (R27). -/
  | speedSample
  /-- ENCODER_EDGE (R19): one quadrature edge, in the direction given. -/
  | encoderEdge (dir : TripDir)
  /-- CAR_REPORT_STALE (R39). -/
  | carReportStale (car : Car)
  /-- DRIVE_REFRESH_TIMER_EXPIRY (R69). -/
  | driveRefreshTimerExpiry
  /-- RELEASE_WAIT_EXPIRY (R71). -/
  | releaseWaitExpiry
  /-- APPLY_TIMER_EXPIRY (R72). -/
  | applyTimerExpiry (brake : Brake)
  /-- BRAKE_FEEDBACK_CHANGE (R72, R164): the input takes a new filtered level. -/
  | brakeFeedbackChange (brake : Brake) (level : Feedback)
  /-- DISPATCH_INPUT_CHANGE (R87, R164): the pushbutton line takes a new level. -/
  | dispatchInputChange (high : Bool)
  /-- DISPATCH (R87): the debounced level rises. -/
  | dispatch
  /-- MIN_DWELL_EXPIRY (R96). -/
  | minDwellExpiry
  /-- SETTLE_TIMER_EXPIRY (R99). -/
  | settleTimerExpiry
  /-- LEAD_TIMER_EXPIRY (R110). -/
  | leadTimerExpiry
  /-- DOOR_CLOSE_TIMER_EXPIRY (R113). -/
  | doorCloseTimerExpiry
  /-- LAPSE (R132): the lapse timer of the lane's reservation expires. -/
  | lapse (lane : LaneId)
  /-- POWER_ON_RESET (R18, R164). -/
  | powerOnReset
  /-- PIN_RESET (R164): RESET_N is driven low and, where `released`, returns high in the same command. -/
  | pinReset (released : Bool)
  /-- SUPPLY_LOW (R164). -/
  | supplyLow
  /-- RESET_PIN_RELEASED (R164). -/
  | resetPinReleased
  /-- SUPPLY_RESTORED (R164). -/
  | supplyRestored
  /-- DEBOUNCED_LEVEL_FALL (R87). -/
  | debouncedLevelFall
  /-- FEEDBACK_INPUT_CHANGE (R164): the input's level before its filter. -/
  | feedbackInputChange (brake : Brake) (level : Feedback)
deriving DecidableEq, Repr

end Sys2Proof
end

