-- ==== Sys2Proof/Decode.lean ====
section
/-! DEFINITION. The commands that a word spells by the bits of spec/opcode_table.json. No row of the table gives
bits, so no word spells a command; the frames of the line bus are read in Machine/Frames.lean (`commandOnWire`). -/

namespace Sys2Proof

/-- The command that the table's bits spell: none, for no row gives any (log 5). -/
def decodeTableWord (_nbits _w : Nat) : Option Instr := none

end Sys2Proof
end

