-- ==== Sys2Proof/Config.lean ====
section
/-! DEFINITION. The fixed sizes, limits and times of the 2260 that no request can change. The spec leaves no
result to the implementation, so there is no free value here. -/

namespace Sys2Proof.Config

/-- Entries the profile table holds (R9). -/
def profileMax : Nat := 24
/-- Entries the marker table holds (R11). -/
def markerMax : Nat := 48
/-- Records the incident list holds (R171). -/
def incidentMax : Nat := 16
/-- Greatest start of a segment and position of a marker, in cm (R10, R12). -/
def positionMax : Nat := 400000
/-- The limits of a segment's limit, in cm/s (R10). -/
def limitMin : Nat := 10
def limitMax : Nat := 1200
/-- How far beyond each terminal P is clamped, in cm (R19). -/
def clampBeyond : Int := 2000
/-- Encoder counts to which K_ENC refers (R19). -/
def encUnit : Int := 65536
/-- The greatest rope or car speed, in cm/s (R27, R36). -/
def speedMax : Nat := 4095
/-- The limit of the still-sample count (R29). -/
def stillMax : Nat := 50
/-- The limit of a mismatch count (R35). -/
def mismatchMax : Nat := 3
/-- The limit of the uncounted counts (R122) and of the overflow count (R171). -/
def count255 : Nat := 255
/-- The modulus of trip numbers (R92) and of sequence numbers (R171). -/
def wrap16 : Nat := 65536
/-- The limit of an age shown in a snapshot, in ms (R36, R61). -/
def ageMax : Nat := 65535
/-- Consecutive lapses that fault a lane (R132). -/
def lapseMax : Nat := 3
/-- The debounce of the dispatcher's line, in ms (R87). -/
def debounceMs : Nat := 50
/-- The hold of a feedback input and of the dispatcher's line, in ms (R164). -/
def inputHoldMs : Nat := 2
/-- Bytes of records a snapshot carries at most (R161). -/
def snapshotRoom : Nat := 238
/-- Bytes of payload a frame carries at most (R152). -/
def payloadMax : Nat := 240

end Sys2Proof.Config
end

