-- ==== Sys2Proof/Machine/Params.lean ====
section
/-! DEFINITION. The configuration parameters: their store, the table of R6 (write ranges and power-on values)
and the reading and writing of one parameter. -/

namespace Sys2Proof.Machine

/-- The stored parameters (R6). -/
structure Params where
  trackLen     : Nat
  midStop      : Nat
  ovtTol       : Nat
  overshootTol : Nat
  alignTol     : Nat
  stopZone     : Nat
  kEnc         : Nat
  ts           : Nat
  vstill       : Nat
  nStill       : Nat
  vcreep       : Nat
  vinsp        : Nat
  vred         : Nat
  vmax         : Nat
  vabs         : Nat
  aNom         : Nat
  aFloor       : Nat
  derate       : Nat
  personKg     : Nat
  capacity     : Nat
  kWarn        : Nat
  kSrv         : Nat
  kEm          : Nat
  xtol         : Nat
  mkTol        : Nat
  mkMiss       : Nat
  creepTol     : Nat
  rollbackTol  : Nat
  tDrv         : Nat
  tCar         : Nat
  brkFbTmo     : Nat
  sbGrace      : Nat
  minDwell     : Nat
  alightLead   : Nat
  doorTmo      : Nat
  settleT      : Nat
  passTmo      : Nat
  slotMode     : SlotMode
  walkwaySide  : Side
deriving DecidableEq, Repr

/-- One line of the table of R6: the write range and the power-on value. -/
structure ParamRow where
  lo      : Nat
  hi      : Nat
  powerOn : Nat
deriving DecidableEq, Repr

/-- The table of R6. -/
def paramRow : NumParam → ParamRow
  | .trackLen     => ⟨10000, 400000, 10000⟩
  | .midStop      => ⟨0, 399000, 0⟩
  | .ovtTol       => ⟨10, 1000, 200⟩
  | .overshootTol => ⟨5, 500, 50⟩
  | .alignTol     => ⟨1, 50, 5⟩
  | .stopZone     => ⟨100, 5000, 1000⟩
  | .kEnc         => ⟨1, 65535, 10000⟩
  | .ts           => ⟨10, 50, 20⟩
  | .vstill       => ⟨1, 20, 3⟩
  | .nStill       => ⟨2, 50, 10⟩
  | .vcreep       => ⟨10, 100, 30⟩
  | .vinsp        => ⟨10, 200, 100⟩
  | .vred         => ⟨10, 1200, 500⟩
  | .vmax         => ⟨100, 1200, 1000⟩
  | .vabs         => ⟨100, 1500, 1300⟩
  | .aNom         => ⟨20, 200, 80⟩
  | .aFloor       => ⟨10, 200, 40⟩
  | .derate       => ⟨0, 100, 12⟩
  | .personKg     => ⟨40, 150, 80⟩
  | .capacity     => ⟨1, 250, 1⟩
  | .kWarn        => ⟨0, 64, 6⟩
  | .kSrv         => ⟨1, 64, 13⟩
  | .kEm          => ⟨17, 112, 32⟩
  | .xtol         => ⟨20, 200, 60⟩
  | .mkTol        => ⟨5, 200, 30⟩
  | .mkMiss       => ⟨50, 2000, 300⟩
  | .creepTol     => ⟨2, 50, 10⟩
  | .rollbackTol  => ⟨10, 200, 50⟩
  | .tDrv         => ⟨100, 1000, 200⟩
  | .tCar         => ⟨50, 500, 100⟩
  | .brkFbTmo     => ⟨100, 2000, 500⟩
  | .sbGrace      => ⟨200, 2000, 800⟩
  | .minDwell     => ⟨10, 600, 30⟩
  | .alightLead   => ⟨0, 60, 10⟩
  | .doorTmo      => ⟨5, 60, 20⟩
  | .settleT      => ⟨0, 10000, 1500⟩
  | .passTmo      => ⟨2, 20, 8⟩

/-- The stored value of a numeric parameter. -/
def Params.get (p : Params) : NumParam → Nat
  | .trackLen     => p.trackLen
  | .midStop      => p.midStop
  | .ovtTol       => p.ovtTol
  | .overshootTol => p.overshootTol
  | .alignTol     => p.alignTol
  | .stopZone     => p.stopZone
  | .kEnc         => p.kEnc
  | .ts           => p.ts
  | .vstill       => p.vstill
  | .nStill       => p.nStill
  | .vcreep       => p.vcreep
  | .vinsp        => p.vinsp
  | .vred         => p.vred
  | .vmax         => p.vmax
  | .vabs         => p.vabs
  | .aNom         => p.aNom
  | .aFloor       => p.aFloor
  | .derate       => p.derate
  | .personKg     => p.personKg
  | .capacity     => p.capacity
  | .kWarn        => p.kWarn
  | .kSrv         => p.kSrv
  | .kEm          => p.kEm
  | .xtol         => p.xtol
  | .mkTol        => p.mkTol
  | .mkMiss       => p.mkMiss
  | .creepTol     => p.creepTol
  | .rollbackTol  => p.rollbackTol
  | .tDrv         => p.tDrv
  | .tCar         => p.tCar
  | .brkFbTmo     => p.brkFbTmo
  | .sbGrace      => p.sbGrace
  | .minDwell     => p.minDwell
  | .alightLead   => p.alightLead
  | .doorTmo      => p.doorTmo
  | .settleT      => p.settleT
  | .passTmo      => p.passTmo

/-- The parameters with one numeric parameter stored. -/
def Params.put (p : Params) (v : Nat) : NumParam → Params
  | .trackLen     => { p with trackLen := v }
  | .midStop      => { p with midStop := v }
  | .ovtTol       => { p with ovtTol := v }
  | .overshootTol => { p with overshootTol := v }
  | .alignTol     => { p with alignTol := v }
  | .stopZone     => { p with stopZone := v }
  | .kEnc         => { p with kEnc := v }
  | .ts           => { p with ts := v }
  | .vstill       => { p with vstill := v }
  | .nStill       => { p with nStill := v }
  | .vcreep       => { p with vcreep := v }
  | .vinsp        => { p with vinsp := v }
  | .vred         => { p with vred := v }
  | .vmax         => { p with vmax := v }
  | .vabs         => { p with vabs := v }
  | .aNom         => { p with aNom := v }
  | .aFloor       => { p with aFloor := v }
  | .derate       => { p with derate := v }
  | .personKg     => { p with personKg := v }
  | .capacity     => { p with capacity := v }
  | .kWarn        => { p with kWarn := v }
  | .kSrv         => { p with kSrv := v }
  | .kEm          => { p with kEm := v }
  | .xtol         => { p with xtol := v }
  | .mkTol        => { p with mkTol := v }
  | .mkMiss       => { p with mkMiss := v }
  | .creepTol     => { p with creepTol := v }
  | .rollbackTol  => { p with rollbackTol := v }
  | .tDrv         => { p with tDrv := v }
  | .tCar         => { p with tCar := v }
  | .brkFbTmo     => { p with brkFbTmo := v }
  | .sbGrace      => { p with sbGrace := v }
  | .minDwell     => { p with minDwell := v }
  | .alightLead   => { p with alightLead := v }
  | .doorTmo      => { p with doorTmo := v }
  | .settleT      => { p with settleT := v }
  | .passTmo      => { p with passTmo := v }

/-- Every parameter at its power-on value (R6, R18). -/
def Params.powerOn : Params :=
  let v (p : NumParam) : Nat := (paramRow p).powerOn
  { trackLen := v .trackLen, midStop := v .midStop, ovtTol := v .ovtTol, overshootTol := v .overshootTol,
    alignTol := v .alignTol, stopZone := v .stopZone, kEnc := v .kEnc, ts := v .ts, vstill := v .vstill,
    nStill := v .nStill, vcreep := v .vcreep, vinsp := v .vinsp, vred := v .vred, vmax := v .vmax,
    vabs := v .vabs, aNom := v .aNom, aFloor := v .aFloor, derate := v .derate, personKg := v .personKg,
    capacity := v .capacity, kWarn := v .kWarn, kSrv := v .kSrv, kEm := v .kEm, xtol := v .xtol,
    mkTol := v .mkTol, mkMiss := v .mkMiss, creepTol := v .creepTol, rollbackTol := v .rollbackTol,
    tDrv := v .tDrv, tCar := v .tCar, brkFbTmo := v .brkFbTmo, sbGrace := v .sbGrace,
    minDwell := v .minDwell, alightLead := v .alightLead, doorTmo := v .doorTmo, settleT := v .settleT,
    passTmo := v .passTmo, slotMode := .shared, walkwaySide := .left }

end Sys2Proof.Machine
end

