-- ==== Sys2Proof/Machine/Operands.lean ====
section
/-! DEFINITION. The operand forms: the lists of values by which enumerated fields are encoded, the payload of
every request as bytes (R152, R157), read and written, and the request catalogue of section 9.7 (R155).

R152: numbers are four bytes, signed, most significant byte first; an enumerated value is one byte, its position
in its rule's list; an optional field is preceded by a presence byte; a list by its number of items. Where the
spec does not fix a list (stations, yes/no, ALL, targets) the choice is in log 17. -/

namespace Sys2Proof.Machine

/-! ## Lists of values -/

/-- R3's order of the platforms. -/
def allPlatforms : List Platform :=
  [.botBoard, .botAlight, .topBoard, .topAlight, .mwBoard, .mwAlight, .meBoard, .meAlight]
/-- The berths, in the order of their board platforms in R3. -/
def allBerths : List Berth := [.bot, .top, .mw, .me]
def allSides : List Side := [.left, .right]
def allCars : List Car := [.a, .b]
def allStops : List Stop := [.bottom, .middle, .top]
def allGates : List Gate := [.bot, .mid, .top]
def allLaneKinds : List LaneKind := [.entry, .exit]
def allModes : List Mode := [.normal, .reduced, .inspection]
def allTriggers : List Trigger := [.immediate, .dispatch, .dwell]
def allSlotModes : List SlotMode := [.shared, .consoleBoth, .driveBoth]
def allDestinations : List Destination :=
  [.stop .bottom, .stop .middle, .stop .top, .shuttleExpress, .shuttleAll]
/-- 'yes or no', 'on or off', in the order the rules name them (R82, R149). -/
def allFlags : List Bool := [true, false]
def allStations : List Station := [.drv, .carA, .carB, .gateBot, .gateMid, .gateTop, .con]
/-- The numeric parameters in the order of the table of R6. -/
def allNumParams : List NumParam :=
  [.trackLen, .midStop, .ovtTol, .overshootTol, .alignTol, .stopZone, .kEnc, .ts, .vstill, .nStill,
   .vcreep, .vinsp, .vred, .vmax, .vabs, .aNom, .aFloor, .derate, .personKg, .capacity,
   .kWarn, .kSrv, .kEm, .xtol, .mkTol, .mkMiss, .creepTol, .rollbackTol, .tDrv, .tCar,
   .brkFbTmo, .sbGrace, .minDwell, .alightLead, .doorTmo, .settleT, .passTmo]
/-- The parameters in the order of the table of R6. -/
def allParams : List Param := allNumParams.map .num ++ [.slotMode, .walkwaySide]
def allReadNames : List ReadName := allParams.map .param ++ allPlatforms.map .doorSide
def allTargets : List UncountedTarget := allCars.map .car ++ allBerths.map .board
/-- The record kinds in the fixed order of R159. -/
def allSnapKinds : List SnapKind :=
  [.line, .trip, .slots, .carA, .carB, .speed, .brakes, .platforms, .lanes, .reservations, .incidentHead,
   .resetCause]
/-- The notice kinds in the order of R166. -/
def allNoticeKinds : List NoticeKind :=
  [.emergencyBrake, .serviceBrake, .fault, .passengerAlarm, .tripStarted, .tripDone, .tripAborted, .tripStopped,
   .triggerRefused, .triggerIgnored, .overspeedWarn, .admissionOpen, .admissionClosed, .laneFault,
   .incidentCaptured, .incidentOverflow, .lineState, .modeChanged]

/-- The value a code names in a list, or the code itself where it names none (R152). -/
def codedIn {α : Type} (l : List α) (code : Nat) : Coded α :=
  match l[code]? with
  | some a => .listed a
  | none => .unlisted code

/-- The code of an enumerated field as sent (R152). -/
def codeIn {α : Type} [DecidableEq α] (l : List α) : Coded α → Nat
  | .listed a => l.idxOf a
  | .unlisted code => code

/-- The value of an enumerated field, where it names one. -/
def listed? {α : Type} : Coded α → Option α
  | .listed a => some a
  | .unlisted _ => none

/-! ## Stations and their numbers -/

/-- The station numbers of section 9.7. -/
def stationNumber : Station → Nat
  | .drv => 1 | .carA => 2 | .carB => 3 | .gateBot => 4 | .gateMid => 5 | .gateTop => 6 | .con => 7

/-- The station a number names; 0 names none (R155, check 2). -/
def stationOf (n : Nat) : Option Station :=
  if n = 0 then none else allStations[n - 1]?

def gateStation : Gate → Station
  | .bot => .gateBot | .mid => .gateMid | .top => .gateTop

/-- The gate station a station number names (log 17). -/
def gateCoded (n : Nat) : Coded Gate :=
  if n = 4 then .listed .bot else if n = 5 then .listed .mid else if n = 6 then .listed .top else .unlisted n

def gateCode : Coded Gate → Nat
  | .listed .bot => 4
  | .listed .mid => 5
  | .listed .top => 6
  | .unlisted n => n

/-- The lane identity a request names, where its station is a gate station and its number is 0..7 (R13, R14). -/
def laneId? (r : LaneRef) : Option LaneId :=
  match r.gate with
  | .listed g => if h : r.num < 8 then some ⟨g, ⟨r.num, h⟩⟩ else none
  | .unlisted _ => none

/-! ## Reading and writing bytes -/

/-- A number as four bytes, signed, most significant first (R152). -/
def numBytes (n : Int) : List Byte :=
  let w := BitVec.ofInt 32 n
  [w.extractLsb' 24 8, w.extractLsb' 16 8, w.extractLsb' 8 8, w.extractLsb' 0 8]

def takeNum : List Byte → Option (Int × List Byte)
  | b3 :: b2 :: b1 :: b0 :: rest => some ((b3 ++ b2 ++ b1 ++ b0 : BitVec 32).toInt, rest)
  | _ => none

def byteOf (n : Nat) : Byte := BitVec.ofNat 8 n

def takeByte : List Byte → Option (Nat × List Byte)
  | b :: rest => some (b.toNat, rest)
  | [] => none

/-- One enumerated byte. -/
def takeCoded {α : Type} (l : List α) (bs : List Byte) : Option (Coded α × List Byte) :=
  (takeByte bs).map fun r => (codedIn l r.1, r.2)

/-- An optional byte after its presence byte, 0 absent or 1 present (R152). DESIGN CHOICE: a presence byte that is neither
carries no fields, so that the payload is malformed (log 42). -/
def takeOptByte : List Byte → Option (Option Nat × List Byte)
  | p :: rest =>
    if p = 0 then some (none, rest)
    else if p = 1 then (takeByte rest).map fun r => (some r.1, r.2)
    else none
  | [] => none

def optByteBytes : Option Nat → List Byte
  | none => [0]
  | some n => [1, byteOf n]

/-- A list of enumerated bytes after its number of items; it must end the payload. -/
def takeCodedList {α : Type} (l : List α) : List Byte → Option (List (Coded α) × List Byte)
  | n :: rest => if rest.length = n.toNat then some (rest.map (fun b => codedIn l b.toNat), []) else none
  | [] => none

def codedListBytes {α : Type} [DecidableEq α] (l : List α) (xs : List (Coded α)) : List Byte :=
  byteOf xs.length :: xs.map (fun x => byteOf (codeIn l x))

def takeLaneRef : List Byte → Option (LaneRef × List Byte)
  | g :: n :: rest => some (⟨gateCoded g.toNat, n.toNat⟩, rest)
  | _ => none

def laneRefBytes (r : LaneRef) : List Byte := [byteOf (gateCode r.gate), byteOf r.num]

/-- The fields a payload carries, or the payload itself where it is too short, too long or not theirs (R155). -/
def readPayload {α : Type} (take : List Byte → Option (α × List Byte)) (bs : List Byte) : Payload α :=
  match take bs with
  | some (f, []) => .fields f
  | _ => .malformed bs

/-- A payload's bytes, given the bytes of its fields. -/
def payloadBytes {α : Type} (put : α → List Byte) : Payload α → List Byte
  | .fields f => put f
  | .malformed bs => bs

/-! ## The payload of each request -/

def takeUnit (bs : List Byte) : Option (Unit × List Byte) := some ((), bs)
def unitBytes (_ : Unit) : List Byte := []

def takePair {α β : Type} (p : List Byte → Option (α × List Byte)) (q : List Byte → Option (β × List Byte))
    (bs : List Byte) : Option ((α × β) × List Byte) :=
  match p bs with
  | some (a, rest) => (q rest).map fun r => ((a, r.1), r.2)
  | none => none

def codedByte {α : Type} [DecidableEq α] (l : List α) (c : Coded α) : List Byte := [byteOf (codeIn l c)]

def takeTripRequest (bs : List Byte) : Option (TripRequestFields × List Byte) :=
  match takeOptByte bs with
  | some (slot, d :: m :: t :: o :: k :: rest) =>
    some (⟨slot, codedIn allDestinations d.toNat, codedIn allModes m.toNat, codedIn allTriggers t.toNat,
      codedIn allFlags o.toNat, codedIn allFlags k.toNat⟩, rest)
  | _ => none

def tripRequestBytes (f : TripRequestFields) : List Byte :=
  optByteBytes f.slot ++
    [byteOf (codeIn allDestinations f.dest), byteOf (codeIn allModes f.mode), byteOf (codeIn allTriggers f.trigger),
     byteOf (codeIn allFlags f.oneShot), byteOf (codeIn allFlags f.mask)]

/-- MAINT END: ALL is sent as an absent side of a car (log 17). DESIGN CHOICE: a presence byte that is neither 0 nor 1 is
malformed (log 42). -/
def takeMaintTarget : List Byte → Option (MaintTarget × List Byte)
  | p :: rest =>
    if p = 0 then some (.all, rest)
    else if p = 1 then
      match rest with
      | c :: d :: rest' => some (.side (codedIn allCars c.toNat) (codedIn allSides d.toNat), rest')
      | _ => none
    else none
  | [] => none

def maintTargetBytes : MaintTarget → List Byte
  | .all => [0]
  | .side c d => [1, byteOf (codeIn allCars c), byteOf (codeIn allSides d)]

/-- SET PARAMETER: an enumerated parameter's value is one byte, any other value is a number (R152). DESIGN CHOICE: so is the
value beside a parameter that is not listed; any other length is malformed (log 42). -/
def takeSetParameter : List Byte → Option ((Coded Param × Int) × List Byte)
  | c :: rest =>
    match codedIn allParams c.toNat with
    | .listed .slotMode => (takeByte rest).map fun r => ((.listed .slotMode, (r.1 : Int)), r.2)
    | .listed .walkwaySide => (takeByte rest).map fun r => ((.listed .walkwaySide, (r.1 : Int)), r.2)
    | p => (takeNum rest).map fun r => ((p, r.1), r.2)
  | [] => none

def setParameterBytes (f : Coded Param × Int) : List Byte :=
  byteOf (codeIn allParams f.1) ::
    match f.1 with
    | .listed .slotMode => [byteOf f.2.toNat]
    | .listed .walkwaySide => [byteOf f.2.toNat]
    | _ => numBytes f.2

def takeLanePut (bs : List Byte) : Option (LanePutFields × List Byte) :=
  match takeLaneRef bs with
  | some (lane, k :: p :: rest) => some (⟨lane, codedIn allLaneKinds k.toNat, codedIn allPlatforms p.toNat⟩, rest)
  | _ => none

def lanePutBytes (f : LanePutFields) : List Byte :=
  laneRefBytes f.lane ++ [byteOf (codeIn allLaneKinds f.kind), byteOf (codeIn allPlatforms f.platform)]

/-- READ ENTRY: the tables in the order R15 names them, 0 profile, 1 markers, 2 lanes. DESIGN CHOICE: beside a table that is
not listed stands a one-byte index; any other length is malformed (log 42). -/
def takeEntryRef : List Byte → Option (EntryRef × List Byte)
  | t :: rest =>
    if t = 0 then (takeByte rest).map fun r => (.segment r.1, r.2)
    else if t = 1 then (takeByte rest).map fun r => (.marker r.1, r.2)
    else if t = 2 then (takeLaneRef rest).map fun r => (.lane r.1, r.2)
    else (takeByte rest).map fun r => (.unlistedTable t.toNat r.1, r.2)
  | [] => none

def entryRefBytes : EntryRef → List Byte
  | .segment n => [0, byteOf n]
  | .marker n => [1, byteOf n]
  | .lane r => 2 :: laneRefBytes r
  | .unlistedTable t n => [byteOf t, byteOf n]

/-! ## The car poll (R157) -/

/-- A car's own sense of travel, in the encoding of R157 (0 NONE, 1 UP, 2 DOWN). -/
inductive CarDir where
  | none | up | down
deriving DecidableEq, Repr

/-- A door state (R36). -/
inductive DoorState where
  | locked | closed | moving | opened | obstructed
deriving DecidableEq, Repr

/-- A stop request (R36). -/
inductive StopReq where
  | none | stop | estop
deriving DecidableEq, Repr

/-- The fields of a car poll (R36, R157). -/
structure Poll where
  speed      : Nat
  dir        : CarDir
  left       : DoorState
  right      : DoorState
  marker     : Option Nat
  alarm      : Bool
  stopReq    : StopReq
  trackBrake : Bool
deriving DecidableEq, Repr

def allCarDirs : List CarDir := [.none, .up, .down]
def allDoorStates : List DoorState := [.locked, .closed, .moving, .opened, .obstructed]
def allStopReqs : List StopReq := [.none, .stop, .estop]

/-- The fields of the seven bytes of a car poll; none where any field is out of range (R37, R157). The marker
number is checked against the marker table by the CRU. -/
def pollOf (b0 b1 b2 b3 b4 b5 b6 : Byte) : Option Poll :=
  let speed := b0.toNat * 256 + b1.toNat
  match allCarDirs[b2.toNat]?, allDoorStates[b3.toNat]?, allDoorStates[b4.toNat]?, allStopReqs[b6.toNat / 4 % 4]? with
  | some dir, some left, some right, some stopReq =>
    if speed ≤ Config.speedMax ∧ b6.toNat / 16 = 0 then
      some { speed := speed, dir := dir, left := left, right := right,
             marker := if b5.toNat = 255 then none else some b5.toNat,
             alarm := b6.toNat % 2 = 1, stopReq := stopReq, trackBrake := b6.toNat / 2 % 2 = 1 }
    else none
  | _, _, _, _ => none

/-- The seven bytes of a car poll (R157). -/
def pollBytes (p : Poll) : List Byte :=
  [byteOf (p.speed / 256), byteOf (p.speed % 256), byteOf (allCarDirs.idxOf p.dir), byteOf (allDoorStates.idxOf p.left),
   byteOf (allDoorStates.idxOf p.right), byteOf (p.marker.getD 255),
   byteOf (p.alarm.toNat + 2 * p.trackBrake.toNat + 4 * allStopReqs.idxOf p.stopReq)]

/-! ## The request catalogue (section 9.7) -/

/-- The requests of the catalogue. -/
inductive Request where
  | carPoll | estop | stop | runRefresh | clearBrake | tripRequest | cancelTrip | setMode | setLimit | evacuate
  | evacuateEnd | maintRelease | maintEnd | admitPerson | passed | abandoned | exited | openLine | closeLine
  | inspectionEnter | inspectionLeave | setReference | setClearInInspection | resetPart | setParameter | platformSide
  | profilePut | profileRemove | profileClear | markerPut | markerRemove | markerClear | lanePut | laneRemove | commit
  | enableLane | disableLane | adjustLoad | clearUncounted | clearAlarm | readParameter | readEntry | snapshotSelect
  | snapshot | nextNotice | noticeEnable | incidentRead | incidentAck | resetCauseRead
deriving DecidableEq, Repr

/-- Who may send a request. -/
inductive Permit where
  | cars | con | drv | drvCon | gates | all
deriving DecidableEq, Repr

/-- A line of the catalogue. -/
structure CatalogueRow where
  cls    : BitVec 2
  permit : Permit
  code   : BitVec 7
deriving DecidableEq, Repr

/-- The catalogue of section 9.7: class, permitted stations and code of each request. -/
def catalogue : Request → CatalogueRow
  | .carPoll              => ⟨0, .cars, 1⟩
  | .estop                => ⟨0, .con, 2⟩
  | .stop                 => ⟨0, .drvCon, 3⟩
  | .runRefresh           => ⟨0, .drv, 4⟩
  | .clearBrake           => ⟨1, .drvCon, 16⟩
  | .tripRequest          => ⟨1, .drvCon, 17⟩
  | .cancelTrip           => ⟨1, .drvCon, 18⟩
  | .setMode              => ⟨1, .drvCon, 19⟩
  | .setLimit             => ⟨1, .drv, 20⟩
  | .evacuate             => ⟨1, .con, 21⟩
  | .evacuateEnd          => ⟨1, .con, 22⟩
  | .maintRelease         => ⟨1, .con, 23⟩
  | .maintEnd             => ⟨1, .con, 24⟩
  | .admitPerson          => ⟨2, .gates, 32⟩
  | .passed               => ⟨2, .gates, 33⟩
  | .abandoned            => ⟨2, .gates, 34⟩
  | .exited               => ⟨2, .gates, 35⟩
  | .openLine             => ⟨3, .con, 48⟩
  | .closeLine            => ⟨3, .con, 49⟩
  | .inspectionEnter      => ⟨3, .con, 50⟩
  | .inspectionLeave      => ⟨3, .con, 51⟩
  | .setReference         => ⟨3, .con, 52⟩
  | .setClearInInspection => ⟨3, .con, 53⟩
  | .resetPart            => ⟨3, .con, 54⟩
  | .setParameter         => ⟨3, .con, 64⟩
  | .platformSide         => ⟨3, .con, 65⟩
  | .profilePut           => ⟨3, .con, 66⟩
  | .profileRemove        => ⟨3, .con, 67⟩
  | .profileClear         => ⟨3, .con, 68⟩
  | .markerPut            => ⟨3, .con, 69⟩
  | .markerRemove         => ⟨3, .con, 70⟩
  | .markerClear          => ⟨3, .con, 71⟩
  | .lanePut              => ⟨3, .con, 72⟩
  | .laneRemove           => ⟨3, .con, 73⟩
  | .commit               => ⟨3, .con, 74⟩
  | .enableLane           => ⟨3, .con, 80⟩
  | .disableLane          => ⟨3, .con, 81⟩
  | .adjustLoad           => ⟨3, .con, 82⟩
  | .clearUncounted       => ⟨3, .con, 83⟩
  | .clearAlarm           => ⟨3, .con, 84⟩
  | .readParameter        => ⟨3, .all, 96⟩
  | .readEntry            => ⟨3, .all, 97⟩
  | .snapshotSelect       => ⟨3, .all, 98⟩
  | .snapshot             => ⟨3, .all, 99⟩
  | .nextNotice           => ⟨3, .all, 100⟩
  | .noticeEnable         => ⟨3, .all, 101⟩
  | .incidentRead         => ⟨3, .con, 102⟩
  | .incidentAck          => ⟨3, .con, 103⟩
  | .resetCauseRead       => ⟨3, .con, 104⟩

def allRequests : List Request :=
  [.carPoll, .estop, .stop, .runRefresh, .clearBrake, .tripRequest, .cancelTrip, .setMode, .setLimit, .evacuate,
   .evacuateEnd, .maintRelease, .maintEnd, .admitPerson, .passed, .abandoned, .exited, .openLine, .closeLine,
   .inspectionEnter, .inspectionLeave, .setReference, .setClearInInspection, .resetPart, .setParameter, .platformSide,
   .profilePut, .profileRemove, .profileClear, .markerPut, .markerRemove, .markerClear, .lanePut, .laneRemove, .commit,
   .enableLane, .disableLane, .adjustLoad, .clearUncounted, .clearAlarm, .readParameter, .readEntry, .snapshotSelect,
   .snapshot, .nextNotice, .noticeEnable, .incidentRead, .incidentAck, .resetCauseRead]

/-- The stations a catalogue line permits. -/
def permitted : Permit → Station → Bool
  | .cars, st => st = .carA ∨ st = .carB
  | .con, st => st = .con
  | .drv, st => st = .drv
  | .drvCon, st => st = .drv ∨ st = .con
  | .gates, st => st = .gateBot ∨ st = .gateMid ∨ st = .gateTop
  | .all, _ => true

/-- The configuration requests of R5 and the reads of R15, every reply to which carries the committed mark (R17). -/
def isStoreRequest : Request → Bool
  | .setParameter => true | .platformSide => true | .profilePut => true | .profileRemove => true
  | .profileClear => true | .markerPut => true | .markerRemove => true | .markerClear => true
  | .lanePut => true | .laneRemove => true | .commit => true | .readParameter => true | .readEntry => true
  | _ => false

/-- The request a frame head names: its code is in the catalogue and its class is the catalogue's (R155, check 1). -/
def requestOf (cls : BitVec 2) (code : BitVec 7) : Option Request :=
  allRequests.find? fun r => (catalogue r).code = code ∧ (catalogue r).cls = cls

end Sys2Proof.Machine
end

