-- ==== Sys2Proof/Machine/Blocks.lean ====
section
/-! DEFINITION. The state of each of the eleven blocks (00, "Block overview"), as each block's chapter lists it,
and of the pins. Items the spec defines as an exact function of other items (release permits R108, windows R123 and
R125, bindings R3, track brake demand R77, first cause R61, attention marks R165, reservation open R122) are not
stored: they are computed in Flags.lean and Ops.lean (log 26). -/

namespace Sys2Proof.Machine

/-! ## One value for each car, station, platform, berth, gate -/

structure PerCar (α : Type) where
  a : α
  b : α
deriving DecidableEq, Repr

def PerCar.get {α : Type} (p : PerCar α) : Car → α
  | .a => p.a
  | .b => p.b

def PerCar.set {α : Type} (p : PerCar α) (c : Car) (v : α) : PerCar α :=
  match c with
  | .a => { p with a := v }
  | .b => { p with b := v }

structure PerSide (α : Type) where
  left  : α
  right : α
deriving DecidableEq, Repr

def PerSide.get {α : Type} (p : PerSide α) : Side → α
  | .left => p.left
  | .right => p.right

def PerSide.set {α : Type} (p : PerSide α) (d : Side) (v : α) : PerSide α :=
  match d with
  | .left => { p with left := v }
  | .right => { p with right := v }

structure PerStation (α : Type) where
  drv     : α
  carA    : α
  carB    : α
  gateBot : α
  gateMid : α
  gateTop : α
  con     : α
deriving DecidableEq, Repr

def PerStation.get {α : Type} (p : PerStation α) : Station → α
  | .drv => p.drv | .carA => p.carA | .carB => p.carB
  | .gateBot => p.gateBot | .gateMid => p.gateMid | .gateTop => p.gateTop | .con => p.con

def PerStation.set {α : Type} (p : PerStation α) (st : Station) (v : α) : PerStation α :=
  match st with
  | .drv => { p with drv := v }
  | .carA => { p with carA := v }
  | .carB => { p with carB := v }
  | .gateBot => { p with gateBot := v }
  | .gateMid => { p with gateMid := v }
  | .gateTop => { p with gateTop := v }
  | .con => { p with con := v }

def PerStation.map {α β : Type} (f : α → β) (p : PerStation α) : PerStation β :=
  { drv := f p.drv, carA := f p.carA, carB := f p.carB, gateBot := f p.gateBot, gateMid := f p.gateMid,
    gateTop := f p.gateTop, con := f p.con }

/-- The same value for every station. -/
def PerStation.all {α : Type} (v : α) : PerStation α :=
  { drv := v, carA := v, carB := v, gateBot := v, gateMid := v, gateTop := v, con := v }

structure PerBerth (α : Type) where
  bot : α
  top : α
  mw  : α
  me  : α
deriving DecidableEq, Repr

def PerBerth.get {α : Type} (p : PerBerth α) : Berth → α
  | .bot => p.bot | .top => p.top | .mw => p.mw | .me => p.me

def PerBerth.set {α : Type} (p : PerBerth α) (b : Berth) (v : α) : PerBerth α :=
  match b with
  | .bot => { p with bot := v }
  | .top => { p with top := v }
  | .mw => { p with mw := v }
  | .me => { p with me := v }

structure PerPlatform (α : Type) where
  board  : PerBerth α
  alight : PerBerth α
deriving DecidableEq, Repr

/-- The berth of a platform (R3). -/
def berthOf : Platform → Berth
  | .botBoard => .bot | .botAlight => .bot | .topBoard => .top | .topAlight => .top
  | .mwBoard => .mw | .mwAlight => .mw | .meBoard => .me | .meAlight => .me

/-- Whether a platform is a board platform (R3). -/
def isBoard : Platform → Bool
  | .botBoard => true | .topBoard => true | .mwBoard => true | .meBoard => true
  | .botAlight => false | .topAlight => false | .mwAlight => false | .meAlight => false

def boardPlatform : Berth → Platform
  | .bot => .botBoard | .top => .topBoard | .mw => .mwBoard | .me => .meBoard

def alightPlatform : Berth → Platform
  | .bot => .botAlight | .top => .topAlight | .mw => .mwAlight | .me => .meAlight

def PerPlatform.get {α : Type} (p : PerPlatform α) (pf : Platform) : α :=
  if isBoard pf then p.board.get (berthOf pf) else p.alight.get (berthOf pf)

def PerPlatform.set {α : Type} (p : PerPlatform α) (pf : Platform) (v : α) : PerPlatform α :=
  if isBoard pf then { p with board := p.board.set (berthOf pf) v }
  else { p with alight := p.alight.set (berthOf pf) v }

/-- A running timer: when it was started and when it expires, in ms (R7: a running timer keeps its expiry). -/
structure Timer where
  start : Nat
  due   : Nat
deriving DecidableEq, Repr

/-! ## CFG (Chapter 1) -/

/-- A profile segment (R9). -/
structure Segment where
  start : Nat
  limit : Nat
deriving DecidableEq, Repr

/-- A configured lane's layout (R13). -/
structure Lane where
  id       : LaneId
  kind     : LaneKind
  platform : Platform
deriving DecidableEq, Repr

structure Cfg where
  params    : Params
  doorSide  : PerPlatform Side
  profile   : List Segment
  markers   : List Nat
  lanes     : List Lane
  committed : Bool
deriving DecidableEq, Repr

/-! ## CRU (section 2.8) -/

/-- A car report record with the time it was taken and the alarm latch (R36, R40). -/
structure CarReport where
  poll    : Poll
  fresh   : Bool
  takenAt : Nat
  latch   : Bool
deriving DecidableEq, Repr

abbrev Cru := PerCar CarReport

/-! ## PSU (Chapter 2) -/

/-- The reference state, with the anchor in PROVISIONAL (R20). -/
inductive RefState where
  | unreferenced
  | provisional (marker : Nat) (car : Car)
  | referenced
deriving DecidableEq, Repr

/-- The reference state's name, as replies and snapshots show it (R20). -/
inductive RefName where
  | unreferenced | provisional | referenced
deriving DecidableEq, Repr

/-- The armed marks of the motion monitors (R30). -/
structure Armed where
  rollback   : Bool
  unintended : Bool
  overtravel : Bool
  overshoot  : Bool
deriving DecidableEq, Repr

structure Psu where
  count        : Count
  countPrev    : Count
  pRef         : Int
  countRef     : Count
  ref          : RefState
  expected     : PerCar (Option Nat)
  /-- The sample timer: it always runs; its length is the length of the period in progress (R27). -/
  sampleTimer  : Timer
  vEval        : Nat
  vRope        : Nat
  ropeDir      : Option TripDir
  travelDir    : Option TripDir
  stillCount   : Nat
  still        : Bool
  heldCount    : Count
  furthest     : Option Count
  mismatch     : PerCar Nat
  armed        : Armed
deriving DecidableEq, Repr

/-! ## CLC (Chapter 3) -/

/-- The ceiling basis (R47); absent is none. -/
inductive Basis where
  | profile | cap
deriving DecidableEq, Repr

structure Clc where
  c     : Nat
  w1    : Nat
  s     : Nat
  e     : Nat
  /-- The drive reduction; none is NO_REDUCTION (R53). -/
  vdrv  : Option Nat
  basis : Option Basis
  d     : Option Nat
deriving DecidableEq, Repr

/-! ## Trip states (Chapter 5) -/

/-- The ten trip states; DWELL and CLOSING carry the stop at which the line dwells (R3, section 5.6). -/
inductive TripState where
  | none
  | dwell (k : Stop)
  | closing (k : Stop)
  | doors | settle | release | running | arriving | braking | stoppedOnLine
deriving DecidableEq, Repr

/-! ## BRS (Chapter 4) -/

/-- The brake stage (R61). -/
inductive Stage where
  | none | service | emergency
deriving DecidableEq, Repr

/-- The causes, in the order of R63. -/
inductive Cause where
  | overspeedService | overspeedEmergency | sbIneffective | sbFail | ebFail | brakeDrag | rollback | unintendedMotion
  | overtravel | overshoot | position | markerMissed | speedMismatch | driveSilent | carSilent | doorOpen | stopRequest
  | estopRequest
deriving DecidableEq, Repr

/-- Who asked for a stop (R76). -/
inductive Asker where
  | station (st : Station)
  | car (c : Car)
deriving DecidableEq, Repr

/-- What was seen when a cause was raised, as the rule that raises it names it. -/
inductive Detail where
  /-- v_eval, the threshold and C (R66). -/
  | overspeed (v threshold c : Nat)
  /-- v0, v_eval, the limit and t - t0 (R75). -/
  | ineffective (v0 v limit elapsed : Nat)
  /-- The time since the apply timer started, and the feedback (R72). -/
  | applyTimer (elapsed : Nat) (fb : Feedback)
  /-- The brake (R73). -/
  | brake (b : Brake)
  /-- P, v_eval and the trip state (R30). -/
  | motion (p : Int) (v : Nat) (ts : TripState)
  /-- The car, the marker, P before the pass and Pm (R24). -/
  | position (car : Car) (marker : Nat) (p pm : Int)
  /-- The car and the marker (R26). -/
  | marker (car : Car) (marker : Nat)
  /-- The car, v_car and v_rope (R35). -/
  | mismatch (car : Car) (vCar vRope : Nat)
  /-- The time since the last refresh; none where there was none (R69). -/
  | silentDrive (since : Option Nat)
  /-- The car and its record's age (R70). -/
  | silentCar (car : Car) (age : Nat)
  /-- The car, the side and the reported state (R114). -/
  | door (car : Car) (side : Side) (state : DoorState)
  /-- The requesting station or car (R76). -/
  | asker (who : Asker)
deriving DecidableEq, Repr

/-- A member of the cause set with its detail (R61). -/
structure HeldCause where
  cause  : Cause
  detail : Detail
deriving DecidableEq, Repr

/-- The active effectiveness monitor (R74). -/
structure Effectiveness where
  v0 : Nat
  t0 : Nat
deriving DecidableEq, Repr

structure Brs where
  stage          : Stage
  /-- The cause set in order of entry: its first member is the first cause (R61). -/
  causes         : List HeldCause
  drivePermit    : Bool
  sbHoldoff      : Bool
  ebHoldoff      : Bool
  sbFb           : Feedback
  ebFb           : Feedback
  releaseWait    : Option Timer
  sbApply        : Option Timer
  ebApply        : Option Timer
  effectiveness  : Option Effectiveness
  overspeedCount : Nat
  warnArmed      : Bool
  refreshTimer   : Option Timer
  lastRefresh    : Option Nat
deriving DecidableEq, Repr

/-! ## TRC (Chapter 5) -/

/-- The owner of a slot or of a trip (R82). -/
inductive Owner where
  | drv | con
deriving DecidableEq, Repr

/-- The request a slot holds (R82). -/
structure TripReq where
  dest    : Destination
  mode    : Mode
  trigger : Trigger
  oneShot : Bool
  mask    : Bool
deriving DecidableEq, Repr

/-- A slot: an EMPTY slot holds no request (R82). -/
inductive Slot where
  | empty
  | armed (r : TripReq)
  | pending (r : TripReq)
  | inFlight (r : TripReq)
deriving DecidableEq, Repr

/-- A slot's state as replies show it (R83). -/
inductive SlotName where
  | empty | armed | pending | inFlight
deriving DecidableEq, Repr

/-- The outcome of a trip (R92). -/
inductive TripOutcome where
  | none | done | aborted | stopped
deriving DecidableEq, Repr

/-- The cause of an abort (R92). -/
inductive AbortCause where
  | cancelled | doorsTimeout | brakeNotReleased | brake
deriving DecidableEq, Repr

/-- The derating values of a trip (R46). -/
structure Derating where
  loadA     : Nat
  loadB     : Nat
  imbalance : Nat
  aEff      : Nat
deriving DecidableEq, Repr

/-- The trip record (R92); its trip state, ceiling basis and d are held by the TRC and the CLC. -/
structure TripRecord where
  number      : Nat
  slot        : Option SlotId
  owner       : Option Owner
  mode        : Option Mode
  direction   : Option TripDir
  origin      : Option Stop
  destination : Option Stop
  tpos        : Option Nat
  outcome     : TripOutcome
  abortCause  : Option AbortCause
  derating    : Option Derating
  peak        : Option Nat
  margin      : Option Int
  lastDir     : Option TripDir
deriving DecidableEq, Repr

structure Trc where
  state          : TripState
  slot0          : Slot
  slot1          : Slot
  drvMode        : Mode
  conMode        : Mode
  effMode        : Mode
  trip           : TripRecord
  frozen         : PerCar Nat
  minDwell       : Option Timer
  elapsed        : Bool
  settleTimer    : Option Timer
  debounced      : Bool
deriving DecidableEq, Repr

/-! ## DRI (Chapter 6) -/

/-- The dwell phase (R107). -/
inductive Phase where
  | none | alighting | boarding
deriving DecidableEq, Repr

structure Dri where
  phase     : Phase
  leadTimer : Option Timer
  doorTimer : Option Timer
  evac      : PerCar Bool
  maint     : PerCar (PerSide Bool)
deriving DecidableEq, Repr

/-! ## ADM (Chapter 7) -/

/-- A lane's state (R13). -/
inductive LaneState where
  | enabled | disabled | fault
deriving DecidableEq, Repr

/-- A configured lane's operating state (R13, R122); its reservation open mark is computed. -/
structure LaneOp where
  id     : LaneId
  state  : LaneState
  lapsed : Bool
  lapses : Nat
deriving DecidableEq, Repr

/-- A reservation (R122, R127). -/
structure Reservation where
  lane      : LaneId
  platform  : Platform
  car       : Car
  timer     : Timer
deriving DecidableEq, Repr

/-- A car's load (R122). -/
structure Load where
  aboard      : Nat
  uncounted   : Nat
  alarmMirror : Bool
deriving DecidableEq, Repr

structure Adm where
  lanes        : List LaneOp
  reservations : List Reservation
  loads        : PerCar Load
  uncounted    : PerBerth Nat
  releaseMark  : Bool
deriving DecidableEq, Repr

/-! ## LSU (Chapter 8) -/

/-- The line state (R142). -/
inductive LineState where
  | closed | inService | inspection
deriving DecidableEq, Repr

structure Lsu where
  line              : LineState
  clearInInspection : Bool
deriving DecidableEq, Repr

/-! ## Refusals and what replies and notices carry (Chapters 9 and 10) -/

/-- The sub-reasons of CAUSE_PRESENT, with their details (R156, R93, R144, R79). -/
inductive SubReason where
  | stage (first : Option Cause)
  | carStale (c : Car)
  | alarm (c : Car)
  | unreferenced
  | uncounted (c : Car)
  | atDestination
  | uncommitted
  | offStop (p : Int)
  | notStill
  | driveSilent (since : Option Nat)
  | carSilent
  | doorOpen
  | sbFail
  | ebFail
deriving DecidableEq, Repr

/-- The reasons of a refused reply (R156). -/
inductive Reason where
  | notYours | wrongState | busy | full | closed | laneFault | moving | causePresent (r : SubReason)
  | flagProtected | badValue | badRequest | noReservation
deriving DecidableEq, Repr

/-- The status of a reply (R156). -/
inductive Status where
  | ok | clamped | replaced | refused (r : Reason)
deriving DecidableEq, Repr

/-- Why a trigger was refused (R88, R91). -/
inductive TriggerRefusal where
  | reason (r : Reason)
  | stopped
deriving DecidableEq, Repr

/-- Why a lane was put into FAULT (R130, R132). -/
inductive LaneFaultReason where
  | unauthorised | lapses
deriving DecidableEq, Repr

/-- What an incident records as its cause (R171). -/
inductive IncidentCause where
  | cause (c : Cause)
  | passengerAlarm (c : Car)
deriving DecidableEq, Repr

/-- Where a brake stop ended (R104). -/
inductive StoppedAt where
  | stop (k : Stop)
  | line (p : Int)
deriving DecidableEq, Repr

/-- The detail of a notice (R166). -/
inductive NoticeDetail where
  | cause (c : Cause)
  | fault (c : Cause) (d : Detail)
  | car (c : Car)
  | started (number : Nat) (dest : Stop) (mode : Mode)
  | done (number : Nat) (dest : Option Stop) (peak : Option Nat)
  | aborted (number : Nat) (cause : AbortCause)
  | stopped (number : Nat) (outcome : TripOutcome) (place : StoppedAt)
  | refused (slot : SlotId) (why : TriggerRefusal)
  | ignored (slot : SlotId)
  | overspeed (v w1 c : Nat)
  | platforms (ps : List Platform)
  | laneFault (lane : LaneId) (why : LaneFaultReason)
  | incident (seq : Nat) (cause : IncidentCause)
  | overflow (n : Nat)
  | line (old new : LineState)
  | mode (old new : Mode)
deriving DecidableEq, Repr

/-- A pending notice (R165). -/
structure Pending where
  kind     : NoticeKind
  detail   : NoticeDetail
  repeated : Bool
deriving DecidableEq, Repr

/-- A master's notice record (R165); the attention mark is 'a notice is latched'. -/
structure NoticeRecord where
  pending : List Pending
  enabled : List NoticeKind
  latched : Option NoticeKind
deriving DecidableEq, Repr

/-- An incident record (R171). -/
structure Incident where
  seq        : Nat
  cause      : IncidentCause
  stage      : Stage
  tripNumber : Nat
  tripState  : TripState
  p          : Int
  v          : Nat
  c          : Nat
  aboardA    : Nat
  aboardB    : Nat
  read       : Bool
  acked      : Bool
deriving DecidableEq, Repr

/-- The reset cause set (R174). -/
structure ResetCauses where
  power   : Bool
  pin     : Bool
  console : Bool
deriving DecidableEq, Repr

structure Niu where
  notices     : PerStation NoticeRecord
  incidents   : List Incident
  overflow    : Nat
  seq         : Nat
  resetCauses : ResetCauses
deriving DecidableEq, Repr

/-! ## LBP (Chapter 9) -/

/-- What a snapshot record shows, less the ages and remaining times (R159, R162). -/
inductive RecordCore where
  | line (line : LineState) (clearInInspection : Bool) (ts : TripState) (stage : Stage) (ref : RefName) (p : Int)
      (committed : Bool)
  | trip (trip : TripRecord) (ts : TripState) (basis : Option Basis) (d : Option Nat) (minDwellRuns : Bool)
      (elapsed : Bool) (doorTimerRuns : Bool)
  | slots (slot0 : Slot) (owner0 : Owner) (slot1 : Slot) (owner1 : Owner) (drvMode conMode effMode : Mode)
  | car (poll : Poll) (fresh latch : Bool) (permits : PerSide Bool) (evac : Bool) (maint : PerSide Bool) (load : Load)
  | speed (p : Int) (ref : RefName) (vEval vRope : Nat) (ropeDir travelDir : Option TripDir) (still : Bool)
      (stillCount : Nat) (c w1 s e vdrv : Nat) (mismatch : PerCar Nat)
  | brakes (stage : Stage) (causes : List HeldCause) (first : Option Cause) (drivePermit sbHoldoff ebHoldoff : Bool)
      (sbFb ebFb : Feedback) (releaseWait sbApply ebApply : Bool) (effectiveness : Option Effectiveness)
      (overspeedCount : Nat) (warnArmed refreshTimer refreshed trackDemand : Bool)
  | platforms (bound : PerBerth (Option Car)) (admission alighting : PerBerth Bool) (uncounted : PerBerth Nat)
      (phase : Phase) (leadRuns releaseMark : Bool)
  | lanes (ops : List (LaneOp × Bool))
  | reservations (entries : List (LaneId × Platform × Car))
  | incidentHead (held unread unacked overflow : Nat) (oldest : Option Incident)
  | resetCause (causes : ResetCauses)
deriving DecidableEq, Repr

/-- A record as a snapshot carries it: its kind, its fresh mark, its size in bytes with its record head, its
contents, and its ages and remaining times (R159, R162). -/
structure SnapRecord where
  kind  : SnapKind
  fresh : Bool
  size  : Nat
  core  : RecordCore
  times : List (Option Nat)
deriving DecidableEq, Repr

/-- What kind of passage was counted (R128 to R130). -/
inductive PassageKind where
  | reserved | late | unauthorised
deriving DecidableEq, Repr

/-- Where a person was counted (R129). -/
inductive CountedAt where
  | aboard (c : Car)
  | uncounted (c : Car)
  | platform (p : Platform)
deriving DecidableEq, Repr

/-- What failed a commit check (R16). -/
inductive CommitItem where
  | param (p : NumParam)
  | segment (n : Nat)
  | marker (n : Nat)
  | lane (id : LaneId)
  | car (c : Car)
deriving DecidableEq, Repr

/-- A stored value as a configuration reply carries it (R6, R15). -/
inductive StoredValue where
  | number (v : Nat)
  | slotMode (m : SlotMode)
  | side (d : Side)
deriving DecidableEq, Repr

/-- A table entry as READ ENTRY returns it (R15). -/
inductive TableEntry where
  | segment (start limit : Nat)
  | marker (position : Nat)
  | lane (kind : LaneKind) (platform : Platform)
deriving DecidableEq, Repr

/-- What the reply to a configuration request or read carries before the committed mark (R5). -/
inductive CfgData where
  | nothing
  | value (v : StoredValue)
  | segment (start limit number : Nat)
  | marker (position number : Nat)
  | failed (check : Nat) (item : CommitItem)
  | entry (e : TableEntry) (held : Nat)
deriving DecidableEq, Repr

/-- The poll reply contents (R41); the attention mark travels in the reply head (R157). -/
structure PollReply where
  left    : Bool
  right   : Bool
  track   : Bool
  line    : LineState
  ts      : TripState
  target  : Option Stop
  ceiling : Nat
deriving DecidableEq, Repr

/-- The payload of a reply, as the owning rule describes it (R156). -/
inductive ReplyData where
  | nothing
  | poll (r : PollReply)
  | stage (s : Stage)
  | causePresent (r : SubReason)
  | slot (id : SlotId) (state : SlotName) (number : Option Nat) (sub : Option SubReason)
  | mode (m : Mode)
  | speed (v : Nat)
  | permits (left right : Bool)
  | granted (car : Car) (left : Nat)
  | full (car : Car)
  | passage (kind : PassageKind) (at_ : CountedAt)
  | exit (counted : Option (Car × Nat))
  | entries (n : Nat)
  | opened (k : Stop) (line : LineState)
  | tripState (ts : TripState)
  | reference (p : Int) (ref : RefName)
  | setting (on : Bool)
  | aboard (n : Nat)
  | cfg (d : CfgData) (committed : Bool)
  | snapshot (records : List SnapRecord) (next : Option SnapKind)
  | notice (n : Option Pending) (remaining : Nat)
  | incident (i : Incident)
  | resetCauses (c : ResetCauses)
deriving DecidableEq, Repr

/-- A reply frame: the head of R156 (status with its reason, attention mark, echoed class, station and code) and
its payload. -/
structure Reply where
  status    : Status
  attention : Bool
  cls       : BitVec 2
  station   : BitVec 3
  code      : BitVec 7
  data      : ReplyData
deriving DecidableEq, Repr

structure Lbp where
  selection    : PerStation (List SnapKind)
  continuation : PerStation (Option SnapKind)
  fresh        : PerStation (List SnapKind)
  /-- The reply to the latest frame; none where it has none or its sending was cut off (R154, R156, R163). -/
  reply        : Option Reply
deriving DecidableEq, Repr

/-! ## Pins (section 9.11) -/

/-- An input level before its filter, and since when it stands there (R164). -/
structure Input (α : Type) where
  level : α
  since : Nat
deriving DecidableEq, Repr

structure Pins where
  sbIn       : Input Feedback
  ebIn       : Input Feedback
  /-- The dispatcher's line before its 2 ms filter (R164). -/
  dispatchIn : Input Bool
  /-- The dispatcher's line after its 2 ms filter, as the TRC sees it (R87, R164). -/
  dispatchLine : Input Bool
  resetLow   : Bool
  supplyLow  : Bool
deriving DecidableEq, Repr

end Sys2Proof.Machine
end

