-- ==== Sys2Proof/Machine/Arith.lean ====
section
/-! DEFINITION. The arithmetic of the manual: whole numbers, floors, the integer square root, the encoder's signed
32-bit differences, and the formulas of Chapters 2 and 3 that need no state but the parameters. -/

namespace Sys2Proof.Machine

/-- The nearer limit of `lo .. hi` for a value outside it, the value itself inside it (R6, R10, R53). -/
def clampNat (lo hi : Nat) (v : Int) : Nat := max lo (min hi v.toNat)

/-- Counts up by `n` and stays at the limit (00, "Arithmetic": saturate). -/
def satAdd (limit v n : Nat) : Nat := min limit (v + n)

/-- The difference of two encoder counts, signed, 32 bits (R19). -/
def countDiff (a b : Count) : Int := (a - b).toInt

/-- Centimetres of rope for a number of counts, rounded toward minus infinity (R19). -/
def ropeCm (kEnc : Nat) (counts : Int) : Int := counts * kEnc / Config.encUnit

/-- Clamps a rope position to -2,000 .. TRACK_LEN + 2,000 (R19). -/
def clampPos (trackLen : Nat) (p : Int) : Int :=
  max (-Config.clampBeyond) (min (trackLen + Config.clampBeyond) p)

/-- v_rope of a sample (R27): `delta` counts in a period of `period` ms. -/
def ropeSpeed (kEnc period : Nat) (delta : Int) : Nat :=
  min Config.speedMax (delta.natAbs * kEnc * 1000 / (65536 * period))

def isqrtGo (x : Nat) : Nat → Nat → Nat
  | 0, r => r
  | n + 1, r => if (r + 2 ^ n) * (r + 2 ^ n) ≤ x then isqrtGo x n (r + 2 ^ n) else isqrtGo x n r

/-- The integer square root, rounded down (R49): found bit by bit from the highest. -/
def isqrt (x : Nat) : Nat := isqrtGo x (x.log2 / 2 + 1) 0

/-- C plus a margin of k/128 (R57). -/
def withMargin (c k : Nat) : Nat := c + c * k / 128

/-- W1, the warning threshold (R57). -/
def threshW1 (p : Params) (c : Nat) : Nat := withMargin c p.kWarn
/-- S, the service threshold (R57). -/
def threshS (p : Params) (c : Nat) : Nat := withMargin c p.kSrv
/-- E, the emergency threshold (R57). -/
def threshE (p : Params) (c : Nat) : Nat := min p.vabs (withMargin c p.kEm)

/-- The derating of a trip from the frozen counts (R46). -/
def deratingOf (p : Params) (dir : TripDir) (aboard : PerCar Nat) : Derating :=
  let loadA := aboard.a * p.personKg
  let loadB := aboard.b * p.personKg
  let desc := match dir with | .upA => loadB | .downA => loadA
  let asc := match dir with | .upA => loadA | .downA => loadB
  let i := desc - asc
  { loadA := loadA, loadB := loadB, imbalance := i, aEff := max p.aFloor (p.aNom - i * p.derate / 1000) }

/-- The distance to go, a negative one taken as 0 (R48). -/
def distanceToGo (dir : TripDir) (p : Int) (tpos : Nat) : Nat :=
  match dir with
  | .upA => (tpos - p).toNat
  | .downA => (p - tpos).toNat

/-- The braking curve Vbc (R49). -/
def brakingCurve (vcreep aEff d : Nat) : Nat := vcreep + isqrt (2 * aEff * d)

/-- The segment that covers P: the one with the greatest start at or below max(P, 0) (R9, R50); `cur` is the last
one known to start at or below. -/
def segmentFrom (p : Int) : Segment → List Segment → Segment
  | cur, [] => cur
  | cur, t :: rest => if (t.start : Int) ≤ max p 0 then segmentFrom p t rest else cur

/-- Vseg, the limit of the segment that covers P; none for an empty profile (R50). -/
def segmentLimit (profile : List Segment) (p : Int) : Option Nat :=
  match profile with
  | [] => none
  | t :: rest => some (segmentFrom p t rest).limit

/-- The look-ahead terms of an ascent: every segment whose start lies in P < b ≤ Tpos (R51). -/
def aheadUp (aEff tpos : Nat) (p : Int) (profile : List Segment) : List Nat :=
  (profile.filter fun t => p < (t.start : Int) ∧ t.start ≤ tpos).map fun t =>
    t.limit + isqrt (2 * aEff * ((t.start : Int) - p).natAbs)

/-- The look-ahead terms of a descent: the segment below each boundary b with Tpos ≤ b < P (R51). -/
def aheadDown (aEff tpos : Nat) (p : Int) : List Segment → List Nat
  | t :: u :: rest =>
    if (tpos : Int) ≤ u.start ∧ (u.start : Int) < p then
      (t.limit + isqrt (2 * aEff * ((u.start : Int) - p).natAbs)) :: aheadDown aEff tpos p (u :: rest)
    else aheadDown aEff tpos p (u :: rest)
  | _ => []

/-- The look-ahead terms of a sample (R51). -/
def aheadTerms (dir : TripDir) (aEff tpos : Nat) (p : Int) (profile : List Segment) : List Nat :=
  match dir with
  | .upA => aheadUp aEff tpos p profile
  | .downA => aheadDown aEff tpos p profile

/-- The mode cap Vmode (R52). -/
def modeCap (p : Params) : Mode → Nat
  | .normal => p.vmax
  | .reduced => p.vred
  | .inspection => p.vinsp

/-- Vdrv as it is read: NO_REDUCTION is the stored VMAX (R53). -/
def driveLimit (p : Params) (vdrv : Option Nat) : Nat := vdrv.getD p.vmax

/-- The ceiling on the PROFILE basis (R54); a missing Vseg or Vahead is left out of the minimum. -/
def ceilingProfile (p : Params) (profile : List Segment) (mode : Mode) (dir : TripDir) (aEff tpos : Nat)
    (vdrv : Option Nat) (pos : Int) : Nat :=
  let own := min (brakingCurve p.vcreep aEff (distanceToGo dir pos tpos)) (min (modeCap p mode) (driveLimit p vdrv))
  let terms := (segmentLimit profile pos).toList ++ aheadTerms dir aEff tpos pos profile
  max p.vcreep (terms.foldr min own)

/-- The ceiling on the CAP basis (R55). -/
def ceilingCap (p : Params) (vdrv : Option Nat) : Nat := max p.vcreep (min p.vinsp (driveLimit p vdrv))

/-- The limit of the effectiveness monitor (R75). -/
def effectivenessLimit (p : Params) (v0 elapsed : Nat) : Nat := max p.vcreep (v0 - p.aFloor * elapsed / 2000)

/-- The more restrictive of two modes: INSPECTION above REDUCED above NORMAL (R85). -/
def restrict : Mode → Mode → Mode
  | .inspection, _ => .inspection
  | _, .inspection => .inspection
  | .reduced, _ => .reduced
  | _, .reduced => .reduced
  | .normal, .normal => .normal

/-! ## Stops and bindings (R2, R3) -/

/-- Whether a stop exists (R2). -/
def stopExists (p : Params) (k : Stop) : Bool := k ≠ .middle ∨ p.midStop ≠ 0

/-- The position of a stop (R2). -/
def stopPos (p : Params) : Stop → Nat
  | .bottom => 0
  | .middle => p.midStop
  | .top => p.trackLen

/-- Whether a position is at a stop (R2). -/
def isAt (p : Params) (pos : Int) (k : Stop) : Bool :=
  stopExists p k ∧ (pos - stopPos p k).natAbs ≤ p.alignTol

/-- The stop a position is at, if any (R2). -/
def stopAt (p : Params) (pos : Int) : Option Stop := allStops.find? (isAt p pos)

/-- Where each car stands at each stop (R2, R3). -/
def berthAt : Stop → Car → Berth
  | .bottom, .a => .bot
  | .bottom, .b => .top
  | .middle, .a => .mw
  | .middle, .b => .me
  | .top, .a => .top
  | .top, .b => .bot

/-- The car bound to the platforms of a berth at a stop (R3). -/
def boundAt : Stop → Berth → Option Car
  | .bottom, .bot => some .a
  | .bottom, .top => some .b
  | .middle, .mw => some .a
  | .middle, .me => some .b
  | .top, .top => some .a
  | .top, .bot => some .b
  | _, _ => none

/-- The car bound to the platforms of a berth in a trip state (R3). -/
def boundIn : TripState → Berth → Option Car
  | .dwell k, b => boundAt k b
  | .closing k, b => boundAt k b
  | _, _ => none

/-- The gate station of a berth (R3). -/
def gateOfBerth : Berth → Gate
  | .bot => .bot | .top => .top | .mw => .mid | .me => .mid

/-! ## Trip states (section 5.6) -/

/-- In flight: from the first state after DWELL through ARRIVING or BRAKING (00, "Terms"). -/
def inFlight : TripState → Bool
  | .closing _ => true
  | .doors => true | .settle => true | .release => true | .running => true | .arriving => true | .braking => true
  | .none => false | .dwell _ => false | .stoppedOnLine => false

/-- RELEASE, RUNNING, ARRIVING. -/
def isPowered : TripState → Bool
  | .release => true | .running => true | .arriving => true
  | _ => false

/-- RELEASE, RUNNING, ARRIVING, BRAKING: the computing states (R45). -/
def isMoving : TripState → Bool
  | .release => true | .running => true | .arriving => true | .braking => true
  | _ => false

def isDwell : TripState → Bool
  | .dwell _ => true
  | _ => false

/-- The ranks of the stages (R62). -/
def Stage.rank : Stage → Nat
  | .none => 0 | .service => 1 | .emergency => 2

/-- The stage a cause calls for (R63). -/
def Cause.stage : Cause → Stage
  | .overspeedService => .service
  | .overspeedEmergency => .emergency
  | .sbIneffective => .emergency
  | .sbFail => .emergency
  | .ebFail => .emergency
  | .brakeDrag => .service
  | .rollback => .emergency
  | .unintendedMotion => .emergency
  | .overtravel => .emergency
  | .overshoot => .service
  | .position => .service
  | .markerMissed => .service
  | .speedMismatch => .service
  | .driveSilent => .service
  | .carSilent => .service
  | .doorOpen => .service
  | .stopRequest => .service
  | .estopRequest => .emergency

/-- The track mark of a cause (R63). -/
def Cause.track : Cause → Bool
  | .overspeedEmergency => true
  | .sbIneffective => true
  | .ebFail => true
  | .rollback => true
  | .unintendedMotion => true
  | .overspeedService => false | .sbFail => false | .brakeDrag => false | .overtravel => false | .overshoot => false
  | .position => false | .markerMissed => false | .speedMismatch => false | .driveSilent => false | .carSilent => false
  | .doorOpen => false | .stopRequest => false | .estopRequest => false

/-- The owner of a slot (R82). -/
def slotOwner : SlotMode → SlotId → Owner
  | .shared, .slot0 => .drv
  | .shared, .slot1 => .con
  | .consoleBoth, _ => .con
  | .driveBoth, _ => .drv

def Owner.station : Owner → Station
  | .drv => .drv
  | .con => .con

/-- The reference state's name (R20). -/
def RefState.name : RefState → RefName
  | .unreferenced => .unreferenced
  | .provisional _ _ => .provisional
  | .referenced => .referenced

def Slot.name : Slot → SlotName
  | .empty => .empty
  | .armed _ => .armed
  | .pending _ => .pending
  | .inFlight _ => .inFlight

end Sys2Proof.Machine
end

