-- ==== Sys2Proof/Machine/ResetValues.lean ====
section
/-! DEFINITION. The state of each block after a reset, as its chapter gives it (R18, R42, R43, R60, R81, R106,
R121, R141, R151, R163, R176). `now` is the time of the reset. -/

namespace Sys2Proof.Machine

/-- A timer started now for a number of ms. -/
def startAt (now ms : Nat) : Timer := ⟨now, now + ms⟩

/-- R18: every parameter at its power-on value, every door side LEFT, every table empty, uncommitted. -/
def cfgPowerOn : Cfg :=
  { params := Params.powerOn
    doorSide := ⟨⟨.left, .left, .left, .left⟩, ⟨.left, .left, .left, .left⟩⟩
    profile := [], markers := [], lanes := [], committed := false }

/-- R43. -/
def carReportReset (now : Nat) : CarReport :=
  { poll := { speed := 0, dir := .none, left := .opened, right := .opened, marker := none, alarm := false,
              stopReq := .none, trackBrake := false }
    fresh := false, takenAt := now, latch := false }

/-- R43, for both cars. -/
def cruReset (now : Nat) : Cru := ⟨carReportReset now, carReportReset now⟩

/-- R42. -/
def psuReset (now ts : Nat) : Psu :=
  { count := 0, countPrev := 0, pRef := 0, countRef := 0, ref := .unreferenced, expected := ⟨none, none⟩
    sampleTimer := startAt now ts, vEval := 0, vRope := 0, ropeDir := none, travelDir := none
    stillCount := 0, still := false, heldCount := 0, furthest := none, mismatch := ⟨0, 0⟩
    armed := ⟨true, true, true, true⟩ }

/-- The ceiling and its thresholds (R57), with no basis and no distance. -/
def clcAt (p : Params) (c : Nat) : Clc :=
  { c := c, w1 := threshW1 p c, s := threshS p c, e := threshE p c, vdrv := none, basis := none, d := none }

/-- R60, after power-on or pin reset. -/
def clcPowerOn : Clc := clcAt Params.powerOn Params.powerOn.vcreep

/-- R60, after RESET PART: from the stored VCREEP if the store is committed, else as they stood. -/
def clcResetPart (cfg : Cfg) (clc : Clc) : Clc :=
  if cfg.committed then clcAt cfg.params cfg.params.vcreep
  else { clc with vdrv := none, basis := none, d := none }

/-- R81: an apply timer is started unless its feedback shows APPLIED. -/
def applyAtReset (now tmo : Nat) (fb : Feedback) : Option Timer :=
  if fb = .applied then none else some (startAt now tmo)

/-- R81. -/
def brsReset (now tmo : Nat) (sb eb : Feedback) : Brs :=
  { stage := .none, causes := [], drivePermit := false, sbHoldoff := false, ebHoldoff := false
    sbFb := sb, ebFb := eb, releaseWait := none
    sbApply := applyAtReset now tmo sb, ebApply := applyAtReset now tmo eb
    effectiveness := none, overspeedCount := 0, warnArmed := true, refreshTimer := none, lastRefresh := none }

/-- R106: trip number 0, every other field absent, none or NONE. -/
def tripReset : TripRecord :=
  { number := 0, slot := none, owner := none, mode := none, direction := none, origin := none, destination := none
    tpos := none, outcome := .none, abortCause := none, derating := none, peak := none, margin := none
    lastDir := none }

/-- R106; `level` is the dispatcher's input at the reset. -/
def trcReset (level : Bool) : Trc :=
  { state := .none, slot0 := .empty, slot1 := .empty, drvMode := .normal, conMode := .normal, effMode := .normal
    trip := tripReset, frozen := ⟨0, 0⟩, minDwell := none, elapsed := false, settleTimer := none, debounced := level }

/-- R121. -/
def driReset : Dri :=
  { phase := .none, leadTimer := none, doorTimer := none, evac := ⟨false, false⟩
    maint := ⟨⟨false, false⟩, ⟨false, false⟩⟩ }

/-- A lane's operating state as LANE PUT and RESET PART leave it (R14, R141). -/
def laneOpReset (id : LaneId) : LaneOp := { id := id, state := .enabled, lapsed := false, lapses := 0 }

/-- R141: every configured lane ENABLED, everything else empty, 0 or clear. -/
def admReset (lanes : List Lane) : Adm :=
  { lanes := lanes.map fun l => laneOpReset l.id
    reservations := [], loads := ⟨⟨0, 0, false⟩, ⟨0, 0, false⟩⟩, uncounted := ⟨0, 0, 0, 0⟩, releaseMark := false }

/-- R151. -/
def lsuReset : Lsu := { line := .closed, clearInInspection := false }

/-- R163. -/
def lbpReset : Lbp :=
  { selection := PerStation.all [.line], continuation := PerStation.all (some .line)
    fresh := PerStation.all allSnapKinds, reply := none }

/-- R176: no notice pending, enabled or latched for any master. -/
def noticesReset : PerStation NoticeRecord := PerStation.all { pending := [], enabled := [], latched := none }

/-- R176, after power-on. -/
def niuPowerOn : Niu :=
  { notices := noticesReset, incidents := [], overflow := 0, seq := 0, resetCauses := ⟨true, false, false⟩ }

end Sys2Proof.Machine
end

