-- ==== Sys2Proof/Machine/State.lean ====
section
/-! DEFINITION. The state of the 2260 as plain data: the eleven blocks, the pins, the time, and the queue of the
commands that wait. And the reasons a step could stop. -/

namespace Sys2Proof.Machine

/-- A timed event that was due at a time at which another command, taken first, stopped or restarted its timer (log 47). -/
structure Overtaken where
  event : Instr
  time  : Nat
deriving DecidableEq, Repr

/-- The state of the part. `now` (ms), `pending` and `overtaken` are the model's own (log 1, log 5, log 47). -/
structure State where
  cfg     : Cfg
  cru     : Cru
  psu     : Psu
  clc     : Clc
  brs     : Brs
  trc     : Trc
  dri     : Dri
  adm     : Adm
  lsu     : Lsu
  lbp     : Lbp
  niu     : Niu
  pins    : Pins
  now     : Nat
  pending : List Instr
  /-- The timed events overtaken at this time that may still wait in the queue (log 47). -/
  overtaken : List Overtaken
deriving DecidableEq, Repr

/-- The part has no fault that stops it: nobody raises one (INVENTORY, "Faults"). -/
inductive Fault where
deriving DecidableEq, Repr

/-- Why a step could be refused. -/
inductive Refusal where
  /-- Raised by `exec` alone, for a command that has no meaning yet (safe: the machine stops). No command is left
  without one. -/
  | notModelled (mnemonic : String)
deriving DecidableEq, Repr

/-- The pins at State.reset: both brakes applied, the dispatcher's line low, RESET_N high, the supply in range
(log 4). -/
def pinsReset : Pins :=
  { sbIn := ⟨.applied, 0⟩, ebIn := ⟨.applied, 0⟩, dispatchIn := ⟨false, 0⟩, dispatchLine := ⟨false, 0⟩
    resetLow := false, supplyLow := false }

/-- The part right after power-on reset, with no command waiting. -/
def State.reset : State :=
  { cfg := cfgPowerOn
    cru := cruReset 0
    psu := psuReset 0 Params.powerOn.ts
    clc := clcPowerOn
    brs := brsReset 0 Params.powerOn.brkFbTmo pinsReset.sbIn.level pinsReset.ebIn.level
    trc := trcReset pinsReset.dispatchIn.level
    dri := driReset
    adm := admReset []
    lsu := lsuReset
    lbp := lbpReset
    niu := niuPowerOn
    pins := pinsReset
    now := 0
    pending := []
    overtaken := [] }

end Sys2Proof.Machine
end

