-- ==== Sys2Proof/Machine/Flags.lean ====
section
/-! DEFINITION. The marks and flags of the part: everything that a rule defines as a function of other state
(position, bindings, windows, release permits, track brake demand, attention), the notice records with their
latching (section 10.1), and the fresh marks of the snapshot records (R162). -/

namespace Sys2Proof.Machine

/-! ## Changing one block -/

def State.onCfg (s : State) (f : Cfg → Cfg) : State := { s with cfg := f s.cfg }
def State.onCru (s : State) (f : Cru → Cru) : State := { s with cru := f s.cru }
def State.onPsu (s : State) (f : Psu → Psu) : State := { s with psu := f s.psu }
def State.onClc (s : State) (f : Clc → Clc) : State := { s with clc := f s.clc }
def State.onBrs (s : State) (f : Brs → Brs) : State := { s with brs := f s.brs }
def State.onTrc (s : State) (f : Trc → Trc) : State := { s with trc := f s.trc }
def State.onDri (s : State) (f : Dri → Dri) : State := { s with dri := f s.dri }
def State.onAdm (s : State) (f : Adm → Adm) : State := { s with adm := f s.adm }
def State.onLsu (s : State) (f : Lsu → Lsu) : State := { s with lsu := f s.lsu }
def State.onLbp (s : State) (f : Lbp → Lbp) : State := { s with lbp := f s.lbp }
def State.onNiu (s : State) (f : Niu → Niu) : State := { s with niu := f s.niu }
def State.onPins (s : State) (f : Pins → Pins) : State := { s with pins := f s.pins }
def State.onTrip (s : State) (f : TripRecord → TripRecord) : State := s.onTrc fun t => { t with trip := f t.trip }

/-! ## Position, age, freshness -/

/-- The stored parameters. -/
def State.params (s : State) : Params := s.cfg.params

/-- The rope position P (R19). -/
def pos (s : State) : Int :=
  clampPos s.params.trackLen (s.psu.pRef + ropeCm s.params.kEnc (countDiff s.psu.count s.psu.countRef))

/-- The stop P is at, if any (R2). -/
def stopHere (s : State) : Option Stop := stopAt s.params (pos s)

/-- The age of a car's record, in ms (R36). -/
def reportAge (s : State) (c : Car) : Nat := s.now - (s.cru.get c).takenAt

/-- Whether a car's report is fresh (R39), judged as it is read: its fresh field stands, and its age does not exceed
the stored T_CAR (log 6). -/
def isFresh (s : State) (c : Car) : Bool := (s.cru.get c).fresh ∧ reportAge s c ≤ s.params.tCar

/-- A record whose fresh field still stands though its age exceeds the stored T_CAR: its staleness is due (R39). -/
def staleDue (s : State) (c : Car) : Bool := (s.cru.get c).fresh ∧ s.params.tCar < reportAge s c

/-- The reported state of a door side. -/
def doorState (p : Poll) : Side → DoorState
  | .left => p.left
  | .right => p.right

/-- Both door sides LOCKED in a record. -/
def bothLocked (p : Poll) : Bool := p.left = .locked ∧ p.right = .locked

/-- Both reports fresh and all four door sides LOCKED (R64, R98). -/
def allLocked (s : State) : Bool :=
  isFresh s .a ∧ isFresh s .b ∧ bothLocked s.cru.a.poll ∧ bothLocked s.cru.b.poll

/-! ## Bindings and windows -/

/-- The car bound to a platform (R3). -/
def boundCar (s : State) (p : Platform) : Option Car := boundIn s.trc.state (berthOf p)

/-- The admission window of a board platform, by its berth (R123). -/
def admissionOpen (s : State) (b : Berth) : Bool :=
  s.lsu.line = .inService ∧ isDwell s.trc.state ∧ (boundIn s.trc.state b).isSome ∧ s.adm.releaseMark

/-- The alighting window of an alight platform, by its berth (R125). -/
def alightingOpen (s : State) (b : Berth) : Bool :=
  s.lsu.line = .inService ∧ isDwell s.trc.state ∧ (boundIn s.trc.state b).isSome

/-! ## Door release (R108, R109) -/

/-- The line is held for a car (R108) whose report is fresh or not. -/
def heldFor (s : State) (fresh : Bool) : Bool :=
  s.brs.drivePermit = false ∧ s.psu.still ∧ s.brs.sbFb = .applied ∧ fresh

/-- Side `d` of a car serves the alight platform bound to it at stop `k`, or in BOARDING the board platform (R109). -/
def servedAt (s : State) (c : Car) (d : Side) (k : Stop) : Bool :=
  s.cfg.doorSide.alight.get (berthAt k c) = d ∨
    (s.dri.phase = .boarding ∧ s.cfg.doorSide.board.get (berthAt k c) = d)

/-- The platform ground for a side of a car (R109). -/
def platformGround (s : State) (c : Car) (d : Side) : Bool :=
  match s.trc.state with
  | .dwell k => s.lsu.line = .inService ∧ s.brs.stage = .none ∧ servedAt s c d k
  | .closing k => s.lsu.line = .inService ∧ s.brs.stage = .none ∧ servedAt s c d k
  | _ => false

/-- The evacuation ground (R108, R115). -/
def evacuationGround (s : State) (c : Car) (d : Side) : Bool :=
  s.dri.evac.get c ∧ d = s.params.walkwaySide ∧ (s.trc.state = .stoppedOnLine ∨ s.trc.state = .braking)

/-- The maintenance ground (R108, R117). -/
def maintGround (s : State) (c : Car) (d : Side) : Bool :=
  (s.dri.maint.get c).get d ∧ (s.lsu.line = .closed ∨ s.lsu.line = .inspection) ∧ inFlight s.trc.state = false

/-- The release permit of a side of a car (R108), given whether the car's report is fresh. -/
def permitWith (s : State) (fresh : Bool) (c : Car) (d : Side) : Bool :=
  heldFor s fresh ∧ (platformGround s c d ∨ evacuationGround s c d ∨ maintGround s c d)

/-- The release permit of a side of a car (R108). -/
def permit (s : State) (c : Car) (d : Side) : Bool := permitWith s (isFresh s c) c d

/-! ## Brake flags -/

/-- Whether a cause is in the cause set (R61). -/
def hasCause (s : State) (c : Cause) : Bool := s.brs.causes.any fun h => h.cause = c

/-- The first cause (R61). -/
def firstCause (s : State) : Option Cause := s.brs.causes.head?.map (·.cause)

/-- The track brake demand (R77). -/
def trackDemand (s : State) : Bool := s.brs.stage = .emergency ∧ s.brs.causes.any fun h => h.cause.track

/-! ## Reservations (R122, R127) -/

/-- The reservation of a lane, if open. -/
def reservationOf (s : State) (id : LaneId) : Option Reservation := s.adm.reservations.find? fun r => r.lane = id

/-- The entries for a car in the reservation list. -/
def reservedFor (s : State) (c : Car) : Nat := (s.adm.reservations.filter fun r => r.car = c).length

/-- Whether a car has room for one more: aboard plus reservations below CAPACITY (R127, R129). -/
def hasRoom (s : State) (c : Car) : Bool := (s.adm.loads.get c).aboard + reservedFor s c < s.params.capacity

/-- Flag protection (R150). -/
def flagProtection (s : State) : Bool := s.lsu.line = .inspection ∧ s.lsu.clearInInspection = false

/-! ## Attention and the energised outputs (R158, R164) -/

/-- A master's attention mark (R165). -/
def attention (s : State) (st : Station) : Bool := (s.niu.notices.get st).latched.isSome

/-- RESET_N low or the supply below its range: outputs de-energised, attention lines released (R164). -/
def outputsDown (s : State) : Bool := s.pins.resetLow ∨ s.pins.supplyLow

/-- The levels of the three output pins (R164). -/
structure OutputPins where
  drivePermit : Bool
  sbHoldoff   : Bool
  ebHoldoff   : Bool
deriving DecidableEq, Repr

/-- DRIVE_PERMIT is off at its pin from the moment a report is stale (R39, R64), before CAR_REPORT_STALE is taken. -/
def outputPins (s : State) : OutputPins :=
  if outputsDown s then ⟨false, false, false⟩
  else ⟨s.brs.drivePermit ∧ allLocked s, s.brs.sbHoldoff, s.brs.ebHoldoff⟩

/-- Whether a master's attention line is driven active; the car units have none (R158). -/
def attentionLine (s : State) (st : Station) : Bool :=
  st ≠ .carA ∧ st ≠ .carB ∧ outputsDown s = false ∧ attention s st

/-! ## Notices (R166 to R168) -/

/-- The priorities of R166. -/
def priority : NoticeKind → Nat
  | .emergencyBrake => 0 | .serviceBrake => 1 | .fault => 2 | .passengerAlarm => 3 | .tripStarted => 4
  | .tripDone => 5 | .tripAborted => 5 | .tripStopped => 5 | .triggerRefused => 6 | .triggerIgnored => 6
  | .overspeedWarn => 7 | .admissionOpen => 8 | .admissionClosed => 8 | .laneFault => 9
  | .incidentCaptured => 10 | .incidentOverflow => 10 | .lineState => 11 | .modeChanged => 12

def isPending (r : NoticeRecord) (k : NoticeKind) : Bool := r.pending.any fun n => n.kind = k

/-- One notice handed for one master: it joins the pending set, or its repeated mark is set (R167). -/
def joinPending (k : NoticeKind) (d : NoticeDetail) (r : NoticeRecord) : NoticeRecord :=
  if isPending r k then
    { r with pending := r.pending.map fun n => if n.kind = k then { n with repeated := true } else n }
  else { r with pending := r.pending ++ [⟨k, d, false⟩] }

/-- Hands a notice to the NIU for one master (R166, R167). -/
def handTo (k : NoticeKind) (d : NoticeDetail) (st : Station) (s : State) : State :=
  s.onNiu fun n => { n with notices := n.notices.set st (joinPending k d (n.notices.get st)) }

/-- Hands a notice to the NIU for several masters. -/
def hand (k : NoticeKind) (d : NoticeDetail) (sts : List Station) (s : State) : State :=
  sts.foldl (fun t st => handTo k d st t) s

/-- Hands a notice to all seven masters. -/
def handAll (k : NoticeKind) (d : NoticeDetail) (s : State) : State := hand k d allStations s

/-- Of two kinds the one of higher priority; of equal ones the one higher in the table of R166. -/
def better (a b : NoticeKind) : NoticeKind :=
  if priority b < priority a ∨ (priority b = priority a ∧ allNoticeKinds.idxOf b < allNoticeKinds.idxOf a) then b else a

/-- The eligible kinds: pending and enabled (R168). -/
def eligible (r : NoticeRecord) : List NoticeKind :=
  (r.pending.map (·.kind)).filter fun k => r.enabled.contains k

/-- Latching evaluated for one record (R168). -/
def latch (r : NoticeRecord) : NoticeRecord :=
  match r.latched, eligible r with
  | none, k :: ks => { r with latched := some (ks.foldl better k) }
  | _, _ => r

/-- Latching evaluated for every master: the notices of one command are taken together (R167, log 7). -/
def latchAll (s : State) : State := s.onNiu fun n => { n with notices := n.notices.map latch }

/-! ## Snapshot records (R159, R162) -/

/-- One value for each berth. -/
def perBerth {α : Type} (f : Berth → α) : PerBerth α := ⟨f .bot, f .top, f .mw, f .me⟩

/-- A car's record, given whether its report is fresh. -/
def carCore (s : State) (fresh : Bool) (c : Car) : RecordCore :=
  .car (s.cru.get c).poll fresh (s.cru.get c).latch ⟨permitWith s fresh c .left, permitWith s fresh c .right⟩
    (s.dri.evac.get c) (s.dri.maint.get c) (s.adm.loads.get c)

/-- What a record shows, less its ages and remaining times (R159, R162); a car's freshness here is its fresh field, so
that time alone changes no record (log 20). DESIGN CHOICE: the t0 of an active effectiveness monitor is shown as the time
on the model's clock, in ms since State.reset (log 46). DEDUCED: that the last
refresh's age is shown at all, absent until the first RUN REFRESH after a reset, is a field of BRAKES and marks it changed
(log 20). -/
def recordCore (s : State) : SnapKind → RecordCore
  | .line => .line s.lsu.line s.lsu.clearInInspection s.trc.state s.brs.stage s.psu.ref.name (pos s) s.cfg.committed
  | .trip => .trip s.trc.trip s.trc.state s.clc.basis s.clc.d s.trc.minDwell.isSome s.trc.elapsed s.dri.doorTimer.isSome
  | .slots =>
    .slots s.trc.slot0 (slotOwner s.params.slotMode .slot0) s.trc.slot1 (slotOwner s.params.slotMode .slot1)
      s.trc.drvMode s.trc.conMode s.trc.effMode
  | .carA => carCore s s.cru.a.fresh .a
  | .carB => carCore s s.cru.b.fresh .b
  | .speed =>
    .speed (pos s) s.psu.ref.name s.psu.vEval s.psu.vRope s.psu.ropeDir s.psu.travelDir s.psu.still s.psu.stillCount
      s.clc.c s.clc.w1 s.clc.s s.clc.e (driveLimit s.params s.clc.vdrv) s.psu.mismatch
  | .brakes =>
    .brakes s.brs.stage s.brs.causes (firstCause s) s.brs.drivePermit s.brs.sbHoldoff s.brs.ebHoldoff s.brs.sbFb s.brs.ebFb
      s.brs.releaseWait.isSome s.brs.sbApply.isSome s.brs.ebApply.isSome s.brs.effectiveness s.brs.overspeedCount
      s.brs.warnArmed s.brs.refreshTimer.isSome s.brs.lastRefresh.isSome (trackDemand s)
  | .platforms =>
    .platforms (perBerth (boundIn s.trc.state)) (perBerth (admissionOpen s)) (perBerth (alightingOpen s)) s.adm.uncounted
      s.dri.phase s.dri.leadTimer.isSome s.adm.releaseMark
  | .lanes => .lanes (s.adm.lanes.map fun l => (l, (reservationOf s l.id).isSome))
  | .reservations => .reservations (s.adm.reservations.map fun r => (r.lane, r.platform, r.car))
  | .incidentHead =>
    .incidentHead s.niu.incidents.length (s.niu.incidents.filter fun i => i.read = false).length
      (s.niu.incidents.filter fun i => i.acked = false).length s.niu.overflow (s.niu.incidents.find? fun i => i.acked = false)
  | .resetCause => .resetCause s.niu.resetCauses

/-- What a record shows as it is built: a car's freshness is judged as it is read (R39, R162). -/
def shownCore (s : State) : SnapKind → RecordCore
  | .carA => carCore s (isFresh s .a) .a
  | .carB => carCore s (isFresh s .b) .b
  | k => recordCore s k

/-- The time a running timer has left. -/
def remaining (s : State) (t : Option Timer) : Option Nat := t.map fun t => t.due - s.now

/-- An age shown in ms, saturating at 65,535 (R36, R61). -/
def shownAge (n : Nat) : Nat := min Config.ageMax n

/-- The ages and remaining times a record shows, computed as it is built (R162). DESIGN CHOICE: a reservation's age in
seconds is the whole seconds elapsed, rounded down (log 43). -/
def recordTimes (s : State) : SnapKind → List (Option Nat)
  | .trip => [remaining s s.trc.minDwell, remaining s s.dri.doorTimer]
  | .carA => [some (shownAge (reportAge s .a))]
  | .carB => [some (shownAge (reportAge s .b))]
  | .brakes => [s.brs.lastRefresh.map fun t => shownAge (s.now - t)]
  | .reservations => s.adm.reservations.map fun r => some ((s.now - r.timer.start) / 1000)
  | .line => [] | .slots => [] | .speed => [] | .platforms => [] | .lanes => [] | .incidentHead => [] | .resetCause => []

/-- The size of a record in bytes with its record head (R159). -/
def recordSize (s : State) : SnapKind → Nat
  | .line => 16
  | .trip => 48
  | .slots => 20
  | .carA => 28
  | .carB => 28
  | .speed => 36
  | .brakes => 20 + 12 * s.brs.causes.length
  | .platforms => 20
  | .lanes => 4 + 2 * s.adm.lanes.length
  | .reservations => 4 + 6 * s.adm.reservations.length
  | .incidentHead => if s.niu.incidents.any fun i => i.acked = false then 40 else 12
  | .resetCause => 4

/-- The kinds of the list or of `more`, in the fixed order. -/
def unionKinds (more l : List SnapKind) : List SnapKind :=
  allSnapKinds.filter fun k => l.contains k ∨ more.contains k

/-- The records that show something else after a command than before it. -/
def changedKinds (before after : State) : List SnapKind :=
  allSnapKinds.filter fun k => recordCore before k ≠ recordCore after k

/-- Sets the fresh marks of the changed records for every master (R162). -/
def markChanged (before after : State) : State :=
  after.onLbp fun l => { l with fresh := l.fresh.map (unionKinds (changedKinds before after)) }

/-! ## Timed events that are due, and that are overtaken -/

/-- A timer's expiry as a command, where it is due. -/
def expiry (s : State) (t : Option Timer) (i : Instr) : List Instr :=
  match t with
  | some t => if t.due ≤ s.now then [i] else []
  | none => []

/-- A car report whose age exceeds T_CAR (R39). -/
def dueStale (s : State) (c : Car) : List Instr := if staleDue s c then [.carReportStale c] else []

/-- Every timed event that is due, in a fixed order: stale reports, expiries, the speed sample. -/
def dueTimed (s : State) : List Instr :=
  dueStale s .a ++ dueStale s .b
    ++ expiry s s.brs.refreshTimer .driveRefreshTimerExpiry
    ++ expiry s s.brs.releaseWait .releaseWaitExpiry
    ++ expiry s s.brs.sbApply (.applyTimerExpiry .service)
    ++ expiry s s.brs.ebApply (.applyTimerExpiry .emergency)
    ++ expiry s s.trc.minDwell .minDwellExpiry
    ++ expiry s s.trc.settleTimer .settleTimerExpiry
    ++ expiry s s.dri.leadTimer .leadTimerExpiry
    ++ expiry s s.dri.doorTimer .doorCloseTimerExpiry
    ++ s.adm.reservations.flatMap (fun r => expiry s (some r.timer) (.lapse r.lane))
    ++ expiry s (some s.psu.sampleTimer) .speedSample

/-- The event was due at this very time and another command, taken first, has stopped or restarted its timer: an event of
its name that is taken now is the one overtaken, and not the restarted timer's (R69, log 47). -/
def isOvertaken (s : State) (i : Instr) : Bool := s.overtaken.contains ⟨i, s.now⟩

/-- Records the timed events that were due before a command and are not due after it (R69, log 47). -/
def markOvertaken (before after : State) : State :=
  { after with
    overtaken :=
      (after.overtaken.filter fun o => o.time = before.now)
        ++ ((dueTimed before).filter fun i => i ∉ dueTimed after).map fun i => ⟨i, before.now⟩ }

/-- The event itself has been taken: it waits no more. -/
def takenUp (i : Instr) (s : State) : State := { s with overtaken := s.overtaken.filter fun o => o.event ≠ i }

/-- What ends every command: latching (R168), the fresh marks (R162), and the timed events it has overtaken (R69). -/
def finish (before after : State) : State := markOvertaken before (markChanged before (latchAll after))

end Sys2Proof.Machine
end

