-- ==== Sys2Proof/Machine/Ops.lean ====
section
/-! DEFINITION. The operations that several commands share: time, the brake outputs (R64, R72), a change of trip
state with everything it hands on (section 5.6), the windows' notices (R124), incidents (R171, R172), the dwells
(R96), the end of a trip (R102, R103), and raising a cause (R62). -/

namespace Sys2Proof.Machine

/-! ## Time -/

/-- The clock stands at least at `t`: taken with the expiry of a timer due at `t` (log 2). -/
def advanceTo (t : Nat) (s : State) : State := { s with now := max s.now t }

/-- A timer started at this moment (R7). -/
def timer (s : State) (ms : Nat) : Option Timer := some (startAt s.now ms)

/-! ## The brake outputs (R64) and the apply timers (R72) -/

/-- The outputs of R64: DRIVE_PERMIT, SB_HOLDOFF, EB_HOLDOFF, given whether the cars' reports hold its condition. -/
def outputsWith (locked : Bool) (s : State) : OutputPins :=
  match s.brs.stage with
  | .none =>
    match s.trc.state with
    | .release => ⟨false, true, true⟩
    | .running => ⟨locked, true, true⟩
    | .arriving => ⟨locked, true, true⟩
    | _ => ⟨false, false, false⟩
  | .service => ⟨false, false, s.brs.ebHoldoff⟩
  | .emergency => ⟨false, false, false⟩

/-- The outputs that R64 gives as the stage, the trip state and the reports now stand. -/
def wantedOutputs (s : State) : OutputPins := outputsWith (allLocked s) s

/-- An apply timer as its hold-off goes from `was` to `is` (R72). -/
def applyTimer (now tmo : Nat) (fb : Feedback) (was is : Bool) (t : Option Timer) : Option Timer :=
  if was ∧ !is then (if fb = .applied then none else some (startAt now tmo))
  else if !was ∧ is then none
  else t

/-- Sets the outputs again (R64); each drop of a hold-off starts its apply timer (R72). -/
def updateOutputs (s : State) : State :=
  let w := wantedOutputs s
  s.onBrs fun b =>
    { b with
      drivePermit := w.drivePermit, sbHoldoff := w.sbHoldoff, ebHoldoff := w.ebHoldoff
      sbApply := applyTimer s.now s.params.brkFbTmo b.sbFb b.sbHoldoff w.sbHoldoff b.sbApply
      ebApply := applyTimer s.now s.params.brkFbTmo b.ebFb b.ebHoldoff w.ebHoldoff b.ebApply }

/-! ## Windows (R124) -/

/-- The board platforms of a gate station whose window is open in `t` and not in `s`. -/
def newlyOpen (s t : State) (g : Gate) : List Platform :=
  (allBerths.filter fun b => gateOfBerth b = g ∧ admissionOpen s b = false ∧ admissionOpen t b).map boardPlatform

/-- The notices of one gate station for one change from `before` to `after` (R124). -/
def noteGate (before after : State) (g : Gate) (s : State) : State :=
  let opened := newlyOpen before after g
  let closed := newlyOpen after before g
  let s1 := if opened.isEmpty then s else handTo .admissionOpen (.platforms opened) (gateStation g) s
  if closed.isEmpty then s1 else handTo .admissionClosed (.platforms closed) (gateStation g) s1

/-- ADMISSION_OPEN and ADMISSION_CLOSED for one change of trip state, line state or release mark (R124). -/
def noteWindows (before after : State) : State := allGates.foldl (fun s g => noteGate before after g s) after

/-- Sets the admission release mark (R123). -/
def setReleaseMark (v : Bool) (s : State) : State := noteWindows s (s.onAdm fun a => { a with releaseMark := v })

/-! ## A change of trip state (section 5.6) -/

/-- The TRC: the MIN_DWELL timer stops as DWELL is left (R96), the settle timer as SETTLE is left (R99). -/
def trcOnTrip (new : TripState) (s : State) : State :=
  s.onTrc fun t =>
    { t with
      state := new
      minDwell := if isDwell new then t.minDwell else none
      settleTimer := if new = .settle then t.settleTimer else none }

/-- The BRS: the refresh timer (R69), the release wait (R71) and the outputs (R64). -/
def brsOnTrip (new : TripState) (s : State) : State :=
  updateOutputs <| s.onBrs fun b =>
    { b with
      refreshTimer := if new = .release then timer s s.params.tDrv else if isPowered new then b.refreshTimer else none
      releaseWait := if new = .release ∧ b.stage = .none then timer s s.params.brkFbTmo else none }

/-- The PSU: the furthest count at RELEASE entry and its discard (R31), the held count as a moving state is left at
confirmed standstill (R29). -/
def psuOnTrip (old new : TripState) (s : State) : State :=
  s.onPsu fun u =>
    { u with
      furthest := if new = .release then some u.count else if isMoving new then u.furthest else none
      heldCount := if isMoving old ∧ !isMoving new ∧ u.still then u.count else u.heldCount }

/-- The CLC: the basis, the peak speed and the least margin at RELEASE entry; no basis after the trip (R47). -/
def clcOnTrip (new : TripState) (s : State) : State :=
  if new = .release then
    (s.onClc fun c => { c with basis := some (if s.psu.ref = .referenced then .profile else .cap) }).onTrip
      fun t => { t with peak := some 0, margin := none }
  else s.onClc fun c => { c with basis := if isMoving new then c.basis else none }

/-- The DRI: dwell phase, lead timer (R110) and door close timer (R113). -/
def driOnTrip (new : TripState) (s : State) : State :=
  s.onDri fun d =>
    match new with
    | .closing _ => { d with leadTimer := none, doorTimer := none }
    | .doors => { d with phase := .none, leadTimer := none, doorTimer := timer s (s.params.doorTmo * 1000) }
    | .none => { d with phase := .none, leadTimer := none, doorTimer := none }
    | .stoppedOnLine => { d with phase := .none, leadTimer := none, doorTimer := none }
    | _ => { d with doorTimer := none }

/-- A board platform's uncounted count passes to the car that becomes bound to it (R136). -/
def transferBerth (old new : TripState) (b : Berth) (a : Adm) : Adm :=
  match boundIn old b, boundIn new b with
  | none, some c =>
    let l := a.loads.get c
    { a with
      loads := a.loads.set c { l with uncounted := satAdd Config.count255 l.uncounted (a.uncounted.get b) }
      uncounted := a.uncounted.set b 0 }
  | _, _ => a

/-- The ADM: the release mark as DWELL is left (R123), the uncounted counts at the entry to DWELL (R136). -/
def admOnTrip (old new : TripState) (s : State) : State :=
  s.onAdm fun a =>
    if isDwell new then allBerths.foldl (fun x b => transferBerth old new b x) a
    else if isDwell old then { a with releaseMark := false }
    else a

/-- The trip state becomes `new`, handed to the BRS, PSU, CLC, DRI and ADM (section 5.6), with the notices of the
windows that open or close by it (R124). -/
def setTripState (new : TripState) (s : State) : State :=
  let old := s.trc.state
  noteWindows s (admOnTrip old new (driOnTrip new (clcOnTrip new (psuOnTrip old new (brsOnTrip new (trcOnTrip new s))))))

/-! ## Dwells (R96, R110, R123) -/

/-- The DRI's start of a new dwell (R110). -/
def driNewDwell (s : State) : State :=
  s.onDri fun d =>
    if s.lsu.line = .inService then
      if s.params.alightLead = 0 then { d with phase := .boarding, leadTimer := none }
      else { d with phase := .alighting, leadTimer := timer s (s.params.alightLead * 1000) }
    else { d with phase := .none, leadTimer := none }

/-- The entry to DWELL at stop `k` as a new dwell (R96): with ALIGHT_LEAD 0 the lead counts as elapsed (R123). -/
def newDwell (k : Stop) (s : State) : State :=
  let s1 := setTripState (.dwell k) s
  let s2 := s1.onTrc fun t => { t with minDwell := timer s1 (s1.params.minDwell * 1000), elapsed := false }
  setReleaseMark (s2.params.alightLead = 0) (driNewDwell s2)

/-- The return to DWELL at stop `k` after an abort: a resumed dwell (R96, R111, R123). -/
def resumedDwell (k : Stop) (s : State) : State :=
  setReleaseMark true ((setTripState (.dwell k) s).onDri fun d => { d with phase := .boarding, leadTimer := none })

/-! ## Incidents (R171, R172) -/

/-- The aboard counts an incident records: the frozen ones from SETTLE to the trip's end (R171). -/
def incidentAboard (s : State) : PerCar Nat :=
  if s.trc.state = .settle ∨ isMoving s.trc.state then s.trc.frozen else ⟨s.adm.loads.a.aboard, s.adm.loads.b.aboard⟩

/-- The record formed at a capture (R171). -/
def incidentOf (cause : IncidentCause) (s : State) : Incident :=
  { seq := s.niu.seq, cause := cause, stage := s.brs.stage, tripNumber := s.trc.trip.number, tripState := s.trc.state
    p := pos s, v := s.psu.vEval, c := s.clc.c, aboardA := (incidentAboard s).a, aboardB := (incidentAboard s).b
    read := false, acked := false }

/-- The list without its oldest acknowledged record; none where no record is acknowledged (R172). -/
def dropOldestAcked : List Incident → Option (List Incident)
  | [] => none
  | i :: rest => if i.acked then some rest else (dropOldestAcked rest).map (i :: ·)

/-- Appends a record to the list given, and hands INCIDENT_CAPTURED to CON (R171). -/
def placeIncident (cause : IncidentCause) (kept : List Incident) (s : State) : State :=
  hand .incidentCaptured (.incident s.niu.seq cause) [.con] <| s.onNiu fun n =>
    { n with incidents := kept ++ [incidentOf cause s], seq := (n.seq + 1) % Config.wrap16 }

/-- Captures an incident (R171, R172). -/
def capture (cause : IncidentCause) (s : State) : State :=
  if s.niu.incidents.length < Config.incidentMax then placeIncident cause s.niu.incidents s
  else
    match dropOldestAcked s.niu.incidents with
    | some kept => placeIncident cause kept s
    | none =>
      let n := satAdd Config.count255 s.niu.overflow 1
      hand .incidentOverflow (.overflow n) [.con] (s.onNiu fun u => { u with overflow := n })

/-! ## Slots and the end of a trip -/

def slotOf (s : State) : SlotId → Slot
  | .slot0 => s.trc.slot0
  | .slot1 => s.trc.slot1

def setSlot (id : SlotId) (v : Slot) (s : State) : State :=
  s.onTrc fun t =>
    match id with
    | .slot0 => { t with slot0 := v }
    | .slot1 => { t with slot1 := v }

/-- The owner of a slot (R82). -/
def ownerOf (s : State) (id : SlotId) : Owner := slotOwner s.params.slotMode id

/-- A slot after its trip: the IN_FLIGHT one is freed (R102, R103), the other kept. -/
def freed (cancelled : Bool) : Slot → Slot
  | .inFlight r => if cancelled ∨ r.trigger = .immediate ∨ r.oneShot then .empty else .armed r
  | v => v

def freeSlots (cancelled : Bool) (s : State) : State :=
  s.onTrc fun t => { t with slot0 := freed cancelled t.slot0, slot1 := freed cancelled t.slot1 }

/-- Hands a notice to the owner of the trip (R166). -/
def handOwner (k : NoticeKind) (d : NoticeDetail) (s : State) : State :=
  hand k d (s.trc.trip.owner.toList.map Owner.station) s

/-- Both mismatch counts 0, at a trip's start and end (R35). -/
def zeroMismatch (s : State) : State := s.onPsu fun u => { u with mismatch := ⟨0, 0⟩ }

/-- The abort of a trip (R103), up to what PENDING slots do (R91). -/
def abortTrip (cause : AbortCause) (s : State) : State :=
  let s1 := s.onTrip fun t => { t with outcome := .aborted, abortCause := some cause }
  let s2 := match s1.trc.trip.origin with
    | some k => resumedDwell k s1
    | none => setTripState .stoppedOnLine s1
  zeroMismatch (handOwner .tripAborted (.aborted s2.trc.trip.number cause) (freeSlots (cause = .cancelled) s2))

/-! ## The departure test (R93, R94, R105) -/

/-- The stop a SHUTTLE-EXPRESS goes to (R94). -/
def expressFrom (last : Option TripDir) : Stop → Stop
  | .bottom => .top
  | .top => .bottom
  | .middle => if last = some .downA then .bottom else .top

/-- The stop a SHUTTLE-ALL goes to with a middle stop (R94). -/
def allStopsFrom (last : Option TripDir) : Stop → Stop
  | .bottom => .middle
  | .top => .middle
  | .middle => expressFrom last .middle

/-- The destination resolved at stop `k` (R94). -/
def resolve (p : Params) (last : Option TripDir) (k : Stop) : Destination → Stop
  | .stop j => j
  | .shuttleExpress => expressFrom last k
  | .shuttleAll => if p.midStop = 0 then expressFrom last k else allStopsFrom last k

/-- The trip mode a request would capture (R86). -/
def tripMode (s : State) (r : TripReq) : Mode := restrict r.mode s.trc.effMode

/-- Conditions 1 to 6 of R93: the reason of the first that fails. DESIGN CHOICE: where both cars fail condition 4 or 6, the
reason names car A (log 44). -/
def preconditions (s : State) (owner : Owner) (mode : Mode) : Option Reason :=
  if ¬ (s.lsu.line = .inService ∨ (s.lsu.line = .inspection ∧ owner = .con ∧ mode = .inspection)) then some .wrongState
  else if s.brs.stage ≠ .none then some (.causePresent (.stage none))
  else if isFresh s .a = false then some (.causePresent (.carStale .a))
  else if isFresh s .b = false then some (.causePresent (.carStale .b))
  else if s.cru.a.latch then some (.causePresent (.alarm .a))
  else if s.cru.b.latch then some (.causePresent (.alarm .b))
  else if mode = .inspection then none
  else if s.psu.ref ≠ .referenced then some (.causePresent .unreferenced)
  else if s.adm.loads.a.uncounted ≠ 0 then some (.causePresent (.uncounted .a))
  else if s.adm.loads.b.uncounted ≠ 0 then some (.causePresent (.uncounted .b))
  else none

/-- The departure test of a slot at stop `k` (R93): none where every condition passes. -/
def departureTest (s : State) (id : SlotId) (r : TripReq) (k : Stop) : Option Reason :=
  match preconditions s (ownerOf s id) (tripMode s r) with
  | some why => some why
  | none =>
    if resolve s.params s.trc.trip.lastDir k r.dest = k then some (.causePresent .atDestination) else none

/-- The numbered stop of a destination, if it is one. -/
def numberedStop : Destination → Option Stop
  | .stop k => some k
  | .shuttleExpress => none
  | .shuttleAll => none

/-- The test of a trigger taken in STOPPED_ON_LINE (R105): none where it passes. -/
def lineTest (s : State) (id : SlotId) (r : TripReq) : Option Reason :=
  if ownerOf s id = .con ∧ r.trigger = .immediate ∧ r.mode ≠ .normal ∧ (numberedStop r.dest).isSome then
    preconditions s .con (tripMode s r)
  else some .wrongState

/-- TRIGGER_REFUSED to the slot's owner (R88, R91). -/
def refuseTrigger (id : SlotId) (why : TriggerRefusal) (s : State) : State :=
  handTo .triggerRefused (.refused id why) (ownerOf s id).station s

/-- A PENDING slot that is not started: EMPTY if its trigger is IMMEDIATE, else ARMED (R91). -/
def dropPending (id : SlotId) (r : TripReq) (why : TriggerRefusal) (s : State) : State :=
  refuseTrigger id why (setSlot id (if r.trigger = .immediate then .empty else .armed r) s)

/-- A PENDING slot after a trip that ended in STOPPED_ON_LINE (R91). -/
def stopPending (id : SlotId) (s : State) : State :=
  match slotOf s id with
  | .pending r => dropPending id r .stopped s
  | _ => s

def stopPendings (s : State) : State := stopPending .slot1 (stopPending .slot0 s)

/-- A PENDING slot tested in DWELL under a standing stage: the test cannot pass there (R93, condition 2). -/
def refusePending (id : SlotId) (s : State) : State :=
  match slotOf s id, s.trc.state with
  | .pending r, .dwell k =>
    if s.trc.elapsed then
      match departureTest s id r k with
      | some why => dropPending id r (.reason why) s
      | none => s
    else s
  | _, _ => s

/-- What PENDING slots do after an abort with cause BRAKE (R91, R103). -/
def pendingsUnderStage (s : State) : State :=
  if s.trc.state = .stoppedOnLine then stopPendings s else refusePending .slot1 (refusePending .slot0 s)

/-! ## Raising a cause (R62) -/

/-- The effectiveness monitor at a rise of the stage from `old` (R74). -/
def effectivenessOnRise (old : Stage) (s : State) : Option Effectiveness :=
  match s.brs.stage with
  | .emergency => none
  | .service => if old = .none ∧ s.psu.still = false then some ⟨s.psu.vEval, s.now⟩ else s.brs.effectiveness
  | .none => s.brs.effectiveness

/-- The DRI at a rise of the stage: every evacuation and maintenance release goes (R119). -/
def withdrawReleases (s : State) : State :=
  s.onDri fun d => { d with evac := ⟨false, false⟩, maint := ⟨⟨false, false⟩, ⟨false, false⟩⟩ }

/-- The TRC at a rise of the stage: an abort before RELEASE (R103), BRAKING from RELEASE on (R104). -/
def tripOnRise (s : State) : State :=
  match s.trc.state with
  | .closing _ => pendingsUnderStage (abortTrip .brake s)
  | .doors => pendingsUnderStage (abortTrip .brake s)
  | .settle => pendingsUnderStage (abortTrip .brake s)
  | .release => setTripState .braking s
  | .running => setTripState .braking s
  | .arriving => setTripState .braking s
  | _ => s

/-- A rise of the stage from `old`: the outputs at once, then the DRI and the TRC (R62, R71, R74). -/
def stageRise (old : Stage) (s : State) : State :=
  tripOnRise <| withdrawReleases <| updateOutputs <| s.onBrs fun b =>
    { b with effectiveness := effectivenessOnRise old s, releaseWait := none }

/-- The cause joins the set with its detail, and the stage rises to the one it calls for where that is higher. -/
def addCause (c : Cause) (d : Detail) (b : Brs) : Brs :=
  { b with causes := b.causes ++ [⟨c, d⟩], stage := if b.stage.rank < c.stage.rank then c.stage else b.stage }

/-- The notice of a new cause (R62). -/
def noticeOfCause (rises : Bool) (c : Cause) (d : Detail) (s : State) : State :=
  if rises then
    handAll (if s.brs.stage = .emergency then .emergencyBrake else .serviceBrake) (.cause c) s
  else hand .fault (.fault c d) [.drv, .con] s

/-- Raises a cause with the BRS (R62): a cause already in the set changes nothing; a new one is added, captured as
an incident and told to the masters, and a rise of the stage acts on the outputs, the doors and the trip. -/
def raiseCause (c : Cause) (d : Detail) (s : State) : State :=
  if hasCause s c then s
  else
    let rises : Bool := s.brs.stage.rank < c.stage.rank
    let s1 := noticeOfCause rises c d (capture (.cause c) (s.onBrs (addCause c d)))
    if rises then stageRise s.brs.stage s1 else s1

end Sys2Proof.Machine
end

