-- ==== Sys2Proof/Machine/TripOps.lean ====
section
/-! DEFINITION. The trip from its start to its end (sections 5.3 to 5.6): the trip states one after another, the
start of a trip, triggers and PENDING slots, aborts, the arrival, the end of a brake stop, and a change of line
state (R143). -/

namespace Sys2Proof.Machine

/-! ## RUNNING, RELEASE, SETTLE, DOORS, CLOSING -/

/-- BRAKE_DRAG for a brake whose feedback shows APPLIED (R73). -/
def dragCheck (b : Brake) (fb : Feedback) (s : State) : State :=
  if fb = .applied then raiseCause .brakeDrag (.brake b) s else s

/-- Entry to RUNNING (R101). -/
def enterRunning (s : State) : State :=
  let s1 := setTripState .running s
  dragCheck .emergency s1.brs.ebFb (dragCheck .service s1.brs.sbFb s1)

/-- Completion of the release wait: both feedbacks RELEASED while it runs in RELEASE (R71). -/
def checkReleased (s : State) : State :=
  if s.trc.state = .release ∧ s.brs.releaseWait.isSome ∧ s.brs.sbFb = .released ∧ s.brs.ebFb = .released then enterRunning s else s

/-- CAR_SILENT for a car whose report is stale at RELEASE entry (R70). -/
def silentCheck (c : Car) (s : State) : State :=
  if isFresh s c then s else raiseCause .carSilent (.silentCar c (reportAge s c)) s

/-- DOOR_OPEN for a side that is not LOCKED (R114). -/
def doorCheckSide (c : Car) (d : Side) (s : State) : State :=
  let st := doorState (s.cru.get c).poll d
  if st = .locked then s else raiseCause .doorOpen (.door c d st) s

/-- The DRI's check of a car's doors: only a fresh report is checked (R114). DESIGN CHOICE: where neither side is LOCKED
the left one is taken first, and DOOR_OPEN holds its detail (log 10). -/
def doorCheck (c : Car) (s : State) : State :=
  if isFresh s c then doorCheckSide c .right (doorCheckSide c .left s) else s

/-- Entry to RELEASE (R100): outputs, timers, furthest count and basis with the trip state, then the cars' silence
(R70), their doors (R114), and the release wait, which completes at once where both brakes are lifted (log 9). -/
def enterRelease (s : State) : State :=
  checkReleased (doorCheck .b (doorCheck .a (silentCheck .b (silentCheck .a (setTripState .release s)))))

/-- Entry to SETTLE (R99): the aboard counts are frozen, the derating is computed (R46), the settle timer starts;
a SETTLE_T of 0 expires at once. -/
def enterSettle (s : State) : State :=
  let s1 := setTripState .settle s
  let frozen : PerCar Nat := ⟨s1.adm.loads.a.aboard, s1.adm.loads.b.aboard⟩
  let s2 := s1.onTrc fun t =>
    { t with
      frozen := frozen
      trip := { t.trip with derating := some (deratingOf s1.params (t.trip.direction.getD .upA) frozen) } }
  if s2.params.settleT = 0 then enterRelease s2
  else s2.onTrc fun t => { t with settleTimer := timer s2 s2.params.settleT }

/-- The wait of DOORS: both reports fresh and all four sides LOCKED (R98). -/
def checkDoors (s : State) : State :=
  if s.trc.state = .doors ∧ allLocked s then enterSettle s else s

/-- Entry to DOORS (R98, R112, R113). -/
def enterDoors (s : State) : State := checkDoors (setTripState .doors s)

/-- "Reservation list empty" handed to the TRC: taken in CLOSING alone (R97, R133). -/
def reservationsEmpty (s : State) : State :=
  match s.trc.state with
  | .closing _ => if s.adm.reservations.isEmpty then enterDoors s else s
  | _ => s

/-- Entry to CLOSING (R97). -/
def enterClosing (k : Stop) (s : State) : State := reservationsEmpty (setTripState (.closing k) s)

/-! ## The start of a trip (R95) -/

/-- The direction of a trip to `dest` (R95). -/
def tripDirection (s : State) (origin : Option Stop) (dest : Stop) : TripDir :=
  let from_ : Int := match origin with
    | some k => stopPos s.params k
    | none => pos s
  if from_ < stopPos s.params dest then .upA else .downA

/-- The trip record of a trip that starts (R95, R86). -/
def startRecord (s : State) (id : SlotId) (r : TripReq) (dest : Stop) (origin : Option Stop) : TripRecord :=
  { s.trc.trip with
    number := (s.trc.trip.number + 1) % Config.wrap16
    slot := some id
    owner := some (ownerOf s id)
    mode := some (tripMode s r)
    direction := some (tripDirection s origin dest)
    origin := origin
    destination := some dest
    tpos := some (stopPos s.params dest)
    outcome := .none
    abortCause := none
    lastDir := some (tripDirection s origin dest) }

/-- The slot IN_FLIGHT, the trip record filled, the start handed to the NIU, PSU and DRI (R95, R118). -/
def beginTrip (id : SlotId) (r : TripReq) (dest : Stop) (origin : Option Stop) (s : State) : State :=
  let rec_ := startRecord s id r dest origin
  let s1 := (setSlot id (.inFlight r) s).onTrip fun _ => rec_
  let s2 := handOwner .tripStarted (.started rec_.number dest (tripMode s r)) s1
  (zeroMismatch s2).onDri fun d => { d with maint := ⟨⟨false, false⟩, ⟨false, false⟩⟩ }

/-- Starts a trip from stop `k`: CLOSING in service, DOORS in inspection (R95). -/
def startFromStop (id : SlotId) (r : TripReq) (k : Stop) (s : State) : State :=
  let s1 := beginTrip id r (resolve s.params s.trc.trip.lastDir k r.dest) (some k) s
  if s1.lsu.line = .inService then enterClosing k s1 else enterDoors s1

/-- Starts a trip from the line: DOORS, origin NONE (R95, R105). -/
def startFromLine (id : SlotId) (r : TripReq) (dest : Stop) (s : State) : State :=
  enterDoors (beginTrip id r dest none s)

/-! ## Triggers (R88 to R91) -/

/-- A PENDING slot tested in DWELL with MIN_DWELL elapsed (R91). -/
def testPending (id : SlotId) (s : State) : State :=
  match slotOf s id, s.trc.state with
  | .pending r, .dwell k =>
    if s.trc.elapsed then
      match departureTest s id r k with
      | none => startFromStop id r k s
      | some why => dropPending id r (.reason why) s
    else s
  | _, _ => s

/-- The PENDING slots after an abort other than by a stage (R91): slot 0 first (R90). -/
def pendingsAfterAbort (s : State) : State :=
  if s.trc.state = .stoppedOnLine then stopPendings s else testPending .slot1 (testPending .slot0 s)

/-- An abort with cause CANCELLED, DOORS_TIMEOUT or BRAKE_NOT_RELEASED (R103). -/
def abortAndTest (cause : AbortCause) (s : State) : State := pendingsAfterAbort (abortTrip cause s)

/-- A DISPATCH or DWELL trigger taken by an ARMED slot (R88, R89, R105). -/
def takeTrigger (id : SlotId) (r : TripReq) (s : State) : State :=
  match s.trc.state with
  | .none => s
  | .dwell k =>
    if s.trc.elapsed then
      match departureTest s id r k with
      | none => startFromStop id r k s
      | some why => refuseTrigger id (.reason why) s
    else setSlot id (.pending r) s
  | .stoppedOnLine =>
    match lineTest s id r with
    | none => s
    | some why => refuseTrigger id (.reason why) s
  | _ =>
    if r.mask then handTo .triggerIgnored (.ignored id) (ownerOf s id).station s else setSlot id (.pending r) s

/-- A trigger event taken by a slot that is ARMED with that trigger (R87). -/
def takeEvent (t : Trigger) (id : SlotId) (s : State) : State :=
  match slotOf s id with
  | .armed r => if r.trigger = t then takeTrigger id r s else s
  | _ => s

/-- What a slot does at the expiry of MIN_DWELL: an ARMED DWELL slot takes the event, a PENDING one is tested
(R91, R96). -/
def atDwellExpiry (id : SlotId) (s : State) : State :=
  match slotOf s id with
  | .armed r => if r.trigger = .dwell then takeTrigger id r s else s
  | .pending _ => testPending id s
  | _ => s

/-- An IMMEDIATE trigger of a TRIP REQUEST, for the slot with the new fields (R83, R88, R89, R105): the state after
it, or the reason of its refusal. -/
def takeImmediate (id : SlotId) (r : TripReq) (s : State) : Except Reason State :=
  match s.trc.state with
  | .none => .error .wrongState
  | .dwell k =>
    if s.trc.elapsed then
      match departureTest s id r k with
      | none => .ok (startFromStop id r k s)
      | some why => .error why
    else .ok (setSlot id (.pending r) s)
  | .stoppedOnLine =>
    match lineTest s id r, numberedStop r.dest with
    | none, some dest => .ok (startFromLine id r dest s)
    | none, none => .error .wrongState
    | some why, _ => .error why
  | _ => .ok (setSlot id (.pending r) s)

/-! ## Arrival and brake stop -/

/-- The stop at which an arrival or a brake stop finds the line: the reference must be REFERENCED or PROVISIONAL
(R102, R104, R147). -/
def trustedStop (s : State) : Option Stop := if s.psu.ref = .unreferenced then none else stopHere s

/-- The arrival test (R102). -/
def arrived (s : State) : Bool :=
  s.psu.ref ≠ .unreferenced ∧ (pos s - s.trc.trip.tpos.getD 0).natAbs ≤ s.params.alignTol

/-- A completed trip (R102). -/
def completeTrip (s : State) : State :=
  let s1 := s.onTrip fun t => { t with outcome := .done }
  let s2 := newDwell (s1.trc.trip.destination.getD .bottom) s1
  let s3 := freeSlots false s2
  zeroMismatch (handOwner .tripDone (.done s3.trc.trip.number s3.trc.trip.destination s3.trc.trip.peak) s3)

/-- The end of a brake stop by an accepted CLEAR BRAKE (R104), with what PENDING slots do (R91). -/
def endBraking (s : State) : State :=
  match trustedStop s with
  | some k =>
    let outcome : TripOutcome := if s.trc.trip.destination = some k then .done else .stopped
    let s1 := freeSlots false (newDwell k (s.onTrip fun t => { t with outcome := outcome }))
    zeroMismatch (handOwner .tripStopped (.stopped s1.trc.trip.number outcome (.stop k)) s1)
  | none =>
    let s1 := freeSlots false (setTripState .stoppedOnLine (s.onTrip fun t => { t with outcome := .stopped }))
    stopPendings (zeroMismatch (handOwner .tripStopped (.stopped s1.trc.trip.number .stopped (.line (pos s))) s1))

/-! ## Modes and the line state (R85, R143) -/

/-- The effective mode of the standing modes and the line state (R85). -/
def effectiveMode (s : State) : Mode :=
  if s.lsu.line = .inspection then .inspection else restrict s.trc.drvMode s.trc.conMode

/-- The effective mode evaluated again, with MODE_CHANGED where it differs (R85). -/
def evaluateMode (s : State) : State :=
  let m := effectiveMode s
  if m = s.trc.effMode then s
  else hand .modeChanged (.mode s.trc.effMode m) [.drv, .con] (s.onTrc fun t => { t with effMode := m })

/-- Marks the lapsed mark of the lane of each entry in `rs` (R133, R137). -/
def markLapsed (rs : List Reservation) (ops : List LaneOp) : List LaneOp :=
  ops.map fun l => if rs.any fun r => r.lane = l.id then { l with lapsed := true } else l

/-- The ADM at a change of line state: the reservation list is emptied (R133). -/
def emptyReservations (s : State) : State :=
  s.onAdm fun a => { a with reservations := [], lanes := markLapsed a.reservations a.lanes }

/-- Both slots EMPTY (R82, R147). -/
def emptySlots (s : State) : State := s.onTrc fun t => { t with slot0 := .empty, slot1 := .empty }

/-- The line state becomes `new`, handed to the TRC, DRI, ADM and NIU (R143); `slots` says whether both slots
become EMPTY (on entry to CLOSED, R82, and at INSPECTION ENTER, R147). -/
def changeLine (new : LineState) (slots : Bool) (s : State) : State :=
  let old := s.lsu.line
  let s1 := noteWindows s (s.onLsu fun l => { l with line := new })
  let s2 := evaluateMode s1
  let s3 := if slots then emptySlots s2 else s2
  handAll .lineState (.line old new) (emptyReservations (withdrawReleases s3))

end Sys2Proof.Machine
end

