-- ==== Sys2Proof/Machine/Motion.lean ====
section
/-! DEFINITION. Position and speed: the rope position set (R19), marker passes (R22 to R26), the speed sample with
what the PSU, the CLC, the BRS and the TRC do at it (R27 to R34, R45 to R58, R65 to R67, R75, R101, R102), the
mismatch check (R35), and a car report that goes stale (R39). -/

namespace Sys2Proof.Machine

/-! ## Setting P and the reference -/

/-- P is set to `x` (R19). -/
def setPos (x : Int) (s : State) : State := s.onPsu fun u => { u with pRef := x, countRef := u.count }

/-- Both expected markers cleared (R25). -/
def clearExpected (s : State) : State := s.onPsu fun u => { u with expected := ⟨none, none⟩ }

/-- The reference state set; the expected markers go where it is not REFERENCED (R20, R25). -/
def setRef (r : RefState) (s : State) : State :=
  let s1 := s.onPsu fun u => { u with ref := r }
  if r = .referenced then s1 else clearExpected s1

/-- The reference is withdrawn (R8). -/
def withdrawReference (s : State) : State := setRef .unreferenced s

/-! ## Expected markers (R22, R25, R26) -/

/-- The rope position at which a car is expected to pass marker `m` (R22). -/
def expectedPos (s : State) (c : Car) (m : Nat) : Int :=
  let x : Int := s.cfg.markers.getD m 0
  match c with
  | .a => x
  | .b => s.params.trackLen - x

/-- `x` lies beyond `y` in a direction of travel (R25). -/
def isBeyond (dir : TripDir) (x y : Int) : Bool :=
  match dir with
  | .upA => y < x
  | .downA => x < y

/-- Of the best marker so far and another, the one nearer in the direction of travel. -/
def nearerMarker (s : State) (c : Car) (dir : TripDir) (best : Option Nat) (m : Nat) : Option Nat :=
  match best with
  | none => some m
  | some b => if isBeyond dir (expectedPos s c b) (expectedPos s c m) then some m else some b

/-- The nearest marker strictly beyond `x`, if any (R25). -/
def nextMarker (s : State) (c : Car) (dir : TripDir) (x : Int) : Option Nat :=
  ((List.range s.cfg.markers.length).filter fun m => isBeyond dir (expectedPos s c m) x).foldl (nearerMarker s c dir) none

/-- A car's expected marker set to the one beyond `x`; none while there is no travel direction (R25, log 11). -/
def expectBeyond (c : Car) (x : Int) (s : State) : State :=
  s.onPsu fun u => { u with expected := u.expected.set c (u.travelDir.bind fun dir => nextMarker s c dir x) }

/-- The expected markers of both cars set afresh (R25). -/
def setAfresh (s : State) : State := expectBeyond .b (pos s) (expectBeyond .a (pos s) s)

/-- Whether a NORMAL or REDUCED trip is in flight (R26). -/
def trackedTrip (s : State) : Bool := inFlight s.trc.state ∧ (s.trc.trip.mode = some .normal ∨ s.trc.trip.mode = some .reduced)

/-- A missed marker: a cause in a NORMAL or REDUCED trip, else a fault without a stage (R26); the car's expected
marker advances past it. -/
def missMarker (c : Car) (m : Nat) (s : State) : State :=
  let s1 :=
    if trackedTrip s then raiseCause .markerMissed (.marker c m) s
    else hand .fault (.fault .markerMissed (.marker c m)) [.drv, .con] (capture (.cause .markerMissed) s)
  expectBeyond c (expectedPos s c m) s1

/-- The expected-marker check of a pass that left the state REFERENCED (R25). -/
def passExpected (c : Car) (m : Nat) (s : State) : State :=
  match s.psu.expected.get c, s.psu.travelDir with
  | some e, some dir =>
    if m = e then expectBeyond c (expectedPos s c m) s
    else if isBeyond dir (expectedPos s c m) (expectedPos s c e) then
      expectBeyond c (expectedPos s c m) (missMarker c e s)
    else s
  | _, _ => s

/-- The deviation D of a pass (R22). -/
def deviation (s : State) (c : Car) (m : Nat) : Nat := (pos s - expectedPos s c m).natAbs

/-- A pass in PROVISIONAL by another marker or the other car that agrees (R23). -/
def becomeReferenced (s : State) : State :=
  let s1 := setRef .referenced s
  if s1.psu.still then s1 else setAfresh s1

/-- A marker pass (R22 to R25). -/
def markerPass (c : Car) (m : Nat) (s : State) : State :=
  let pm := expectedPos s c m
  let near : Bool := deviation s c m ≤ s.params.mkTol
  match s.psu.ref with
  | .unreferenced => setRef (.provisional m c) (setPos pm s)
  | .provisional anchor car =>
    if anchor = m ∧ car = c then setPos pm s
    else if near then becomeReferenced (setPos pm s)
    else setRef (.provisional m c) (setPos pm s)
  | .referenced =>
    if near then passExpected c m (setPos pm s)
    else setRef (.provisional m c) (setPos pm (raiseCause .position (.position c m (pos s) pm) s))

/-! ## The sample's speed (R27, R28) -/

/-- The rope direction of a difference of counts (R27). -/
def dirOf (delta : Int) : Option TripDir := if 0 < delta then some .upA else if delta < 0 then some .downA else none

/-- v_eval: the greatest of v_rope and the speeds of the fresh reports (R28). -/
def evalSpeed (s : State) (vRope : Nat) : Nat :=
  max vRope (max (if isFresh s .a then s.cru.a.poll.speed else 0) (if isFresh s .b then s.cru.b.poll.speed else 0))

/-- The change of travel direction that R25 refers to: a sample in the opposite direction (R27). -/
def turns (travel rope : Option TripDir) : Bool :=
  match travel, rope with
  | some a, some b => a ≠ b
  | _, _ => false

/-- The sample's reading of the encoder: the speeds, the directions and the restarted sample timer (R27, R28), and
the expected markers where the travel direction changes off standstill while REFERENCED (R25). -/
def sampleSpeed (s : State) : State :=
  let u := s.psu
  let delta := countDiff u.count u.countPrev
  let vRope := ropeSpeed s.params.kEnc (u.sampleTimer.due - u.sampleTimer.start) delta
  let rope := dirOf delta
  let s1 := s.onPsu fun u =>
    { u with
      countPrev := u.count, vRope := vRope, vEval := evalSpeed s vRope, ropeDir := rope
      travelDir := if rope = none then u.travelDir else rope
      sampleTimer := startAt s.now s.params.ts }
  if turns u.travelDir rope ∧ u.ref = .referenced ∧ u.still = false then setAfresh s1 else s1

/-! ## Standstill (R29) -/

/-- Standstill is confirmed: the held count is taken, the expected markers are cleared (R25, R29) and the
effectiveness monitor ends (R74). -/
def confirmStill (s : State) : State :=
  clearExpected ((s.onPsu fun u => { u with still := true, heldCount := u.count }).onBrs fun b => { b with effectiveness := none })

/-- Standstill is lost (R29, R25). -/
def loseStill (s : State) : State :=
  let s1 := s.onPsu fun u => { u with still := false }
  if s1.psu.ref = .referenced then setAfresh s1 else s1

/-- The standstill update of a sample (R29). -/
def updateStill (s : State) : State :=
  if s.psu.vEval ≤ s.params.vstill then
    let n := satAdd Config.stillMax s.psu.stillCount 1
    let s1 := s.onPsu fun u => { u with stillCount := n }
    if s.psu.still = false ∧ s.params.nStill ≤ n then confirmStill s1 else s1
  else
    let s1 := s.onPsu fun u => { u with stillCount := 0 }
    if s.psu.still then loseStill s1 else s1

/-! ## The motion monitors (R30 to R34) -/

/-- The four motion monitors. -/
inductive Monitor where
  | rollback | unintended | overtravel | overshoot
deriving DecidableEq, Repr

def Armed.get (a : Armed) : Monitor → Bool
  | .rollback => a.rollback | .unintended => a.unintended | .overtravel => a.overtravel | .overshoot => a.overshoot

def Armed.set (a : Armed) (v : Bool) : Monitor → Armed
  | .rollback => { a with rollback := v }
  | .unintended => { a with unintended := v }
  | .overtravel => { a with overtravel := v }
  | .overshoot => { a with overshoot := v }

def Monitor.cause : Monitor → Cause
  | .rollback => .rollback | .unintended => .unintendedMotion | .overtravel => .overtravel | .overshoot => .overshoot

/-- The furthest count with a new count, in the trip's direction (R31). -/
def furtherCount (dir : TripDir) (f count : Count) : Count :=
  match dir with
  | .upA => if 0 < countDiff count f then count else f
  | .downA => if countDiff count f < 0 then count else f

/-- F takes the present count if that lies further in the trip's direction (R31). -/
def takeFurthest (s : State) : State :=
  if isPowered s.trc.state then
    s.onPsu fun u =>
      { u with furthest := some (furtherCount (s.trc.trip.direction.getD .upA) (u.furthest.getD u.count) u.count) }
  else s

/-- The distance between two counts in whole cm (R31, R32). -/
def countDistance (s : State) (a b : Count) : Nat := (countDiff a b).natAbs * s.params.kEnc / 65536

/-- The distance by which P lies past Tpos in the trip's direction (R34). -/
def pastTarget (s : State) : Int :=
  match s.trc.trip.direction with
  | some .downA => s.trc.trip.tpos.getD 0 - pos s
  | _ => pos s - s.trc.trip.tpos.getD 0

/-- Whether a monitor's condition is evaluated and holds (R31 to R34). -/
def monitorHolds (s : State) : Monitor → Bool
  | .rollback =>
    isPowered s.trc.state ∧ s.params.rollbackTol < countDistance s (s.psu.furthest.getD s.psu.count) s.psu.count
  | .unintended => isMoving s.trc.state = false ∧ s.params.creepTol < countDistance s s.psu.count s.psu.heldCount
  | .overtravel =>
    s.psu.ref = .referenced ∧ (pos s < -(s.params.ovtTol : Int) ∨ (s.params.trackLen + s.params.ovtTol : Int) < pos s)
  | .overshoot => s.psu.ref = .referenced ∧ isMoving s.trc.state ∧ (s.params.overshootTol : Int) < pastTarget s

/-- The armed mark of a monitor set. -/
def setArmed (m : Monitor) (v : Bool) (s : State) : State := s.onPsu fun u => { u with armed := u.armed.set v m }

/-- A monitor at a sample (R30). -/
def runMonitor (m : Monitor) (s : State) : State :=
  if monitorHolds s m then
    if s.psu.armed.get m then
      raiseCause m.cause (.motion (pos s) s.psu.vEval s.trc.state) (setArmed m false s)
    else s
  else setArmed m true s

/-- The missed-marker check of one car at a sample (R26). -/
def checkMissed (c : Car) (s : State) : State :=
  match s.psu.expected.get c, s.psu.travelDir with
  | some e, some dir =>
    let x := expectedPos s c e
    if s.psu.ref = .referenced ∧ s.psu.still = false ∧ isBeyond dir (pos s) x ∧ s.params.mkMiss < (pos s - x).natAbs then
      missMarker c e s
    else s
  | _, _ => s

/-- The monitors of a sample, in the order of R28. DESIGN CHOICE: of the missed-marker checks car A's comes before car
B's (log 39). -/
def runMonitors (s : State) : State :=
  checkMissed .b (checkMissed .a (runMonitor .overshoot (runMonitor .overtravel (runMonitor .unintended
    (runMonitor .rollback (takeFurthest s))))))

/-! ## The CLC at a sample (R45 to R58) -/

/-- C and the thresholds derived from it (R57). -/
def setCeiling (c : Nat) (s : State) : State :=
  s.onClc fun k => { k with c := c, w1 := threshW1 s.params c, s := threshS s.params c, e := threshE s.params c }

/-- The least margin with a new one (R58). -/
def leastMargin (new : Int) : Option Int → Int
  | none => new
  | some old => min old new

/-- Peak speed and least margin of the trip (R58). -/
def recordExtremes (s : State) : State :=
  s.onTrip fun t =>
    { t with
      peak := some (max (t.peak.getD 0) s.psu.vEval)
      margin := some (leastMargin ((s.clc.c : Int) - s.psu.vEval) t.margin) }

/-- The ceiling of a sample in a computing state (R54, R55). -/
def tripCeiling (s : State) (dir : TripDir) (tpos : Nat) : Nat :=
  match s.clc.basis, s.trc.trip.derating with
  | some .profile, some r =>
    ceilingProfile s.params s.cfg.profile (s.trc.trip.mode.getD .inspection) dir r.aEff tpos s.clc.vdrv (pos s)
  | _, _ => ceilingCap s.params s.clc.vdrv

/-- The CLC at a sample (R45). -/
def sampleCeiling (s : State) : State :=
  if s.cfg.committed then
    if isMoving s.trc.state then
      let dir := s.trc.trip.direction.getD .upA
      let tpos := s.trc.trip.tpos.getD 0
      recordExtremes (setCeiling (tripCeiling s dir tpos) (s.onClc fun k => { k with d := some (distanceToGo dir (pos s) tpos) }))
    else setCeiling s.params.vcreep (s.onClc fun k => { k with d := none })
  else s.onClc fun k => { k with d := none }

/-! ## The BRS at a sample (R65 to R67, R75) -/

/-- The comparison with E (R66). -/
def checkE (s : State) : State :=
  if s.clc.e < s.psu.vEval then raiseCause .overspeedEmergency (.overspeed s.psu.vEval s.clc.e s.clc.c) s else s

/-- The count against S (R66). -/
def checkS (s : State) : State :=
  if s.clc.s < s.psu.vEval then
    let s1 := s.onBrs fun b => { b with overspeedCount := satAdd 2 b.overspeedCount 1 }
    if s.brs.overspeedCount = 1 then raiseCause .overspeedService (.overspeed s.psu.vEval s.clc.s s.clc.c) s1 else s1
  else s.onBrs fun b => { b with overspeedCount := 0 }

/-- The effectiveness check (R75). -/
def checkEffectiveness (s : State) : State :=
  match s.brs.effectiveness with
  | none => s
  | some m =>
    let elapsed := s.now - m.t0
    let limit := effectivenessLimit s.params m.v0 elapsed
    if s.params.sbGrace ≤ elapsed ∧ limit < s.psu.vEval then
      raiseCause .sbIneffective (.ineffective m.v0 s.psu.vEval limit elapsed) s
    else s

/-- The warning (R67). -/
def checkWarning (s : State) : State :=
  if s.brs.warnArmed ∧ s.clc.w1 < s.psu.vEval then
    hand .overspeedWarn (.overspeed s.psu.vEval s.clc.w1 s.clc.c) [.drv] (s.onBrs fun b => { b with warnArmed := false })
  else if s.psu.vEval ≤ s.clc.c then s.onBrs fun b => { b with warnArmed := true }
  else s

/-- The BRS at a sample, in the order of R65. -/
def sampleBrakes (s : State) : State := checkWarning (checkEffectiveness (checkS (checkE s)))

/-! ## The TRC at a sample (R101, R102) -/

/-- RUNNING to ARRIVING (R101); the arrival in ARRIVING at confirmed standstill (R102, log 12). -/
def sampleTrip (s : State) : State :=
  match s.trc.state with
  | .running =>
    match s.clc.d with
    | some d => if d ≤ s.params.stopZone then setTripState .arriving s else s
    | none => s
  | .arriving => if s.psu.still ∧ arrived s then completeTrip s else s
  | _ => s

/-- A whole speed sample, in the order of R28 and R102. -/
def sample (s : State) : State :=
  sampleTrip (sampleBrakes (sampleCeiling (runMonitors (updateStill (sampleSpeed s)))))

/-! ## Speed mismatch (R35) -/

/-- The way a car moves for a rope direction (R35). -/
def carMoves (c : Car) : Option TripDir → CarDir
  | none => .none
  | some .upA => match c with | .a => .up | .b => .down
  | some .downA => match c with | .a => .down | .b => .up

/-- Whether a poll disagrees with the latest sample (R35). -/
def disagrees (s : State) (c : Car) (p : Poll) : Bool :=
  s.params.xtol < ((p.speed : Int) - s.psu.vRope).natAbs ∨
    (s.params.xtol < p.speed ∧ s.params.xtol < s.psu.vRope ∧ p.dir ≠ carMoves c s.psu.ropeDir)

/-- The mismatch check of a taken poll (R35). -/
def checkMismatch (c : Car) (p : Poll) (s : State) : State :=
  if inFlight s.trc.state then
    if disagrees s c p then
      let n := s.psu.mismatch.get c
      let s1 := s.onPsu fun u => { u with mismatch := u.mismatch.set c (satAdd Config.mismatchMax n 1) }
      if n = 2 then raiseCause .speedMismatch (.mismatch c p.speed s.psu.vRope) s1 else s1
    else s.onPsu fun u => { u with mismatch := u.mismatch.set c 0 }
  else s

/-! ## A stale report (R39, R64, R70) -/

/-- The record becomes stale, the outputs are set again, and CAR_SILENT is raised in RELEASE, RUNNING or ARRIVING. -/
def makeStale (c : Car) (s : State) : State :=
  let s1 := updateOutputs (s.onCru fun r => r.set c { r.get c with fresh := false })
  if isPowered s1.trc.state then raiseCause .carSilent (.silentCar c (reportAge s c)) s1 else s1

/-- A record whose staleness is due becomes stale (R39): around a write of T_CAR. -/
def staleIfOld (c : Car) (s : State) : State := if staleDue s c then makeStale c s else s

end Sys2Proof.Machine
end

