-- ==== Sys2Proof/Machine/Bus.lean ====
section
/-! DEFINITION. From frame to owning block and back (R154 to R158): the checks of the line bus port, the reply, and
what every command that is not a request has in common. -/

namespace Sys2Proof.Machine

/-- What an owning block gives back: the state after the request, the status and the reply's payload. -/
structure Answer where
  state  : State
  status : Status
  data   : ReplyData
deriving DecidableEq, Repr

/-- The request is accepted as asked. -/
def accept (data : ReplyData) (s : State) : Answer := ⟨s, .ok, data⟩

/-- The request is refused; nothing changes. -/
def refuse (why : Reason) (data : ReplyData) (s : State) : Answer := ⟨s, .refused why, data⟩

/-- Refused with a reason alone. -/
def deny (why : Reason) (s : State) : Answer := refuse why .nothing s

/-- Refused with CAUSE_PRESENT and its sub-reason (R156). -/
def present (why : SubReason) (s : State) : Answer := refuse (.causePresent why) (.causePresent why) s

/-- The payload of a reply to a configuration request or read: its data and the committed mark after the request
(R5, R17). -/
def cfgReply (d : CfgData) (s : State) : ReplyData := .cfg d s.cfg.committed

/-- What a reply carries beside its status where the request reached no block or was malformed: the committed mark for
a configuration request or read, every reply to which carries it (R5, R17), and nothing for any other (R156). -/
def refusalData (r : Request) (s : State) : ReplyData := if isStoreRequest r then cfgReply .nothing s else .nothing

/-! ## The reply (R156, R158) -/

/-- The reply in the state after the owning block has acted: its attention mark is the requester's own as it then
stands (R158). -/
def sendReply (r : Request) (st : Station) (status : Status) (data : ReplyData) (s : State) : State :=
  let row := catalogue r
  s.onLbp fun l =>
    { l with
      reply := some { status := status, attention := attention s st, cls := row.cls
                      station := BitVec.ofNat 3 (stationNumber st), code := row.code, data := data } }

/-- No reply is sent (R154, R156). -/
def noReply (s : State) : State := s.onLbp fun l => { l with reply := none }

/-- The reply to an answer, once the notices and the fresh marks of the command are settled. -/
def replyTo (r : Request) (st : Station) (before : State) (a : Answer) : State :=
  sendReply r st a.status a.data (finish before a.state)

/-- A request (R154, R155): discarded while RESET_N is low; refused by the role check; refused with BAD_REQUEST where
its payload does not carry its fields; else taken by its owning block. -/
def request {α : Type} (r : Request) (st : Station) (p : Payload α) (body : α → State → Answer) (s : State) :
    Host.Outcome State Fault Refusal :=
  if s.pins.resetLow then .next (noReply s)
  else if permitted (catalogue r).permit st then
    match p with
    | .fields f => .next (replyTo r st s (body f s))
    | .malformed _ => .next (replyTo r st s (refuse .badRequest (refusalData r s) s))
  else .next (replyTo r st s (refuse .notYours (refusalData r s) s))

/-- An event of a sensor or an input: nothing happens while RESET_N is low (log 14). -/
def event (body : State → State) (s : State) : Host.Outcome State Fault Refusal :=
  if s.pins.resetLow then .next s else .next (finish s (body s))

/-- A timed event: one that another command has overtaken does nothing (R69, log 47). -/
def timedEvent (i : Instr) (body : State → State) (s : State) : Host.Outcome State Fault Refusal :=
  if s.pins.resetLow then .next s
  else .next (takenUp i (finish s (if isOvertaken s i then s else body s)))

/-! ## Frames that reach no block (R154 to R156) -/

/-- UNKNOWN_REQUEST_FRAME (R155, checks 1 and 2): BAD_REQUEST with the head echoed; a head that passes both checks is
another command's and changes nothing (log 37). DESIGN CHOICE: a frame with a configuration request's class and code from
station 0 is no station's configuration request, and its reply carries no committed mark (log 24). -/
def execUnknownRequestFrame (h : Head) (s : State) : Host.Outcome State Fault Refusal :=
  if s.pins.resetLow then .next (noReply s)
  else
    match requestOf h.cls h.code, stationOf h.station.toNat with
    | some _, some _ => .next s
    | _, st =>
      .next <| s.onLbp fun l =>
        { l with
          reply := some { status := .refused .badRequest, attention := (st.map (attention s)).getD false
                          cls := h.cls, station := h.station, code := h.code, data := .nothing } }

/-- FRAME_DISCARDED (R154): no reply, and nothing changes, whatever the cause of the discard. -/
def execFrameDiscarded (_why : DiscardCause) (s : State) : Host.Outcome State Fault Refusal := .next (noReply s)

/-- REPLY_COLLISION (R156): the reply in hand stops and is not sent again; the request has taken effect. -/
def execReplyCollision (s : State) : Host.Outcome State Fault Refusal := .next (noReply s)

end Sys2Proof.Machine
end

