-- ==== Sys2Proof/Machine/Speed.lean ====
section
/-! DEFINITION. The commands of the PSU, the CRU and the CLC: the encoder edge, the speed sample, SET REFERENCE, the
car poll, a report going stale, and SET LIMIT (Chapters 2 and 3). -/

namespace Sys2Proof.Machine

/-- ENCODER_EDGE (R19): the count moves by one, wrapping, and P with it. -/
def execEncoderEdge (dir : TripDir) (s : State) : Host.Outcome State Fault Refusal :=
  event (fun s => s.onPsu fun u =>
    { u with count := match dir with | .upA => u.count + 1 | .downA => u.count - 1 }) s

/-- SPEED_SAMPLE (R27, R28): the sample timer, which always runs, expires. -/
def execSpeedSample (s : State) : Host.Outcome State Fault Refusal :=
  timedEvent .speedSample (fun s => sample (advanceTo s.psu.sampleTimer.due s)) s

/-! ## SET REFERENCE (R21) -/

/-- The checks of SET REFERENCE, in order. -/
def referenceCheck (s : State) (k : Option Stop) : Option Reason :=
  if ¬ (s.lsu.line = .closed ∨ s.lsu.line = .inspection) ∨ inFlight s.trc.state then some .wrongState
  else if (k.map (stopExists s.params)).getD false = false then some .badValue
  else if s.psu.still = false then some .moving
  else none

/-- P at the stop, REFERENCED, no anchor, no expected marker. -/
def assertReference (k : Stop) (s : State) : State := clearExpected (setRef .referenced (setPos (stopPos s.params k) s))

def takeSetReference (k : Coded Stop) (s : State) : Answer :=
  match referenceCheck s (listed? k), listed? k with
  | none, some stop =>
    let s1 := assertReference stop s
    accept (.reference (pos s1) s1.psu.ref.name) s1
  | some why, _ => deny why s
  | none, none => deny .badValue s

/-- SET_REFERENCE (R21). -/
def execSetReference (st : Station) (p : Payload (Coded Stop)) (s : State) : Host.Outcome State Fault Refusal :=
  request .setReference st p takeSetReference s

/-! ## The car poll (R37, R38, R41) -/

/-- The car a station polls for (R37); only the two car units may poll. -/
def carOf : Station → Car
  | .carB => .b
  | _ => .a

/-- The target stop of a poll reply (R41). -/
def targetStop (s : State) : Option Stop :=
  match s.trc.state with
  | .dwell k => some k
  | ts => if inFlight ts then s.trc.trip.destination else none

/-- The poll reply contents for a car (R41). -/
def pollReply (s : State) (c : Car) : PollReply :=
  { left := permit s c .left, right := permit s c .right, track := trackDemand s, line := s.lsu.line
    ts := s.trc.state, target := targetStop s, ceiling := s.clc.c }

/-- The record is replaced whole (R38). -/
def storePoll (c : Car) (p : Poll) (s : State) : State :=
  s.onCru fun r => r.set c { poll := p, fresh := true, takenAt := s.now, latch := (r.get c).latch }

/-- A stop request of a poll goes to the BRS (R76). -/
def pollStop (c : Car) (p : Poll) (s : State) : State :=
  match p.stopReq with
  | .none => s
  | .stop => raiseCause .stopRequest (.asker (.car c)) s
  | .estop => raiseCause .estopRequest (.asker (.car c)) s

/-- A car's latch and its mirror set alike (R40, R135). -/
def setLatch (c : Car) (v : Bool) (s : State) : State :=
  (s.onCru fun r => r.set c { r.get c with latch := v }).onAdm fun a =>
    { a with loads := a.loads.set c { a.loads.get c with alarmMirror := v } }

/-- The passenger alarm of a poll goes to the latch, the NIU and the incident list (R40, R171). -/
def pollAlarm (c : Car) (p : Poll) (s : State) : State :=
  if p.alarm ∧ (s.cru.get c).latch = false then
    hand .passengerAlarm (.car c) [.drv, .con] (capture (.passengerAlarm c) (setLatch c true s))
  else s

/-- A marker pass of a poll goes to the PSU (R22). -/
def pollMarker (c : Car) (p : Poll) (s : State) : State :=
  match p.marker with
  | some m => markerPass c m s
  | none => s

/-- The door states of a poll go to the DRI while the line is powered and to the TRC in DOORS (R98, R114). -/
def pollDoors (c : Car) (s : State) : State :=
  if isPowered s.trc.state then doorCheck c s else checkDoors s

/-- A valid poll taken whole and handed to its users (R38), in the order of log 10. -/
def takePoll (c : Car) (p : Poll) (s : State) : State :=
  pollAlarm c p (pollStop c p (pollDoors c (pollMarker c p (checkMismatch c p (updateOutputs (storePoll c p s))))))

/-- A marker pass names a marker that the table holds (R37). -/
def markerKnown (s : State) (p : Poll) : Bool :=
  match p.marker with
  | some m => m < s.cfg.markers.length
  | none => true

/-- The seven bytes of a poll, taken or refused with the full poll reply (R37, R41). -/
def takeCarPoll (st : Station) (poll : Option Poll) (s : State) : Answer :=
  match poll with
  | some p =>
    if markerKnown s p then
      let s1 := takePoll (carOf st) p s
      accept (.poll (pollReply s1 (carOf st))) s1
    else refuse .badValue (.poll (pollReply s (carOf st))) s
  | none => refuse .badValue (.poll (pollReply s (carOf st))) s

/-- The payload of a poll: seven bytes, or a payload of another length (R155, check 4). -/
def pollPayload : List Byte → Payload (Option Poll)
  | [b0, b1, b2, b3, b4, b5, b6] => .fields (pollOf b0 b1 b2 b3 b4 b5 b6)
  | bs => .malformed bs

/-- CAR_POLL (R37, R38). -/
def execCarPoll (st : Station) (bytes : List Byte) (s : State) : Host.Outcome State Fault Refusal :=
  request .carPoll st (pollPayload bytes) (takeCarPoll st) s

/-- CAR_REPORT_STALE (R39): the age of a record whose fresh field stands exceeds the stored T_CAR. -/
def execCarReportStale (c : Car) (s : State) : Host.Outcome State Fault Refusal :=
  timedEvent (.carReportStale c) (fun s =>
    if (s.cru.get c).fresh then makeStale c (advanceTo ((s.cru.get c).takenAt + s.params.tCar + 1) s) else s) s

/-! ## SET LIMIT (R53) -/

def takeSetLimit (v : Int) (s : State) : Answer :=
  let x := clampNat s.params.vcreep s.params.vmax v
  ⟨s.onClc fun k => { k with vdrv := some x }, if (x : Int) = v then .ok else .clamped, .speed x⟩

/-- SET_LIMIT (R53). -/
def execSetLimit (st : Station) (p : Payload Int) (s : State) : Host.Outcome State Fault Refusal :=
  request .setLimit st p takeSetLimit s

end Sys2Proof.Machine
end

