-- ==== Sys2Proof/Machine/Store.lean ====
section
/-! DEFINITION. The commands of the configuration store (Chapter 1): the writes, the reads and COMMIT. -/

namespace Sys2Proof.Machine

/-! ## What the configuration requests share (R5, R17) -/

/-- A refused configuration request (R5): its reply carries the committed mark. -/
def cfgDeny (why : Reason) (s : State) : Answer := refuse why (cfgReply .nothing s) s

/-- An accepted write other than COMMIT sets the store uncommitted (R5, R17). -/
def uncommit (s : State) : State := s.onCfg fun c => { c with committed := false }

/-- An accepted write: `clamped` says whether a value was stored other than as given. -/
def cfgAccept (clamped : Bool) (d : CfgData) (s : State) : Answer :=
  let s1 := uncommit s
  ⟨s1, if clamped then .clamped else .ok, cfgReply d s1⟩

/-- Check 2 of R5: the line state is CLOSED; then the request's own checks and its write. -/
def cfgWrite (go : State → Answer) (s : State) : Answer := if s.lsu.line = .closed then go s else cfgDeny .wrongState s

/-! ## SET PARAMETER and PLATFORM SIDE (R4, R6, R8) -/

/-- Each car's record whose staleness is due becomes stale (R39). -/
def settleStale (s : State) : State := staleIfOld .b (staleIfOld .a s)

/-- What happens before a numeric write takes effect: a write of K_ENC rebases P (R8); before a write of T_CAR a record
that the old value has made stale is stale, so that no higher value makes it fresh again (R39). -/
def beforeWrite (p : NumParam) (s : State) : State :=
  if p = .kEnc then setPos (pos s) s else if p = .tCar then settleStale s else s

/-- What a numeric write brings with it: the reference withdrawn (R8), reports made stale (R39). -/
def afterWrite (p : NumParam) (s : State) : State :=
  if p = .trackLen ∨ p = .midStop ∨ p = .kEnc then withdrawReference s
  else if p = .tCar then settleStale s
  else s

/-- A numeric parameter written (R6). -/
def writeNum (p : NumParam) (v : Int) (s : State) : Answer :=
  let x := clampNat (paramRow p).lo (paramRow p).hi v
  let s1 := afterWrite p ((beforeWrite p s).onCfg fun c => { c with params := c.params.put x p })
  cfgAccept ((x : Int) ≠ v) (.value (.number x)) s1

/-- The value of a list that a number names as its code. -/
def fromCode {α : Type} (l : List α) (v : Int) : Option α := if v < 0 then none else l[v.toNat]?

/-- A parameter written (R6): an enumerated value outside its list is refused. -/
def writeParam (p : Param) (v : Int) (s : State) : Answer :=
  match p with
  | .num n => writeNum n v s
  | .slotMode =>
    match fromCode allSlotModes v with
    | some m => cfgAccept false (.value (.slotMode m)) (s.onCfg fun c => { c with params := { c.params with slotMode := m } })
    | none => cfgDeny .badValue s
  | .walkwaySide =>
    match fromCode allSides v with
    | some d => cfgAccept false (.value (.side d)) (s.onCfg fun c => { c with params := { c.params with walkwaySide := d } })
    | none => cfgDeny .badValue s

def writeParameter (f : Coded Param × Int) : State → Answer :=
  cfgWrite fun s =>
    match f.1 with
    | .listed p => writeParam p f.2 s
    | .unlisted _ => cfgDeny .badValue s

/-- SET_PARAMETER (R6). -/
def execSetParameter (st : Station) (p : Payload (Coded Param × Int)) (s : State) : Host.Outcome State Fault Refusal :=
  request .setParameter st p writeParameter s

def takePlatformSide (f : Coded Platform × Coded Side) : State → Answer :=
  cfgWrite fun s =>
    match f with
    | (.listed pf, .listed d) =>
      cfgAccept false (.value (.side d)) (s.onCfg fun c => { c with doorSide := c.doorSide.set pf d })
    | _ => cfgDeny .badValue s

/-- PLATFORM_SIDE (R4). -/
def execPlatformSide (st : Station) (p : Payload (Coded Platform × Coded Side)) (s : State) :
    Host.Outcome State Fault Refusal :=
  request .platformSide st p takePlatformSide s

/-! ## The profile (R9, R10) -/

/-- A segment at its place in ascending order; it replaces the one with the same start. -/
def insertSegment (t : Segment) : List Segment → List Segment
  | [] => [t]
  | u :: rest => if t.start < u.start then t :: u :: rest else if t.start = u.start then t :: rest else u :: insertSegment t rest

/-- The number of the segment with a start: how many start below it. -/
def segmentNumber (start : Nat) (l : List Segment) : Nat := (l.filter fun u => u.start < start).length

def takeProfilePut (f : Int × Int) : State → Answer :=
  cfgWrite fun s =>
    let start := clampNat 0 Config.positionMax f.1
    let limit := clampNat Config.limitMin Config.limitMax f.2
    let replaces := s.cfg.profile.any fun u => u.start = start
    if replaces = false ∧ Config.profileMax ≤ s.cfg.profile.length then cfgDeny .full s
    else
      cfgAccept ((start : Int) ≠ f.1 ∨ (limit : Int) ≠ f.2) (.segment start limit (segmentNumber start s.cfg.profile))
        (s.onCfg fun c => { c with profile := insertSegment ⟨start, limit⟩ c.profile })

/-- PROFILE_PUT (R10). -/
def execProfilePut (st : Station) (p : Payload (Int × Int)) (s : State) : Host.Outcome State Fault Refusal :=
  request .profilePut st p takeProfilePut s

def takeProfileRemove (n : Nat) : State → Answer :=
  cfgWrite fun s =>
    if n < s.cfg.profile.length then cfgAccept false .nothing (s.onCfg fun c => { c with profile := c.profile.eraseIdx n })
    else cfgDeny .badValue s

/-- PROFILE_REMOVE (R10). -/
def execProfileRemove (st : Station) (p : Payload Nat) (s : State) : Host.Outcome State Fault Refusal :=
  request .profileRemove st p takeProfileRemove s

def takeProfileClear (_ : Unit) : State → Answer :=
  cfgWrite fun s => cfgAccept false .nothing (s.onCfg fun c => { c with profile := [] })

/-- PROFILE_CLEAR (R10). -/
def execProfileClear (st : Station) (p : Payload Unit) (s : State) : Host.Outcome State Fault Refusal :=
  request .profileClear st p takeProfileClear s

/-! ## The markers (R11, R12) -/

/-- A position at its place in ascending order. -/
def insertMarker (x : Nat) : List Nat → List Nat
  | [] => [x]
  | y :: rest => if x < y then x :: y :: rest else y :: insertMarker x rest

def markerNumber (x : Nat) (l : List Nat) : Nat := (l.filter fun y => y < x).length

/-- The marker table written: the reference is withdrawn with it (R8). -/
def setMarkers (f : List Nat → List Nat) (s : State) : State :=
  withdrawReference (s.onCfg fun c => { c with markers := f c.markers })

def takeMarkerPut (v : Int) : State → Answer :=
  cfgWrite fun s =>
    let x := clampNat 0 Config.positionMax v
    if s.cfg.markers.contains x then cfgDeny .badValue s
    else if Config.markerMax ≤ s.cfg.markers.length then cfgDeny .full s
    else cfgAccept ((x : Int) ≠ v) (.marker x (markerNumber x s.cfg.markers)) (setMarkers (insertMarker x) s)

/-- MARKER_PUT (R12). -/
def execMarkerPut (st : Station) (p : Payload Int) (s : State) : Host.Outcome State Fault Refusal :=
  request .markerPut st p takeMarkerPut s

def takeMarkerRemove (n : Nat) : State → Answer :=
  cfgWrite fun s =>
    if n < s.cfg.markers.length then cfgAccept false .nothing (setMarkers (fun l => l.eraseIdx n) s)
    else cfgDeny .badValue s

/-- MARKER_REMOVE (R12). -/
def execMarkerRemove (st : Station) (p : Payload Nat) (s : State) : Host.Outcome State Fault Refusal :=
  request .markerRemove st p takeMarkerRemove s

def takeMarkerClear (_ : Unit) : State → Answer :=
  cfgWrite fun s => cfgAccept false .nothing (setMarkers (fun _ => []) s)

/-- MARKER_CLEAR (R12). -/
def execMarkerClear (st : Station) (p : Payload Unit) (s : State) : Host.Outcome State Fault Refusal :=
  request .markerClear st p takeMarkerClear s

/-! ## The lanes (R13, R14) -/

/-- The order of the lanes: by station, then by lane number (R16, check 4). -/
def laneKey (id : LaneId) : Nat := allGates.idxOf id.gate * 8 + id.num.val

/-- A layout at its place; it replaces the one of the same identity. -/
def insertLane (l : Lane) : List Lane → List Lane
  | [] => [l]
  | m :: rest =>
    if laneKey l.id < laneKey m.id then l :: m :: rest else if l.id = m.id then l :: rest else m :: insertLane l rest

/-- An operating state at its place; it replaces the one of the same identity. -/
def insertLaneOp (l : LaneOp) : List LaneOp → List LaneOp
  | [] => [l]
  | m :: rest =>
    if laneKey l.id < laneKey m.id then l :: m :: rest else if l.id = m.id then l :: rest else m :: insertLaneOp l rest

/-- The configured lane of an identity. -/
def laneAt (s : State) (id : LaneId) : Option Lane := s.cfg.lanes.find? fun l => l.id = id

/-- A lane configured: ENABLED, no reservation, no lapsed mark, lapse count 0 (R14). -/
def putLane (l : Lane) (s : State) : State :=
  (s.onCfg fun c => { c with lanes := insertLane l c.lanes }).onAdm fun a =>
    { a with
      lanes := insertLaneOp (laneOpReset l.id) a.lanes
      reservations := a.reservations.filter fun r => r.lane ≠ l.id }

def writeLane (f : LanePutFields) : State → Answer :=
  cfgWrite fun s =>
    match laneId? f.lane, f.kind, f.platform with
    | some id, .listed k, .listed pf => cfgAccept false .nothing (putLane ⟨id, k, pf⟩ s)
    | _, _, _ => cfgDeny .badValue s

/-- LANE_PUT (R14). -/
def execLanePut (st : Station) (p : Payload LanePutFields) (s : State) : Host.Outcome State Fault Refusal :=
  request .lanePut st p writeLane s

/-- A lane removed from the table, its ADM state discarded (R14). -/
def dropLane (id : LaneId) (s : State) : State :=
  (s.onCfg fun c => { c with lanes := c.lanes.filter fun l => l.id ≠ id }).onAdm fun a =>
    { a with
      lanes := a.lanes.filter fun l => l.id ≠ id
      reservations := a.reservations.filter fun r => r.lane ≠ id }

/-- The configured lane that a request names (R13). -/
def namedLane (s : State) (r : LaneRef) : Option Lane := (laneId? r).bind (laneAt s)

def takeLaneRemove (r : LaneRef) : State → Answer :=
  cfgWrite fun s =>
    match namedLane s r with
    | some l => cfgAccept false .nothing (dropLane l.id s)
    | none => cfgDeny .badValue s

/-- LANE_REMOVE (R14). -/
def execLaneRemove (st : Station) (p : Payload LaneRef) (s : State) : Host.Outcome State Fault Refusal :=
  request .laneRemove st p takeLaneRemove s

/-! ## COMMIT (R16, R17) -/

/-- Check 1. -/
def commit1 (s : State) : Option CommitItem :=
  let m := s.params.midStop
  if m = 0 ∨ (1000 ≤ m ∧ m + 1000 ≤ s.params.trackLen) then none else some (.param .midStop)

/-- The first segment that fails check 2, from number `n` on; `prev` is the start before it. -/
def badSegment (p : Params) : Nat → Option Nat → List Segment → Option Nat
  | _, _, [] => none
  | n, prev, t :: rest =>
    let starts : Bool := match prev with
      | none => t.start = 0
      | some b => b < t.start
    if starts ∧ t.start < p.trackLen ∧ p.vcreep ≤ t.limit ∧ t.limit ≤ p.vmax then badSegment p (n + 1) (some t.start) rest
    else some n

/-- Check 2. -/
def commit2 (s : State) : Option CommitItem :=
  match s.cfg.profile with
  | [] => some (.segment 0)
  | l => (badSegment s.params 0 none l).map .segment

/-- The first marker that fails check 3, from number `n` on; `prev` is the marker before it. -/
def badMarker (p : Params) : Nat → Option Nat → List Nat → Option Nat
  | _, _, [] => none
  | n, prev, x :: rest =>
    let spaced : Bool := match prev with
      | none => true
      | some y => y + 2 * p.mkTol + 1 ≤ x
    if spaced ∧ x ≤ p.trackLen then badMarker p (n + 1) (some x) rest else some n

/-- Check 3. -/
def commit3 (s : State) : Option CommitItem := (badMarker s.params 0 none s.cfg.markers).map .marker

/-- Whether a lane passes check 4. -/
def laneFits (p : Params) (l : Lane) : Bool :=
  gateOfBerth (berthOf l.platform) = l.id.gate ∧ isBoard l.platform = decide (l.kind = .entry) ∧
    ¬ (l.id.gate = .mid ∧ p.midStop = 0)

/-- Check 4. -/
def commit4 (s : State) : Option CommitItem :=
  (s.cfg.lanes.find? fun l => laneFits s.params l = false).map fun l => .lane l.id

/-- Check 5: the first parameter of the chain that breaks it (log 13). -/
def commit5 (s : State) : Option CommitItem :=
  let p := s.params
  if p.vinsp < p.vcreep then some (.param .vinsp)
  else if p.vred < p.vinsp ∨ p.vmax < p.vred then some (.param .vred)
  else if p.vabs ≤ withMargin p.vmax p.kSrv then some (.param .vabs)
  else none

/-- Check 6. -/
def commit6 (s : State) : Option CommitItem := if s.params.aFloor ≤ s.params.aNom then none else some (.param .aFloor)

/-- Check 7: K_WARN where both of its parts fail (log 13). -/
def commit7 (s : State) : Option CommitItem :=
  if s.params.kSrv < s.params.kWarn then some (.param .kWarn)
  else if s.params.kEm < s.params.kSrv + 16 then some (.param .kEm)
  else none

/-- Check 8. -/
def commit8 (s : State) : Option CommitItem :=
  if s.params.overshootTol < s.params.ovtTol then none else some (.param .overshootTol)

/-- Check 9. -/
def commit9 (s : State) : Option CommitItem :=
  if s.params.capacity < s.adm.loads.a.aboard then some (.car .a)
  else if s.params.capacity < s.adm.loads.b.aboard then some (.car .b)
  else none

/-- The checks of R16 in their order. -/
def commitChecks : List (Nat × (State → Option CommitItem)) :=
  [(1, commit1), (2, commit2), (3, commit3), (4, commit4), (5, commit5), (6, commit6), (7, commit7), (8, commit8),
   (9, commit9)]

/-- The number and the item of the first check that fails; none where all pass (R16). -/
def commitFailure (s : State) : Option (Nat × CommitItem) :=
  commitChecks.findSome? fun c => (c.2 s).map fun item => (c.1, item)

def takeCommit (_ : Unit) : State → Answer :=
  cfgWrite fun s =>
    match commitFailure s with
    | none =>
      let s1 := s.onCfg fun c => { c with committed := true }
      accept (cfgReply .nothing s1) s1
    | some (n, item) => refuse .badValue (cfgReply (.failed n item) (uncommit s)) (uncommit s)

/-- COMMIT (R16, R17). -/
def execCommit (st : Station) (p : Payload Unit) (s : State) : Host.Outcome State Fault Refusal :=
  request .commit st p takeCommit s

/-! ## Reading the store (R15) -/

/-- The stored value of a parameter. -/
def storedValue (s : State) : Param → StoredValue
  | .num p => .number (s.params.get p)
  | .slotMode => .slotMode s.params.slotMode
  | .walkwaySide => .side s.params.walkwaySide

def takeReadParameter (n : Coded ReadName) (s : State) : Answer :=
  match n with
  | .listed (.param p) => accept (cfgReply (.value (storedValue s p)) s) s
  | .listed (.doorSide pf) => accept (cfgReply (.value (.side (s.cfg.doorSide.get pf))) s) s
  | .unlisted _ => cfgDeny .badValue s

/-- READ_PARAMETER (R15). -/
def execReadParameter (st : Station) (p : Payload (Coded ReadName)) (s : State) : Host.Outcome State Fault Refusal :=
  request .readParameter st p takeReadParameter s

/-- The entry that READ ENTRY names, with the number of entries its table holds (R15). -/
def entryAt (s : State) : EntryRef → Option (TableEntry × Nat)
  | .segment n => s.cfg.profile[n]?.map fun t => (.segment t.start t.limit, s.cfg.profile.length)
  | .marker n => s.cfg.markers[n]?.map fun x => (.marker x, s.cfg.markers.length)
  | .lane r => (namedLane s r).map fun l => (.lane l.kind l.platform, s.cfg.lanes.length)
  | .unlistedTable _ _ => none

def takeReadEntry (e : EntryRef) (s : State) : Answer :=
  match entryAt s e with
  | some (entry, held) => accept (cfgReply (.entry entry held) s) s
  | none => cfgDeny .badValue s

/-- READ_ENTRY (R15). -/
def execReadEntry (st : Station) (p : Payload EntryRef) (s : State) : Host.Outcome State Fault Refusal :=
  request .readEntry st p takeReadEntry s

end Sys2Proof.Machine
end

