-- ==== Sys2Proof/Machine/Brakes.lean ====
section
/-! DEFINITION. The commands of the brake supervisor (Chapter 4): stop requests, RUN REFRESH, CLEAR BRAKE, the
brake timers and the feedback inputs. -/

namespace Sys2Proof.Machine

/-! ## Stop requests (R76) -/

/-- A stop request of a station: the cause is raised, and the reply carries the stage as it then stands (R76). -/
def takeStop (c : Cause) (st : Station) (s : State) : Answer :=
  let s1 := raiseCause c (.asker (.station st)) s
  accept (.stage s1.brs.stage) s1

/-- STOP (R76). -/
def execStop (st : Station) (p : Payload Unit) (s : State) : Host.Outcome State Fault Refusal :=
  request .stop st p (fun _ => takeStop .stopRequest st) s

/-- ESTOP (R76). -/
def execEstop (st : Station) (p : Payload Unit) (s : State) : Host.Outcome State Fault Refusal :=
  request .estop st p (fun _ => takeStop .estopRequest st) s

/-! ## Drive refresh (R68, R69) -/

def takeRunRefresh (_ : Unit) (s : State) : Answer :=
  accept .nothing <| s.onBrs fun b =>
    { b with
      lastRefresh := some s.now
      refreshTimer := if isPowered s.trc.state then timer s s.params.tDrv else b.refreshTimer }

/-- RUN_REFRESH (R68). -/
def execRunRefresh (st : Station) (p : Payload Unit) (s : State) : Host.Outcome State Fault Refusal :=
  request .runRefresh st p takeRunRefresh s

/-- The drive refresh timer's expiry (R69). -/
def driveSilent (s : State) : State :=
  raiseCause .driveSilent (.silentDrive (s.brs.lastRefresh.map fun t => s.now - t)) (s.onBrs fun b => { b with refreshTimer := none })

/-- DRIVE_REFRESH_TIMER_EXPIRY (R69): one that arrives together with a RUN REFRESH and is taken after it is overtaken,
and raises nothing (log 47). -/
def execDriveRefreshTimerExpiry (s : State) : Host.Outcome State Fault Refusal :=
  timedEvent .driveRefreshTimerExpiry (fun s =>
    match s.brs.refreshTimer with
    | some t => driveSilent (advanceTo t.due s)
    | none => s) s

/-! ## The release wait (R71) -/

/-- "Brakes not released" (R71, R100): the wait is stopped and the trip aborted. -/
def notReleased (s : State) : State :=
  let s1 := s.onBrs fun b => { b with releaseWait := none }
  if s1.trc.state = .release then abortAndTest .brakeNotReleased s1 else s1

/-- RELEASE_WAIT_EXPIRY (R71). -/
def execReleaseWaitExpiry (s : State) : Host.Outcome State Fault Refusal :=
  timedEvent .releaseWaitExpiry (fun s =>
    match s.brs.releaseWait with
    | some t => notReleased (advanceTo t.due s)
    | none => s) s

/-! ## Apply timers and feedback (R72, R73, R164) -/

/-- A brake's apply timer, feedback and hold-off. -/
def Brs.apply (b : Brs) : Brake → Option Timer
  | .service => b.sbApply
  | .emergency => b.ebApply

def Brs.fb (b : Brs) : Brake → Feedback
  | .service => b.sbFb
  | .emergency => b.ebFb

def Brs.holdoff (b : Brs) : Brake → Bool
  | .service => b.sbHoldoff
  | .emergency => b.ebHoldoff

def Brs.setApply (b : Brs) (t : Option Timer) : Brake → Brs
  | .service => { b with sbApply := t }
  | .emergency => { b with ebApply := t }

def Brs.setFb (b : Brs) (v : Feedback) : Brake → Brs
  | .service => { b with sbFb := v }
  | .emergency => { b with ebFb := v }

/-- The cause of a brake that has not applied (R72). -/
def failCause : Brake → Cause
  | .service => .sbFail
  | .emergency => .ebFail

/-- The expiry of a brake's apply timer `t` (R72). -/
def notApplied (b : Brake) (t : Timer) (s : State) : State :=
  raiseCause (failCause b) (.applyTimer (s.now - t.start) (s.brs.fb b)) (s.onBrs fun r => r.setApply none b)

/-- APPLY_TIMER_EXPIRY (R72). -/
def execApplyTimerExpiry (b : Brake) (s : State) : Host.Outcome State Fault Refusal :=
  timedEvent (.applyTimerExpiry b) (fun s =>
    match s.brs.apply b with
    | some t => notApplied b t (advanceTo t.due s)
    | none => s) s

/-- A brake's input before its filter. -/
def Pins.input (p : Pins) : Brake → Input Feedback
  | .service => p.sbIn
  | .emergency => p.ebIn

def Pins.setInput (p : Pins) (v : Input Feedback) : Brake → Pins
  | .service => { p with sbIn := v }
  | .emergency => { p with ebIn := v }

/-- An input that stands at a level: since when it does; an input that stood elsewhere takes it now (log 16). -/
def standing {α : Type} [DecidableEq α] (now : Nat) (v : α) (i : Input α) : Input α := if i.level = v then i else ⟨v, now⟩

/-- The apply timer at a new feedback: satisfied at APPLIED; started afresh at RELEASED with the hold-off off (R72). -/
def timerAtFeedback (b : Brake) (level : Feedback) (s : State) : State :=
  match level with
  | .applied => s.onBrs fun r => r.setApply none b
  | .released => if s.brs.holdoff b then s else s.onBrs fun r => r.setApply (timer s s.params.brkFbTmo) b

/-- A feedback change taken by the BRS (R71 to R73). -/
def takeFeedback (b : Brake) (level : Feedback) (s : State) : State :=
  let s1 := checkReleased (timerAtFeedback b level (s.onBrs fun r => r.setFb level b))
  if level = .applied ∧ s1.trc.state = .running then raiseCause .brakeDrag (.brake b) s1 else s1

/-- The input has held its level for 2 ms (R164): the clock and the pin. -/
def heldInput (b : Brake) (level : Feedback) (s : State) : State :=
  let i := standing s.now level (s.pins.input b)
  advanceTo (i.since + Config.inputHoldMs) (s.onPins fun p => p.setInput i b)

/-- BRAKE_FEEDBACK_CHANGE (R72, R164): a level the feedback does not yet show. -/
def execBrakeFeedbackChange (b : Brake) (level : Feedback) (s : State) : Host.Outcome State Fault Refusal :=
  event (fun s => if s.brs.fb b = level then s else takeFeedback b level (heldInput b level s)) s

/-- FEEDBACK_INPUT_CHANGE (R164): the level before the filter, whose 2 ms hold starts or is cancelled. -/
def execFeedbackInputChange (b : Brake) (level : Feedback) (s : State) : Host.Outcome State Fault Refusal :=
  .next (s.onPins fun p => p.setInput (standing s.now level (p.input b)) b)

/-! ## CLEAR BRAKE (R78 to R80) -/

/-- A fresh report shows a door side other than LOCKED (R79). -/
def freshOpenDoor (s : State) (c : Car) : Bool := isFresh s c ∧ bothLocked (s.cru.get c).poll = false

/-- The line is off a stop (R79). -/
def offStop (s : State) : Bool := s.psu.ref ≠ .referenced ∨ stopHere s = none

/-- The first persisting cause found (R79). -/
def persisting (s : State) : Option SubReason :=
  if isFresh s .a = false ∨ isFresh s .b = false then some .carSilent
  else if (freshOpenDoor s .a ∨ freshOpenDoor s .b) ∧ offStop s then some .doorOpen
  else if hasCause s .sbFail ∧ s.brs.sbFb ≠ .applied then some .sbFail
  else if hasCause s .ebFail ∧ s.brs.ebFb ≠ .applied then some .ebFail
  else none

/-- Evacuation releases withdrawn (R80, R116). -/
def endEvacuations (s : State) : State := s.onDri fun d => { d with evac := ⟨false, false⟩ }

/-- An accepted CLEAR BRAKE (R80): the BRS, its outputs, the DRI, and the TRC in BRAKING (R104). -/
def clearStage (s : State) : State :=
  let s1 := endEvacuations <| updateOutputs <| s.onBrs fun b =>
    { b with stage := .none, causes := [], effectiveness := none, overspeedCount := 0 }
  if s1.trc.state = .braking then endBraking s1 else s1

/-- The checks of R79 and the clear. DESIGN CHOICE: with the stage already NONE the OK reply carries the stage NONE, as
that of an accepted clear does (log 40). -/
def takeClearBrake (st : Station) (s : State) : Answer :=
  if s.brs.stage = .none then accept (.stage .none) s
  else if ¬ (s.brs.stage = .service ∨ st = .con) then deny .notYours s
  else if s.psu.still = false then deny .moving s
  else
    match persisting s with
    | some why => present why s
    | none =>
      let s1 := clearStage s
      accept (.stage s1.brs.stage) s1

/-- CLEAR_BRAKE (R79). -/
def execClearBrake (st : Station) (p : Payload Unit) (s : State) : Host.Outcome State Fault Refusal :=
  request .clearBrake st p (fun _ => takeClearBrake st) s

end Sys2Proof.Machine
end

