-- ==== Sys2Proof/Machine/Trips.lean ====
section
/-! DEFINITION. The commands of the trip controller (Chapter 5): the requests on the slots and modes, the
dispatcher's line, and the trip's timers. -/

namespace Sys2Proof.Machine

/-! ## The slot of a request (R83, check 1) -/

/-- The role in which DRV or CON owns slots. -/
def roleOf (st : Station) : Owner := if st = .con then .con else .drv

/-- The slot number as sent. -/
def slotNumbered (n : Nat) : Option SlotId := if n = 0 then some .slot0 else if n = 1 then some .slot1 else none

/-- The slot where none is named: the requester's under SHARED, else slot 0. -/
def defaultSlot (m : SlotMode) (role : Owner) : SlotId := if m = .shared ∧ role = .con then .slot1 else .slot0

/-- The slot a request names, or is given where it names none; none for a number that is no slot's (R83, log 18). -/
def slotGiven (s : State) (st : Station) : Option Nat → Option SlotId
  | some k => slotNumbered k
  | none => some (defaultSlot s.params.slotMode (roleOf st))

/-- The slot a request is for, if its requester owns it (R83). -/
def resolveSlot (s : State) (st : Station) (n : Option Nat) : Option SlotId :=
  (slotGiven s st n).filter fun i => ownerOf s i = roleOf st

/-! ## TRIP REQUEST (R83) -/

/-- The trip number, where the slot's trip is in flight. -/
def startedNumber (s : State) (id : SlotId) : Option Nat :=
  match slotOf s id with
  | .inFlight _ => some s.trc.trip.number
  | _ => none

/-- The sub-reason that a refusal carries (R156). -/
def Reason.sub : Reason → Option SubReason
  | .causePresent r => some r
  | _ => none

/-- A refused TRIP REQUEST: the slot and its state as they stand (R83, R156). -/
def slotDeny (id : SlotId) (why : Reason) (s : State) : Answer := refuse why (.slot id (slotOf s id).name none why.sub) s

/-- The request that the fields describe, where each is one of its listed values and its stop exists (R83, check 2).
DESIGN CHOICE: check 2 names the destination, the mode and the trigger alone; a one-shot or mask code that names no listed
value, BAD_VALUE by R155, is refused with them, before checks 3 and 4 (log 45). -/
def requestFields (s : State) (f : TripRequestFields) : Option TripReq :=
  match f.dest, f.mode, f.trigger, f.oneShot, f.mask with
  | .listed d, .listed m, .listed t, .listed o, .listed k =>
    if ((numberedStop d).map (stopExists s.params)).getD true then some ⟨d, m, t, o, k⟩ else none
  | _, _, _, _, _ => none

/-- Check 1 of R83 fails: NOT_YOURS, with the slot and its state where the number is a slot's (log 18). -/
def slotNotYours (s : State) (st : Station) (n : Option Nat) : Answer :=
  match slotGiven s st n with
  | some id => slotDeny id .notYours s
  | none => deny .notYours s

/-- A request stored or triggered at once: the status OK from an EMPTY slot, else REPLACED (R83). -/
def slotAccept (id : SlotId) (before after : State) : Answer :=
  ⟨after, if (slotOf before id).name = .empty then .ok else .replaced,
    .slot id (slotOf after id).name (startedNumber after id) none⟩

/-- A request that passed its checks (R83). -/
def fileRequest (id : SlotId) (r : TripReq) (s : State) : Answer :=
  if r.trigger = .immediate then
    match takeImmediate id r s with
    | .ok s1 => slotAccept id s s1
    | .error why => slotDeny id why s
  else slotAccept id s (setSlot id (.armed r) s)

/-- The line takes a trip request of this requester (R83, check 3). -/
def takesTrips (s : State) (st : Station) : Bool :=
  s.lsu.line = .inService ∨ (s.lsu.line = .inspection ∧ st = .con)

def fillSlot (st : Station) (f : TripRequestFields) (s : State) : Answer :=
  match resolveSlot s st f.slot with
  | none => slotNotYours s st f.slot
  | some id =>
    match requestFields s f with
    | none => slotDeny id .badValue s
    | some r =>
      if takesTrips s st = false then slotDeny id .wrongState s
      else if (slotOf s id).name = .inFlight then slotDeny id .busy s
      else fileRequest id r s

/-- TRIP_REQUEST (R83). -/
def execTripRequest (st : Station) (p : Payload TripRequestFields) (s : State) : Host.Outcome State Fault Refusal :=
  request .tripRequest st p (fillSlot st) s

/-! ## CANCEL TRIP (R84) -/

/-- A trip that a CANCEL TRIP can still abort (R84). -/
def cancellable : TripState → Bool
  | .closing _ => true
  | .doors => true | .settle => true | .release => true
  | _ => false

def takeCancelTrip (st : Station) (n : Option Nat) (s : State) : Answer :=
  match resolveSlot s st n with
  | none => deny .notYours s
  | some id =>
    match slotOf s id with
    | .empty => accept .nothing s
    | .armed _ => accept .nothing (setSlot id .empty s)
    | .pending _ => accept .nothing (setSlot id .empty s)
    | .inFlight _ => if cancellable s.trc.state then accept .nothing (abortAndTest .cancelled s) else deny .moving s

/-- CANCEL_TRIP (R84). -/
def execCancelTrip (st : Station) (p : Payload (Option Nat)) (s : State) : Host.Outcome State Fault Refusal :=
  request .cancelTrip st p (takeCancelTrip st) s

/-! ## SET MODE (R85) -/

/-- The requester's standing mode set. -/
def setStanding (st : Station) (m : Mode) (s : State) : State :=
  s.onTrc fun t => if st = .con then { t with conMode := m } else { t with drvMode := m }

def takeSetMode (st : Station) (m : Coded Mode) (s : State) : Answer :=
  match m with
  | .listed v =>
    let s1 := evaluateMode (setStanding st v s)
    accept (.mode s1.trc.effMode) s1
  | .unlisted _ => deny .badValue s

/-- SET_MODE (R85). -/
def execSetMode (st : Station) (p : Payload (Coded Mode)) (s : State) : Host.Outcome State Fault Refusal :=
  request .setMode st p (takeSetMode st) s

/-! ## The dispatcher's line (R87, R164) -/

/-- The line after its 2 ms filter, as the level now at the input will leave it (log 16). -/
def filtered (p : Pins) : Input Bool :=
  if p.dispatchIn.level = p.dispatchLine.level then p.dispatchLine
  else ⟨p.dispatchIn.level, p.dispatchIn.since + Config.inputHoldMs⟩

/-- The filtered line once a pending change of the input is 2 ms old. -/
def settledLine (now : Nat) (p : Pins) : Input Bool :=
  if p.dispatchIn.since + Config.inputHoldMs ≤ now then filtered p else p.dispatchLine

/-- The input at a level from now, if it does not stand there; the filtered line as it stands until then (R164). -/
def takeInput (now : Nat) (v : Bool) (p : Pins) : Pins :=
  { p with dispatchLine := settledLine now p, dispatchIn := standing now v p.dispatchIn }

/-- DISPATCH_INPUT_CHANGE (R87, R164): the level at the input, whose 2 ms hold and 50 ms debounce start or are
cancelled. -/
def execDispatchInputChange (high : Bool) (s : State) : Host.Outcome State Fault Refusal :=
  .next (s.onPins (takeInput s.now high))

/-- The filtered line as the debounce next takes it (R87): the level at which it stands for 50 ms before a change of the
input passes the filter, where that is a new one; else the level that the input will leave it at. -/
def steadyLine (debounced : Bool) (p : Pins) : Input Bool :=
  if p.dispatchLine.level ≠ debounced ∧
      p.dispatchLine.since + Config.debounceMs ≤ p.dispatchIn.since + Config.inputHoldMs then p.dispatchLine
  else filtered p

/-- The pins under which the line has held the level `v`: as they are, or with the input at `v` from now (log 16). -/
def heldPins (now : Nat) (debounced v : Bool) (p : Pins) : Pins :=
  if (steadyLine debounced p).level = v then p else takeInput now v p

/-- The line has held a level through the filter and the debounce: the clock, the pins and the debounced level. -/
def debounce (v : Bool) (s : State) : State :=
  let p := heldPins s.now s.trc.debounced v s.pins
  let line := steadyLine s.trc.debounced p
  let s1 := advanceTo (line.since + Config.debounceMs) (s.onPins fun _ => { p with dispatchLine := line })
  s1.onTrc fun t => { t with debounced := v }

/-- DISPATCH (R87, R90): the debounced level rises, and the ARMED slots with trigger DISPATCH take the event, slot 0
first. -/
def execDispatch (s : State) : Host.Outcome State Fault Refusal :=
  event (fun s =>
    if s.trc.debounced then s
    else takeEvent .dispatch .slot1 (takeEvent .dispatch .slot0 (debounce true s))) s

/-- DEBOUNCED_LEVEL_FALL (R87): no event. -/
def execDebouncedLevelFall (s : State) : Host.Outcome State Fault Refusal :=
  event (fun s => if s.trc.debounced then debounce false s else s) s

/-! ## MIN_DWELL and the settle timer (R96, R99) -/

/-- The elapsed mark, then the DWELL event and the tests of PENDING slots, slot 0 first (R90, R91, R96). -/
def dwellElapsed (s : State) : State :=
  atDwellExpiry .slot1 (atDwellExpiry .slot0 (s.onTrc fun t => { t with minDwell := none, elapsed := true }))

/-- MIN_DWELL_EXPIRY (R96). -/
def execMinDwellExpiry (s : State) : Host.Outcome State Fault Refusal :=
  timedEvent .minDwellExpiry (fun s =>
    match s.trc.minDwell with
    | some t => dwellElapsed (advanceTo t.due s)
    | none => s) s

/-- The settle timer's expiry in SETTLE (R99). -/
def settled (s : State) : State :=
  let s1 := s.onTrc fun t => { t with settleTimer := none }
  if s1.trc.state = .settle then enterRelease s1 else s1

/-- SETTLE_TIMER_EXPIRY (R99). -/
def execSettleTimerExpiry (s : State) : Host.Outcome State Fault Refusal :=
  timedEvent .settleTimerExpiry (fun s =>
    match s.trc.settleTimer with
    | some t => settled (advanceTo t.due s)
    | none => s) s

end Sys2Proof.Machine
end

