-- ==== Sys2Proof/Machine/Doors.lean ====
section
/-! DEFINITION. The commands of the door interlock (Chapter 6): the evacuation and maintenance releases, the lead
timer and the door close timer. -/

namespace Sys2Proof.Machine

/-- A car's two permits, as a reply carries them (R115, R117). -/
def permitData (s : State) (c : Car) : ReplyData := .permits (permit s c .left) (permit s c .right)

/-! ## Evacuation (R115, R116) -/

def setEvac (c : Car) (v : Bool) (s : State) : State := s.onDri fun d => { d with evac := d.evac.set c v }

/-- Checks 2 to 5 of EVACUATE. -/
def evacuateCheck (s : State) : Option Reason :=
  if ¬ (s.trc.state = .stoppedOnLine ∨ s.trc.state = .braking) then some .wrongState
  else if s.brs.stage = .none then some .wrongState
  else if s.psu.still = false then some .moving
  else if s.brs.sbFb ≠ .applied then some .wrongState
  else none

def takeEvacuate (c : Coded Car) (s : State) : Answer :=
  match c with
  | .unlisted _ => deny .badValue s
  | .listed car =>
    match evacuateCheck s with
    | some why => deny why s
    | none =>
      let s1 := setEvac car true s
      accept (permitData s1 car) s1

/-- EVACUATE (R115). -/
def execEvacuate (st : Station) (p : Payload (Coded Car)) (s : State) : Host.Outcome State Fault Refusal :=
  request .evacuate st p takeEvacuate s

def takeEvacuateEnd (c : Coded Car) (s : State) : Answer :=
  match c with
  | .unlisted _ => deny .badValue s
  | .listed car => accept .nothing (setEvac car false s)

/-- EVACUATE_END (R115). -/
def execEvacuateEnd (st : Station) (p : Payload (Coded Car)) (s : State) : Host.Outcome State Fault Refusal :=
  request .evacuateEnd st p takeEvacuateEnd s

/-! ## Maintenance (R117, R118) -/

def setMaint (c : Car) (d : Side) (v : Bool) (s : State) : State :=
  s.onDri fun r => { r with maint := r.maint.set c ((r.maint.get c).set d v) }

/-- Checks 2 to 4 of MAINT RELEASE. -/
def maintCheck (s : State) : Option Reason :=
  if ¬ (s.lsu.line = .closed ∨ s.lsu.line = .inspection) ∨ inFlight s.trc.state then some .wrongState
  else if s.psu.still = false then some .moving
  else if s.brs.sbFb ≠ .applied then some .wrongState
  else none

def takeMaintRelease (f : Coded Car × Coded Side) (s : State) : Answer :=
  match f with
  | (.listed car, .listed d) =>
    match maintCheck s with
    | some why => deny why s
    | none =>
      let s1 := setMaint car d true s
      accept (permitData s1 car) s1
  | _ => deny .badValue s

/-- MAINT_RELEASE (R117). -/
def execMaintRelease (st : Station) (p : Payload (Coded Car × Coded Side)) (s : State) : Host.Outcome State Fault Refusal :=
  request .maintRelease st p takeMaintRelease s

/-- Every maintenance release withdrawn (R118). -/
def endMaint (s : State) : State := s.onDri fun d => { d with maint := ⟨⟨false, false⟩, ⟨false, false⟩⟩ }

def takeMaintEnd (t : MaintTarget) (s : State) : Answer :=
  match t with
  | .all => accept .nothing (endMaint s)
  | .side (.listed car) (.listed d) => accept .nothing (setMaint car d false s)
  | _ => deny .badValue s

/-- MAINT_END (R118). -/
def execMaintEnd (st : Station) (p : Payload MaintTarget) (s : State) : Host.Outcome State Fault Refusal :=
  request .maintEnd st p takeMaintEnd s

/-! ## The lead timer and the door close timer (R110, R113) -/

/-- The lead has elapsed: BOARDING, and "lead elapsed" to the ADM (R110, R123). -/
def leadElapsed (s : State) : State := setReleaseMark true (s.onDri fun d => { d with phase := .boarding, leadTimer := none })

/-- LEAD_TIMER_EXPIRY (R110). -/
def execLeadTimerExpiry (s : State) : Host.Outcome State Fault Refusal :=
  timedEvent .leadTimerExpiry (fun s =>
    match s.dri.leadTimer with
    | some t => leadElapsed (advanceTo t.due s)
    | none => s) s

/-- "Doors timed out" (R98, R113): the trip is aborted if it is still in DOORS. -/
def doorsTimedOut (s : State) : State :=
  let s1 := s.onDri fun d => { d with doorTimer := none }
  if s1.trc.state = .doors then abortAndTest .doorsTimeout s1 else s1

/-- DOOR_CLOSE_TIMER_EXPIRY (R113). -/
def execDoorCloseTimerExpiry (s : State) : Host.Outcome State Fault Refusal :=
  timedEvent .doorCloseTimerExpiry (fun s =>
    match s.dri.doorTimer with
    | some t => doorsTimedOut (advanceTo t.due s)
    | none => s) s

end Sys2Proof.Machine
end

