-- ==== Sys2Proof/Machine/Gates.lean ====
section
/-! DEFINITION. The commands of the admission unit (Chapter 7): grants, passages, abandonments, lapses, exits, and
the console's requests on lanes and loads. -/

namespace Sys2Proof.Machine

/-! ## Lanes, reservations and loads -/

/-- The operating state of a lane (R122). -/
def laneOpAt (s : State) (id : LaneId) : Option LaneOp := s.adm.lanes.find? fun l => l.id = id

/-- Changes the operating state of one lane. -/
def onLane (id : LaneId) (f : LaneOp → LaneOp) (s : State) : State :=
  s.onAdm fun a => { a with lanes := a.lanes.map fun l => if l.id = id then f l else l }

/-- Removes a lane's entry from the reservation list; its lapse timer goes with it (R126). -/
def dropReservation (id : LaneId) (s : State) : State :=
  s.onAdm fun a => { a with reservations := a.reservations.filter fun r => r.lane ≠ id }

/-- "Reservation list empty" where it has become so (R133). -/
def handIfEmpty (s : State) : State := if s.adm.reservations.isEmpty then reservationsEmpty s else s

/-- Changes a car's load. -/
def onLoad (c : Car) (f : Load → Load) (s : State) : State :=
  s.onAdm fun a => { a with loads := a.loads.set c (f (a.loads.get c)) }

/-- Checks 1 and 2 of R127, and the kind of lane the request needs. -/
def gateCheck (s : State) (st : Station) (r : LaneRef) (k : LaneKind) : Except Reason Lane :=
  match namedLane s r with
  | none => .error .badValue
  | some l =>
    if gateStation l.id.gate ≠ st then .error .notYours
    else if l.kind ≠ k then .error .badValue
    else .ok l

/-- A gate request that passed its checks on the lane. -/
def atLane (st : Station) (k : LaneKind) (r : LaneRef) (go : Lane → Answer) (s : State) : Answer :=
  match gateCheck s st r k with
  | .ok l => go l
  | .error why => deny why s

/-! ## ADMIT (R127) -/

/-- The lane is ENABLED (R127, check 4). -/
def laneEnabled (s : State) (id : LaneId) : Bool := ((laneOpAt s id).map (·.state)) = some .enabled

/-- Checks 4 to 7 of R127: the car, or the refusal. -/
def admitCheck (s : State) (l : Lane) : Except (Reason × ReplyData) Car :=
  if laneEnabled s l.id = false then .error (.laneFault, .nothing)
  else if (reservationOf s l.id).isSome then .error (.busy, .nothing)
  else
    match boundCar s l.platform with
    | some c =>
      if admissionOpen s (berthOf l.platform) = false then .error (.closed, .nothing)
      else if hasRoom s c = false then .error (.full, .full c)
      else .ok c
    | none => .error (.closed, .nothing)

/-- A place granted (R127): the entry with its lapse timer; the lane's lapsed mark is cleared. -/
def grant (l : Lane) (c : Car) (s : State) : State :=
  (onLane l.id (fun o => { o with lapsed := false }) s).onAdm fun a =>
    { a with
      reservations := a.reservations ++ [⟨l.id, l.platform, c, startAt s.now (s.params.passTmo * 1000)⟩] }

/-- The places a car has left (R127). -/
def placesLeft (s : State) (c : Car) : Nat := s.params.capacity - ((s.adm.loads.get c).aboard + reservedFor s c)

def takeAdmit (st : Station) (r : LaneRef) (s : State) : Answer :=
  atLane st .entry r (fun l =>
    match admitCheck s l with
    | .ok c =>
      let s1 := grant l c s
      accept (.granted c (placesLeft s1 c)) s1
    | .error (why, data) => refuse why data s) s

/-- ADMIT (R127). -/
def execAdmit (st : Station) (p : Payload LaneRef) (s : State) : Host.Outcome State Fault Refusal :=
  request .admitPerson st p (takeAdmit st) s

/-! ## PASSED (R128 to R130) -/

/-- Where a late or unauthorised person is counted (R129). DESIGN CHOICE: through an ENTRY lane laid on an alight platform
the person counts as at the board platform of the same berth, and the place named is the lane's platform (log 41). -/
def countPlace (s : State) (pf : Platform) : CountedAt :=
  match boundCar s pf with
  | some c => if hasRoom s c then .aboard c else .uncounted c
  | none => .platform pf

/-- The person counted there (R129). -/
def countPerson (pf : Platform) (s : State) : State :=
  match countPlace s pf with
  | .aboard c => onLoad c (fun l => { l with aboard := l.aboard + 1 }) s
  | .uncounted c => onLoad c (fun l => { l with uncounted := satAdd Config.count255 l.uncounted 1 }) s
  | .platform q =>
    s.onAdm fun a =>
      { a with
        uncounted := a.uncounted.set (berthOf q) (satAdd Config.count255 (a.uncounted.get (berthOf q)) 1) }

/-- A passage against a reservation (R128). -/
def passReserved (l : Lane) (r : Reservation) (s : State) : State :=
  handIfEmpty <| onLane l.id (fun o => { o with lapses := 0 }) <|
    onLoad r.car (fun x => { x with aboard := x.aboard + 1 }) (dropReservation l.id s)

/-- A late passage (R129). -/
def passLate (l : Lane) (s : State) : State := countPerson l.platform (onLane l.id (fun o => { o with lapsed := false }) s)

/-- LANE_FAULT to the lane's gate controller and CON (R130, R132). -/
def handLaneFault (id : LaneId) (why : LaneFaultReason) (s : State) : State :=
  hand .laneFault (.laneFault id why) [gateStation id.gate, .con] s

/-- An unauthorised passage (R130). -/
def passUnauthorised (l : Lane) (s : State) : State :=
  handLaneFault l.id .unauthorised (onLane l.id (fun o => { o with state := .fault }) (countPerson l.platform s))

/-- The lane's lapsed mark. -/
def laneLapsed (s : State) (id : LaneId) : Bool := ((laneOpAt s id).map (·.lapsed)).getD false

def takePassed (st : Station) (r : LaneRef) (s : State) : Answer :=
  atLane st .entry r (fun l =>
    match reservationOf s l.id with
    | some e => accept (.passage .reserved (.aboard e.car)) (passReserved l e s)
    | none =>
      if laneLapsed s l.id then accept (.passage .late (countPlace s l.platform)) (passLate l s)
      else accept (.passage .unauthorised (countPlace s l.platform)) (passUnauthorised l s)) s

/-- PASSED (R128). -/
def execPassed (st : Station) (p : Payload LaneRef) (s : State) : Host.Outcome State Fault Refusal :=
  request .passed st p (takePassed st) s

/-! ## ABANDONED (R131), LAPSE (R132) -/

def takeAbandoned (st : Station) (r : LaneRef) (s : State) : Answer :=
  atLane st .entry r (fun l =>
    if (reservationOf s l.id).isSome then
      accept .nothing (handIfEmpty (onLane l.id (fun o => { o with lapses := 0 }) (dropReservation l.id s)))
    else deny .noReservation s) s

/-- ABANDONED (R131). -/
def execAbandoned (st : Station) (p : Payload LaneRef) (s : State) : Host.Outcome State Fault Refusal :=
  request .abandoned st p (takeAbandoned st) s

/-- A lane at a lapse: the mark, the count, and FAULT at the third in a row (R132). -/
def lapseLane (o : LaneOp) : LaneOp :=
  let n := satAdd Config.lapseMax o.lapses 1
  { o with lapsed := true, lapses := n, state := if n = Config.lapseMax then .fault else o.state }

/-- A lapse (R132). -/
def lapse (id : LaneId) (s : State) : State :=
  let s1 := onLane id lapseLane (dropReservation id s)
  handIfEmpty (if ((laneOpAt s1 id).map (·.lapses)) = some Config.lapseMax then handLaneFault id .lapses s1 else s1)

/-- LAPSE (R132): the lapse timer of the lane's entry expires. -/
def execLapse (id : LaneId) (s : State) : Host.Outcome State Fault Refusal :=
  timedEvent (.lapse id) (fun s =>
    match reservationOf s id with
    | some r => lapse id (advanceTo r.timer.due s)
    | none => s) s

/-! ## EXITED (R134) -/

/-- The car whose count an exit lowers: the car bound to an alight platform whose window is open (R134). -/
def exitCar (s : State) (pf : Platform) : Option Car :=
  if alightingOpen s (berthOf pf) then boundCar s pf else none

def takeExited (st : Station) (r : LaneRef) (s : State) : Answer :=
  atLane st .exit r (fun l =>
    match exitCar s l.platform with
    | some c =>
      let s1 := onLoad c (fun x => { x with aboard := x.aboard - 1 }) s
      accept (.exit (some (c, (s1.adm.loads.get c).aboard))) s1
    | none => accept (.exit none) s) s

/-- EXITED (R134). -/
def execExited (st : Station) (p : Payload LaneRef) (s : State) : Host.Outcome State Fault Refusal :=
  request .exited st p (takeExited st) s

/-! ## Console requests (R137 to R140) -/

def takeEnableLane (r : LaneRef) (s : State) : Answer :=
  match namedLane s r with
  | some l => accept .nothing (onLane l.id (fun o => { o with state := .enabled, lapsed := false, lapses := 0 }) s)
  | none => deny .badValue s

/-- ENABLE_LANE (R137). -/
def execEnableLane (st : Station) (p : Payload LaneRef) (s : State) : Host.Outcome State Fault Refusal :=
  request .enableLane st p takeEnableLane s

/-- DISABLE LANE on a configured lane (R137). -/
def disable (id : LaneId) (s : State) : State :=
  let s1 := onLane id (fun o => { o with state := .disabled }) s
  if (reservationOf s id).isSome then
    handIfEmpty (onLane id (fun o => { o with lapsed := true }) (dropReservation id s1))
  else s1

def takeDisableLane (r : LaneRef) (s : State) : Answer :=
  match namedLane s r with
  | some l => accept .nothing (disable l.id s)
  | none => deny .badValue s

/-- DISABLE_LANE (R137). -/
def execDisableLane (st : Station) (p : Payload LaneRef) (s : State) : Host.Outcome State Fault Refusal :=
  request .disableLane st p takeDisableLane s

def takeAdjustLoad (f : Coded Car × Int) (s : State) : Answer :=
  match f.1 with
  | .unlisted _ => deny .badValue s
  | .listed c =>
    if inFlight s.trc.state then deny .wrongState s
    else
      let x := clampNat 0 (s.params.capacity - reservedFor s c) f.2
      ⟨onLoad c (fun l => { l with aboard := x }) s, if (x : Int) = f.2 then .ok else .clamped, .aboard x⟩

/-- ADJUST_LOAD (R138). -/
def execAdjustLoad (st : Station) (p : Payload (Coded Car × Int)) (s : State) : Host.Outcome State Fault Refusal :=
  request .adjustLoad st p takeAdjustLoad s

/-- The target's uncounted count becomes 0 (R139). -/
def zeroUncounted (t : UncountedTarget) (s : State) : State :=
  match t with
  | .car c => onLoad c (fun l => { l with uncounted := 0 }) s
  | .board b => s.onAdm fun a => { a with uncounted := a.uncounted.set b 0 }

def takeClearUncounted (t : Coded UncountedTarget) (s : State) : Answer :=
  match t with
  | .unlisted _ => deny .badValue s
  | .listed target => if flagProtection s then deny .flagProtected s else accept .nothing (zeroUncounted target s)

/-- CLEAR_UNCOUNTED (R139). -/
def execClearUncounted (st : Station) (p : Payload (Coded UncountedTarget)) (s : State) : Host.Outcome State Fault Refusal :=
  request .clearUncounted st p takeClearUncounted s

def takeClearAlarm (c : Coded Car) (s : State) : Answer :=
  match c with
  | .unlisted _ => deny .badValue s
  | .listed car => if flagProtection s then deny .flagProtected s else accept .nothing (setLatch car false s)

/-- CLEAR_ALARM (R140). -/
def execClearAlarm (st : Station) (p : Payload (Coded Car)) (s : State) : Host.Outcome State Fault Refusal :=
  request .clearAlarm st p takeClearAlarm s

end Sys2Proof.Machine
end

