-- ==== Sys2Proof/Machine/Line.lean ====
section
/-! DEFINITION. The commands of the line state unit (Chapter 8): OPEN, CLOSE, INSPECTION ENTER and LEAVE, and the
flag-protection setting. -/

namespace Sys2Proof.Machine

/-! ## OPEN (R144, R145) -/

/-- Check 8 of R144: a refresh within T_DRV. -/
def driveSpoke (s : State) : Option SubReason :=
  match s.brs.lastRefresh with
  | none => some (.driveSilent none)
  | some t => if s.now - t ≤ s.params.tDrv then none else some (.driveSilent (some (s.now - t)))

/-- Checks 2 to 8 of R144, in order: what stands in the way. -/
def openCheck (s : State) : Option SubReason :=
  if s.cfg.committed = false then some .uncommitted
  else if s.psu.ref ≠ .referenced then some .unreferenced
  else if stopHere s = none then some (.offStop (pos s))
  else if s.psu.still = false then some .notStill
  else if s.brs.stage ≠ .none then some (.stage (firstCause s))
  else if isFresh s .a = false then some (.carStale .a)
  else if isFresh s .b = false then some (.carStale .b)
  else driveSpoke s

/-- The line opened at stop `k` (R145). -/
def openAt (k : Stop) (s : State) : State := newDwell k (changeLine .inService false s)

def takeOpen (_ : Unit) (s : State) : Answer :=
  if s.lsu.line ≠ .closed then deny .wrongState s
  else
    match openCheck s, stopHere s with
    | none, some k =>
      let s1 := openAt k s
      accept (.opened k s1.lsu.line) s1
    | some why, _ => present why s
    | none, none => present (.offStop (pos s)) s

/-- OPEN (R144). -/
def execOpen (st : Station) (p : Payload Unit) (s : State) : Host.Outcome State Fault Refusal :=
  request .openLine st p takeOpen s

/-! ## CLOSE (R146) -/

/-- The line closed with trip state NONE (R146, R148). -/
def closeLine (s : State) : State := setTripState .none (changeLine .closed true s)

def takeClose (_ : Unit) (s : State) : Answer :=
  if s.lsu.line ≠ .inService then deny .wrongState s
  else if inFlight s.trc.state then deny .busy s
  else if s.adm.reservations.isEmpty then accept .nothing (closeLine s)
  else refuse .busy (.entries s.adm.reservations.length) s

/-- CLOSE (R146). -/
def execClose (st : Station) (p : Payload Unit) (s : State) : Host.Outcome State Fault Refusal :=
  request .closeLine st p takeClose s

/-! ## Inspection (R147, R148) -/

/-- The line in INSPECTION: DWELL where it stands at a stop that is trusted, else STOPPED_ON_LINE (R147). -/
def enterInspection (s : State) : State :=
  let s1 := changeLine .inspection true s
  match trustedStop s1 with
  | some k => newDwell k s1
  | none => setTripState .stoppedOnLine s1

def takeInspectionEnter (_ : Unit) (s : State) : Answer :=
  if s.lsu.line = .inspection then deny .wrongState s
  else if s.cfg.committed = false then present .uncommitted s
  else if s.lsu.line = .inService ∧ inFlight s.trc.state then deny .busy s
  else if s.lsu.line = .inService ∧ s.adm.reservations.isEmpty = false then
    refuse .busy (.entries s.adm.reservations.length) s
  else
    let s1 := enterInspection s
    accept (.tripState s1.trc.state) s1

/-- INSPECTION_ENTER (R147). -/
def execInspectionEnter (st : Station) (p : Payload Unit) (s : State) : Host.Outcome State Fault Refusal :=
  request .inspectionEnter st p takeInspectionEnter s

def takeInspectionLeave (_ : Unit) (s : State) : Answer :=
  if s.lsu.line ≠ .inspection then deny .wrongState s
  else if inFlight s.trc.state then deny .busy s
  else accept .nothing (closeLine s)

/-- INSPECTION_LEAVE (R148). -/
def execInspectionLeave (st : Station) (p : Payload Unit) (s : State) : Host.Outcome State Fault Refusal :=
  request .inspectionLeave st p takeInspectionLeave s

/-! ## SET CLEAR IN INSPECTION (R149) -/

def takeSetClear (v : Coded Bool) (s : State) : Answer :=
  if s.lsu.line ≠ .closed then deny .wrongState s
  else
    match v with
    | .listed on => accept (.setting on) (s.onLsu fun l => { l with clearInInspection := on })
    | .unlisted _ => deny .badValue s

/-- SET_CLEAR_IN_INSPECTION (R149). -/
def execSetClearInInspection (st : Station) (p : Payload (Coded Bool)) (s : State) : Host.Outcome State Fault Refusal :=
  request .setClearInInspection st p takeSetClear s

end Sys2Proof.Machine
end

