-- ==== Sys2Proof/Machine/Notices.lean ====
section
/-! DEFINITION. The commands of the notice and incident unit (Chapter 10) and of the snapshots (section 9.9). -/

namespace Sys2Proof.Machine

/-! ## Notices (R169, R170) -/

/-- The notice a master would read: its latched kind as held in its pending set (R169). -/
def latchedNotice (r : NoticeRecord) : Option Pending := r.latched.bind fun k => r.pending.find? fun n => n.kind = k

/-- A record after its latched notice is read, before latching is evaluated again (R169). -/
def readNotice (r : NoticeRecord) : NoticeRecord :=
  match r.latched with
  | some k => { r with pending := r.pending.filter fun n => n.kind ≠ k, latched := none }
  | none => r

/-- One master's notice record changed. -/
def onNotices (st : Station) (f : NoticeRecord → NoticeRecord) (s : State) : State :=
  s.onNiu fun n => { n with notices := n.notices.set st (f (n.notices.get st)) }

def takeNextNotice (st : Station) (_ : Unit) (s : State) : Answer :=
  let r := s.niu.notices.get st
  accept (.notice (latchedNotice r) (readNotice r).pending.length) (onNotices st readNotice s)

/-- NEXT_NOTICE (R169). -/
def execNextNotice (st : Station) (p : Payload Unit) (s : State) : Host.Outcome State Fault Refusal :=
  request .nextNotice st p (takeNextNotice st) s

/-- The values of a list of enumerated fields, where every one is listed. -/
def allListed {α : Type} : List (Coded α) → Option (List α)
  | [] => some []
  | .listed a :: rest => (allListed rest).map (a :: ·)
  | .unlisted _ :: _ => none

def takeNoticeEnable (st : Station) (ks : List (Coded NoticeKind)) (s : State) : Answer :=
  match allListed ks with
  | some l => accept .nothing (onNotices st (fun r => { r with enabled := allNoticeKinds.filter fun k => l.contains k }) s)
  | none => deny .badValue s

/-- NOTICE_ENABLE (R170). -/
def execNoticeEnable (st : Station) (p : Payload (List (Coded NoticeKind))) (s : State) : Host.Outcome State Fault Refusal :=
  request .noticeEnable st p (takeNoticeEnable st) s

/-! ## Incidents (R173) -/

/-- The record with a sequence number: the oldest that holds it. -/
def incidentAt (s : State) (seq : Int) : Option Incident := s.niu.incidents.find? fun i => (i.seq : Int) = seq

/-- The oldest record of a sequence number changed. -/
def onFirst (seq : Int) (f : Incident → Incident) : List Incident → List Incident
  | [] => []
  | i :: rest => if (i.seq : Int) = seq then f i :: rest else i :: onFirst seq f rest

def onIncident (seq : Int) (f : Incident → Incident) (s : State) : State :=
  s.onNiu fun n => { n with incidents := onFirst seq f n.incidents }

def takeIncidentRead (seq : Int) (s : State) : Answer :=
  match incidentAt s seq with
  | some i => accept (.incident { i with read := true }) (onIncident seq (fun j => { j with read := true }) s)
  | none => deny .badValue s

/-- INCIDENT_READ (R173). -/
def execIncidentRead (st : Station) (p : Payload Int) (s : State) : Host.Outcome State Fault Refusal :=
  request .incidentRead st p takeIncidentRead s

def takeIncidentAck (seq : Int) (s : State) : Answer :=
  match incidentAt s seq with
  | none => deny .badValue s
  | some i =>
    if i.read = false then deny .wrongState s
    else if flagProtection s then deny .flagProtected s
    else accept .nothing (onIncident seq (fun j => { j with acked := true }) s)

/-- INCIDENT_ACK (R173). -/
def execIncidentAck (st : Station) (p : Payload Int) (s : State) : Host.Outcome State Fault Refusal :=
  request .incidentAck st p takeIncidentAck s

/-! ## Reset causes (R174) -/

def takeResetCauseRead (_ : Unit) (s : State) : Answer :=
  let data : ReplyData := .resetCauses s.niu.resetCauses
  if flagProtection s then refuse .flagProtected data s
  else accept data (s.onNiu fun n => { n with resetCauses := ⟨false, false, false⟩ })

/-- RESET_CAUSE_READ (R174). -/
def execResetCauseRead (st : Station) (p : Payload Unit) (s : State) : Host.Outcome State Fault Refusal :=
  request .resetCauseRead st p takeResetCauseRead s

/-! ## Snapshots (R160 to R162) -/

def takeSnapshotSelect (st : Station) (ks : List (Coded SnapKind)) (s : State) : Answer :=
  match allListed ks with
  | some l =>
    let chosen := allSnapKinds.filter fun k => l.contains k
    accept .nothing <| s.onLbp fun b =>
      { b with selection := b.selection.set st chosen, continuation := b.continuation.set st chosen.head? }
  | none => deny .badValue s

/-- SNAPSHOT_SELECT (R160). -/
def execSnapshotSelect (st : Station) (p : Payload (List (Coded SnapKind))) (s : State) : Host.Outcome State Fault Refusal :=
  request .snapshotSelect st p (takeSnapshotSelect st) s

/-- The selected kinds from a continuation point on. -/
def kindsFrom (start : Option SnapKind) (selection : List SnapKind) : List SnapKind :=
  match start with
  | none => []
  | some k => selection.dropWhile fun j => j ≠ k

/-- The kinds that fit in `room` bytes, and those left from the first that does not (R161). -/
def fitting (s : State) (room : Nat) : List SnapKind → List SnapKind × List SnapKind
  | [] => ([], [])
  | k :: rest =>
    if recordSize s k ≤ room then
      let r := fitting s (room - recordSize s k) rest
      (k :: r.1, r.2)
    else ([], k :: rest)

/-- A record as a master receives it (R159, R162). -/
def snapRecord (s : State) (st : Station) (k : SnapKind) : SnapRecord :=
  { kind := k, fresh := (s.lbp.fresh.get st).contains k, size := recordSize s k, core := shownCore s k, times := recordTimes s k }

def takeSnapshot (st : Station) (_ : Unit) (s : State) : Answer :=
  let selection := s.lbp.selection.get st
  let split := fitting s Config.snapshotRoom (kindsFrom (s.lbp.continuation.get st) selection)
  let next := match split.2.head? with
    | some k => some k
    | none => selection.head?
  accept (.snapshot (split.1.map (snapRecord s st)) next) <| s.onLbp fun b =>
    { b with
      continuation := b.continuation.set st next
      fresh := b.fresh.set st ((b.fresh.get st).filter fun k => split.1.contains k = false) }

/-- SNAPSHOT (R161). -/
def execSnapshot (st : Station) (p : Payload Unit) (s : State) : Host.Outcome State Fault Refusal :=
  request .snapshot st p (takeSnapshot st) s

end Sys2Proof.Machine
end

