-- ==== Sys2Proof/Machine/Resets.lean ====
section
/-! DEFINITION. The resets and the supply (R18, R42, R43, R60, R81, R106, R121, R141, R151, R163, R164, R174 to
R176). -/

namespace Sys2Proof.Machine

/-- The pins as a reset finds them: the dispatcher's line is taken at the level that stands at the input (R106, log 16). -/
def pinsAtReset (now : Nat) (p : Pins) : Pins :=
  { p with dispatchIn := standing now p.dispatchIn.level p.dispatchIn, dispatchLine := ⟨p.dispatchIn.level, now⟩ }

/-- Every block but the CFG, the CLC, the ADM and the NIU in its reset state; they have the same after each reset,
but for the stored TS and BRK_FB_TMO they use. -/
def resetBlocks (s : State) : State :=
  { s with
    cru := cruReset s.now
    psu := psuReset s.now s.params.ts
    brs := brsReset s.now s.params.brkFbTmo s.pins.sbIn.level s.pins.ebIn.level
    trc := trcReset s.pins.dispatchIn.level
    dri := driReset
    lsu := lsuReset
    lbp := lbpReset
    pins := pinsAtReset s.now s.pins }

/-- The blocks after a reset that clears the configuration store (R18, R60, R141). -/
def resetCleared (s : State) : State :=
  resetBlocks { s with cfg := cfgPowerOn, clc := clcPowerOn, adm := admReset [] }

/-- POWER_ON_RESET (R18, R176): every block, whatever the pins; time and the queue are the model's own. -/
def execPowerOnReset (s : State) : Host.Outcome State Fault Refusal :=
  .next (markOvertaken s ((resetCleared { s with niu := niuPowerOn }).onPins fun p => { p with supplyLow := false }))

/-- The notices go with every reset; the incident list, the overflow count and the sequence counter stay (R176). -/
def keepIncidents (causes : ResetCauses) (n : Niu) : Niu := { n with notices := noticesReset, resetCauses := causes }

/-- A pin reset as it takes effect when the pin is released (R164, R174). -/
def pinReset (s : State) : State :=
  markOvertaken s <|
    (resetCleared { s with niu := keepIncidents { s.niu.resetCauses with pin := true } s.niu }).onPins fun p =>
      { p with resetLow := false }

/-- PIN_RESET (R164): RESET_N low and released again; or low and still held, with the outputs de-energised and any
reply cut off until RESET_PIN_RELEASED (log 14). -/
def execPinReset (released : Bool) (s : State) : Host.Outcome State Fault Refusal :=
  if released then .next (pinReset s) else .next (noReply (s.onPins fun p => { p with resetLow := true }))

/-- RESET_PIN_RELEASED (R164): the pin reset takes effect. -/
def execResetPinReleased (s : State) : Host.Outcome State Fault Refusal := .next (pinReset s)

/-- SUPPLY_LOW (R164): the outputs are de-energised and the attention lines released (`outputsDown`). -/
def execSupplyLow (s : State) : Host.Outcome State Fault Refusal := .next (s.onPins fun p => { p with supplyLow := true })

/-- SUPPLY_RESTORED (R164). -/
def execSupplyRestored (s : State) : Host.Outcome State Fault Refusal := .next (s.onPins fun p => { p with supplyLow := false })

/-- RESET PART as it takes effect: the configuration store is kept (R175). -/
def resetPart (s : State) : State :=
  resetBlocks
    { s with
      clc := clcResetPart s.cfg s.clc
      adm := admReset s.cfg.lanes
      niu := keepIncidents { s.niu.resetCauses with console := true } s.niu }

def takeResetPart (_ : Unit) (s : State) : Answer :=
  if s.lsu.line ≠ .closed then deny .wrongState s
  else if s.psu.still = false then deny .moving s
  else accept .nothing (resetPart s)

/-- RESET_PART (R175). -/
def execResetPart (st : Station) (p : Payload Unit) (s : State) : Host.Outcome State Fault Refusal :=
  request .resetPart st p takeResetPart s

end Sys2Proof.Machine
end

