-- ==== Sys2Proof/Machine/Timers.lean ====
section
/-! DEFINITION. Time: the events that fall due as the clock advances by one millisecond. The step takes a tick on an
empty queue (log 3); each event that is due joins the queue as its command. -/

namespace Sys2Proof.Machine

/-- The events of the inputs that have held a new level long enough (R87, R164). -/
def dueInputs (s : State) : List Instr :=
  ([Brake.service, Brake.emergency].filterMap fun b =>
    let i := s.pins.input b
    if i.level ≠ s.brs.fb b ∧ i.since + Config.inputHoldMs ≤ s.now then some (.brakeFeedbackChange b i.level) else none) ++
  (let line := steadyLine s.trc.debounced s.pins
   if line.level ≠ s.trc.debounced ∧ line.since + Config.debounceMs ≤ s.now then
     [if line.level then .dispatch else .debouncedLevelFall]
   else [])

/-- Every event that is due, in a fixed order. -/
def dueEvents (s : State) : List Instr := dueInputs s ++ dueTimed s

/-- One millisecond passes (log 3): the events then due join the queue; none while RESET_N is low. -/
def tick (s : State) : State :=
  let s1 := { s with now := s.now + 1 }
  if s1.pins.resetLow then s1 else { s1 with pending := s1.pending ++ dueEvents s1 }

end Sys2Proof.Machine
end

