-- ==== Sys2Proof/Machine/Dispatch.lean ====
section
/-! DEFINITION. The dispatch: one arm for each command. -/

namespace Sys2Proof.Machine

def exec (i : Instr) (s : State) : Host.Outcome State Fault Refusal :=
  match i with
  | .carPoll st bytes => Sys2Proof.Machine.execCarPoll st bytes s
  | .stop st p => Sys2Proof.Machine.execStop st p s
  | .estop st p => Sys2Proof.Machine.execEstop st p s
  | .runRefresh st p => Sys2Proof.Machine.execRunRefresh st p s
  | .clearBrake st p => Sys2Proof.Machine.execClearBrake st p s
  | .tripRequest st p => Sys2Proof.Machine.execTripRequest st p s
  | .cancelTrip st p => Sys2Proof.Machine.execCancelTrip st p s
  | .setMode st p => Sys2Proof.Machine.execSetMode st p s
  | .setLimit st p => Sys2Proof.Machine.execSetLimit st p s
  | .evacuate st p => Sys2Proof.Machine.execEvacuate st p s
  | .evacuateEnd st p => Sys2Proof.Machine.execEvacuateEnd st p s
  | .maintRelease st p => Sys2Proof.Machine.execMaintRelease st p s
  | .maintEnd st p => Sys2Proof.Machine.execMaintEnd st p s
  | .admitPerson st p => Sys2Proof.Machine.execAdmit st p s
  | .passed st p => Sys2Proof.Machine.execPassed st p s
  | .abandoned st p => Sys2Proof.Machine.execAbandoned st p s
  | .exited st p => Sys2Proof.Machine.execExited st p s
  | .openLine st p => Sys2Proof.Machine.execOpen st p s
  | .closeLine st p => Sys2Proof.Machine.execClose st p s
  | .inspectionEnter st p => Sys2Proof.Machine.execInspectionEnter st p s
  | .inspectionLeave st p => Sys2Proof.Machine.execInspectionLeave st p s
  | .setReference st p => Sys2Proof.Machine.execSetReference st p s
  | .setClearInInspection st p => Sys2Proof.Machine.execSetClearInInspection st p s
  | .resetPart st p => Sys2Proof.Machine.execResetPart st p s
  | .setParameter st p => Sys2Proof.Machine.execSetParameter st p s
  | .platformSide st p => Sys2Proof.Machine.execPlatformSide st p s
  | .profilePut st p => Sys2Proof.Machine.execProfilePut st p s
  | .profileRemove st p => Sys2Proof.Machine.execProfileRemove st p s
  | .profileClear st p => Sys2Proof.Machine.execProfileClear st p s
  | .markerPut st p => Sys2Proof.Machine.execMarkerPut st p s
  | .markerRemove st p => Sys2Proof.Machine.execMarkerRemove st p s
  | .markerClear st p => Sys2Proof.Machine.execMarkerClear st p s
  | .lanePut st p => Sys2Proof.Machine.execLanePut st p s
  | .laneRemove st p => Sys2Proof.Machine.execLaneRemove st p s
  | .commit st p => Sys2Proof.Machine.execCommit st p s
  | .enableLane st p => Sys2Proof.Machine.execEnableLane st p s
  | .disableLane st p => Sys2Proof.Machine.execDisableLane st p s
  | .adjustLoad st p => Sys2Proof.Machine.execAdjustLoad st p s
  | .clearUncounted st p => Sys2Proof.Machine.execClearUncounted st p s
  | .clearAlarm st p => Sys2Proof.Machine.execClearAlarm st p s
  | .readParameter st p => Sys2Proof.Machine.execReadParameter st p s
  | .readEntry st p => Sys2Proof.Machine.execReadEntry st p s
  | .snapshotSelect st p => Sys2Proof.Machine.execSnapshotSelect st p s
  | .snapshot st p => Sys2Proof.Machine.execSnapshot st p s
  | .nextNotice st p => Sys2Proof.Machine.execNextNotice st p s
  | .noticeEnable st p => Sys2Proof.Machine.execNoticeEnable st p s
  | .incidentRead st p => Sys2Proof.Machine.execIncidentRead st p s
  | .incidentAck st p => Sys2Proof.Machine.execIncidentAck st p s
  | .resetCauseRead st p => Sys2Proof.Machine.execResetCauseRead st p s
  | .unknownRequestFrame head => Sys2Proof.Machine.execUnknownRequestFrame head s
  | .frameDiscarded why => Sys2Proof.Machine.execFrameDiscarded why s
  | .replyCollision => Sys2Proof.Machine.execReplyCollision s
  | .speedSample => Sys2Proof.Machine.execSpeedSample s
  | .encoderEdge dir => Sys2Proof.Machine.execEncoderEdge dir s
  | .carReportStale car => Sys2Proof.Machine.execCarReportStale car s
  | .driveRefreshTimerExpiry => Sys2Proof.Machine.execDriveRefreshTimerExpiry s
  | .releaseWaitExpiry => Sys2Proof.Machine.execReleaseWaitExpiry s
  | .applyTimerExpiry brake => Sys2Proof.Machine.execApplyTimerExpiry brake s
  | .brakeFeedbackChange brake level => Sys2Proof.Machine.execBrakeFeedbackChange brake level s
  | .dispatchInputChange high => Sys2Proof.Machine.execDispatchInputChange high s
  | .dispatch => Sys2Proof.Machine.execDispatch s
  | .minDwellExpiry => Sys2Proof.Machine.execMinDwellExpiry s
  | .settleTimerExpiry => Sys2Proof.Machine.execSettleTimerExpiry s
  | .leadTimerExpiry => Sys2Proof.Machine.execLeadTimerExpiry s
  | .doorCloseTimerExpiry => Sys2Proof.Machine.execDoorCloseTimerExpiry s
  | .lapse lane => Sys2Proof.Machine.execLapse lane s
  | .powerOnReset => Sys2Proof.Machine.execPowerOnReset s
  | .pinReset released => Sys2Proof.Machine.execPinReset released s
  | .supplyLow => Sys2Proof.Machine.execSupplyLow s
  | .resetPinReleased => Sys2Proof.Machine.execResetPinReleased s
  | .supplyRestored => Sys2Proof.Machine.execSupplyRestored s
  | .debouncedLevelFall => Sys2Proof.Machine.execDebouncedLevelFall s
  | .feedbackInputChange brake level => Sys2Proof.Machine.execFeedbackInputChange brake level s

end Sys2Proof.Machine
end

