-- ==== Sys2Proof/Machine/Frames.lean ====
section
/-! DEFINITION. The frames of the line bus as bits and bytes (R152 to R157): the check, the bit stuffing, reception,
arbitration, the command that a request frame is and the frame that a request command is, and the bytes of a reply.
The step works on commands; these functions say what stands on the wire for them (log 27, log 28, log 32). -/

namespace Sys2Proof.Machine

/-! ## Bits (R152): a dominant bit is a 0, here `false`; the most significant bit goes first -/

/-- The bits of a word, most significant first. -/
def bitsOf {n : Nat} (w : BitVec n) : List Bool := (List.range n).map fun i => w.getMsbD i

/-- The number that bits spell, most significant first. -/
def natOf (bits : List Bool) : Nat := bits.foldl (fun n b => 2 * n + b.toNat) 0

/-- One bit into the check with generator x^16 + x^12 + x^5 + 1 (R152). -/
def checkStep (c : BitVec 16) (bit : Bool) : BitVec 16 :=
  if c.msb != bit then (c <<< 1) ^^^ 0x1021#16 else c <<< 1

/-- The check over bits in the order sent, started at all ones (R152). -/
def checkOf (bits : List Bool) : BitVec 16 := bits.foldl checkStep 0xFFFF#16

/-- The bits of bytes in the order sent. -/
def byteBits : List Byte → List Bool
  | [] => []
  | b :: rest => bitsOf b ++ byteBits rest

/-- The bytes that bits spell, eight by eight. -/
def bytesFrom : Nat → List Bool → List Byte
  | 0, _ => []
  | n + 1, bits => BitVec.ofNat 8 (natOf (bits.take 8)) :: bytesFrom n (bits.drop 8)

/-! ## Stuffing (R152) -/

/-- The length of the run that ends with `b`, after a run of `run` bits of level `last`. -/
def runLength (last : Option Bool) (run : Nat) (b : Bool) : Nat := if last = some b then run + 1 else 1

/-- Stuffing from the middle of a frame: after each run of five equal bits, one bit of the opposite level, which
counts as the first of the next run. -/
def stuffFrom (last : Option Bool) (run : Nat) : List Bool → List Bool
  | [] => []
  | b :: rest =>
    if runLength last run b = 5 then b :: (!b) :: stuffFrom (some (!b)) 1 rest
    else b :: stuffFrom (some b) (runLength last run b) rest

def stuff (bits : List Bool) : List Bool := stuffFrom none 0 bits

/-- Unstuffing: the bits up to the end or to a sixth equal bit in a row, and whether none was found. -/
def unstuffFrom (last : Option Bool) (run : Nat) : List Bool → List Bool × Bool
  | [] => ([], true)
  | b :: rest =>
    if runLength last run b = 5 then
      match rest with
      | [] => ([b], true)
      | x :: rest' =>
        if x = b then ([b], false)
        else
          let r := unstuffFrom (some x) 1 rest'
          (b :: r.1, r.2)
    else
      let r := unstuffFrom (some b) (runLength last run b) rest
      (b :: r.1, r.2)

def unstuff (bits : List Bool) : List Bool × Bool := unstuffFrom none 0 bits

/-! ## Request frames (R152, R154) -/

/-- A request frame taken whole. -/
structure RequestFrame where
  head    : Head
  payload : List Byte
deriving DecidableEq, Repr

/-- The 12 bits of a head: class, station, code. -/
def headBits (h : Head) : List Bool := bitsOf h.cls ++ bitsOf h.station ++ bitsOf h.code

/-- Head, length and payload, before the check and before stuffing. -/
def bodyBits (f : RequestFrame) : List Bool :=
  headBits f.head ++ bitsOf (BitVec.ofNat 8 f.payload.length) ++ byteBits f.payload

/-- A whole request frame before stuffing. -/
def requestBits (f : RequestFrame) : List Bool := bodyBits f ++ bitsOf (checkOf (bodyBits f))

/-- A request frame on the wire. -/
def requestWire (f : RequestFrame) : List Bool := stuff (requestBits f)

/-- The head that 12 bits spell. -/
def headFrom (bits : List Bool) : Head :=
  { cls := BitVec.ofNat 2 (natOf (bits.take 2)), station := BitVec.ofNat 3 (natOf ((bits.drop 2).take 3))
    code := BitVec.ofNat 7 (natOf ((bits.drop 5).take 7)) }

/-- Why a frame is not complete: six equal bits in a row count as a wrong check, an idle bus as a premature end
(R152, R154). -/
def incomplete (clean : Bool) : DiscardCause := if clean then .prematureIdle else .wrongCheck

/-- Reception of the bits between two idle periods (R154): the length is judged as soon as it has come; bits after
the check are not the frame's. -/
def receive (wire : List Bool) : Except DiscardCause RequestFrame :=
  let r := unstuff wire
  if r.1.length < 20 then .error (incomplete r.2)
  else
    let len := natOf ((r.1.drop 12).take 8)
    if Config.payloadMax < len then .error .overLong
    else if r.1.length < 20 + 8 * len + 16 then .error (incomplete r.2)
    else
      let body := r.1.take (20 + 8 * len)
      if bitsOf (checkOf body) = (r.1.drop (20 + 8 * len)).take 16 then
        .ok { head := headFrom body, payload := bytesFrom len (body.drop 20) }
      else .error .wrongCheck

/-! ## Arbitration (R153) -/

/-- The value of a head: class x 1,024 + station x 128 + code. -/
def headValue (h : Head) : Nat := h.cls.toNat * 1024 + h.station.toNat * 128 + h.code.toNat

/-- Bit `i` of a head as sent. -/
def headBit (i : Nat) (h : Head) : Bool := (headBits h).getD i true

/-- The masters that go on after bit `i`: where any sends dominant, those that sent recessive have lost. -/
def afterBit (hs : List Head) (i : Nat) : List Head := if hs.all (headBit i) then hs else hs.filter fun h => headBit i h = false

/-- The heads that read back as sent to their last bit. -/
def arbitrate (hs : List Head) : List Head := (List.range 12).foldl afterBit hs

/-! ## Commands and frames -/

/-- The request command of a catalogue line, from its payload bytes. -/
def requestCommand (r : Request) (st : Station) (bs : List Byte) : Instr :=
  match r with
  | .carPoll => .carPoll st bs
  | .stop => .stop st (readPayload takeUnit bs)
  | .estop => .estop st (readPayload takeUnit bs)
  | .runRefresh => .runRefresh st (readPayload takeUnit bs)
  | .clearBrake => .clearBrake st (readPayload takeUnit bs)
  | .tripRequest => .tripRequest st (readPayload takeTripRequest bs)
  | .cancelTrip => .cancelTrip st (readPayload takeOptByte bs)
  | .setMode => .setMode st (readPayload (takeCoded allModes) bs)
  | .setLimit => .setLimit st (readPayload takeNum bs)
  | .evacuate => .evacuate st (readPayload (takeCoded allCars) bs)
  | .evacuateEnd => .evacuateEnd st (readPayload (takeCoded allCars) bs)
  | .maintRelease => .maintRelease st (readPayload (takePair (takeCoded allCars) (takeCoded allSides)) bs)
  | .maintEnd => .maintEnd st (readPayload takeMaintTarget bs)
  | .admitPerson => .admitPerson st (readPayload takeLaneRef bs)
  | .passed => .passed st (readPayload takeLaneRef bs)
  | .abandoned => .abandoned st (readPayload takeLaneRef bs)
  | .exited => .exited st (readPayload takeLaneRef bs)
  | .openLine => .openLine st (readPayload takeUnit bs)
  | .closeLine => .closeLine st (readPayload takeUnit bs)
  | .inspectionEnter => .inspectionEnter st (readPayload takeUnit bs)
  | .inspectionLeave => .inspectionLeave st (readPayload takeUnit bs)
  | .setReference => .setReference st (readPayload (takeCoded allStops) bs)
  | .setClearInInspection => .setClearInInspection st (readPayload (takeCoded allFlags) bs)
  | .resetPart => .resetPart st (readPayload takeUnit bs)
  | .setParameter => .setParameter st (readPayload takeSetParameter bs)
  | .platformSide => .platformSide st (readPayload (takePair (takeCoded allPlatforms) (takeCoded allSides)) bs)
  | .profilePut => .profilePut st (readPayload (takePair takeNum takeNum) bs)
  | .profileRemove => .profileRemove st (readPayload takeByte bs)
  | .profileClear => .profileClear st (readPayload takeUnit bs)
  | .markerPut => .markerPut st (readPayload takeNum bs)
  | .markerRemove => .markerRemove st (readPayload takeByte bs)
  | .markerClear => .markerClear st (readPayload takeUnit bs)
  | .lanePut => .lanePut st (readPayload takeLanePut bs)
  | .laneRemove => .laneRemove st (readPayload takeLaneRef bs)
  | .commit => .commit st (readPayload takeUnit bs)
  | .enableLane => .enableLane st (readPayload takeLaneRef bs)
  | .disableLane => .disableLane st (readPayload takeLaneRef bs)
  | .adjustLoad => .adjustLoad st (readPayload (takePair (takeCoded allCars) takeNum) bs)
  | .clearUncounted => .clearUncounted st (readPayload (takeCoded allTargets) bs)
  | .clearAlarm => .clearAlarm st (readPayload (takeCoded allCars) bs)
  | .readParameter => .readParameter st (readPayload (takeCoded allReadNames) bs)
  | .readEntry => .readEntry st (readPayload takeEntryRef bs)
  | .snapshotSelect => .snapshotSelect st (readPayload (takeCodedList allSnapKinds) bs)
  | .snapshot => .snapshot st (readPayload takeUnit bs)
  | .nextNotice => .nextNotice st (readPayload takeUnit bs)
  | .noticeEnable => .noticeEnable st (readPayload (takeCodedList allNoticeKinds) bs)
  | .incidentRead => .incidentRead st (readPayload takeNum bs)
  | .incidentAck => .incidentAck st (readPayload takeNum bs)
  | .resetCauseRead => .resetCauseRead st (readPayload takeUnit bs)

/-- The command a frame taken whole is (R155, checks 1 and 2). -/
def commandOf (f : RequestFrame) : Instr :=
  match requestOf f.head.cls f.head.code, stationOf f.head.station.toNat with
  | some r, some st => requestCommand r st f.payload
  | _, _ => .unknownRequestFrame f.head

/-- The command that the bits on the wire are, where the 2260 is not in reset (R154). -/
def commandOnWire (wire : List Bool) : Instr :=
  match receive wire with
  | .ok f => commandOf f
  | .error why => .frameDiscarded why

/-- The bytes of a pair of enumerated fields, of two numbers, of an enumerated field and a number. -/
def pairBytes {α β : Type} (p : α → List Byte) (q : β → List Byte) (x : α × β) : List Byte := p x.1 ++ q x.2

/-- The request, the sender and the payload bytes of a request command; none for an event. -/
def requestParts : Instr → Option (Request × Station × List Byte)
  | .carPoll st bs => some (.carPoll, st, bs)
  | .stop st p => some (.stop, st, payloadBytes unitBytes p)
  | .estop st p => some (.estop, st, payloadBytes unitBytes p)
  | .runRefresh st p => some (.runRefresh, st, payloadBytes unitBytes p)
  | .clearBrake st p => some (.clearBrake, st, payloadBytes unitBytes p)
  | .tripRequest st p => some (.tripRequest, st, payloadBytes tripRequestBytes p)
  | .cancelTrip st p => some (.cancelTrip, st, payloadBytes optByteBytes p)
  | .setMode st p => some (.setMode, st, payloadBytes (codedByte allModes) p)
  | .setLimit st p => some (.setLimit, st, payloadBytes numBytes p)
  | .evacuate st p => some (.evacuate, st, payloadBytes (codedByte allCars) p)
  | .evacuateEnd st p => some (.evacuateEnd, st, payloadBytes (codedByte allCars) p)
  | .maintRelease st p => some (.maintRelease, st, payloadBytes (pairBytes (codedByte allCars) (codedByte allSides)) p)
  | .maintEnd st p => some (.maintEnd, st, payloadBytes maintTargetBytes p)
  | .admitPerson st p => some (.admitPerson, st, payloadBytes laneRefBytes p)
  | .passed st p => some (.passed, st, payloadBytes laneRefBytes p)
  | .abandoned st p => some (.abandoned, st, payloadBytes laneRefBytes p)
  | .exited st p => some (.exited, st, payloadBytes laneRefBytes p)
  | .openLine st p => some (.openLine, st, payloadBytes unitBytes p)
  | .closeLine st p => some (.closeLine, st, payloadBytes unitBytes p)
  | .inspectionEnter st p => some (.inspectionEnter, st, payloadBytes unitBytes p)
  | .inspectionLeave st p => some (.inspectionLeave, st, payloadBytes unitBytes p)
  | .setReference st p => some (.setReference, st, payloadBytes (codedByte allStops) p)
  | .setClearInInspection st p => some (.setClearInInspection, st, payloadBytes (codedByte allFlags) p)
  | .resetPart st p => some (.resetPart, st, payloadBytes unitBytes p)
  | .setParameter st p => some (.setParameter, st, payloadBytes setParameterBytes p)
  | .platformSide st p => some (.platformSide, st, payloadBytes (pairBytes (codedByte allPlatforms) (codedByte allSides)) p)
  | .profilePut st p => some (.profilePut, st, payloadBytes (pairBytes numBytes numBytes) p)
  | .profileRemove st p => some (.profileRemove, st, payloadBytes (fun n => [byteOf n]) p)
  | .profileClear st p => some (.profileClear, st, payloadBytes unitBytes p)
  | .markerPut st p => some (.markerPut, st, payloadBytes numBytes p)
  | .markerRemove st p => some (.markerRemove, st, payloadBytes (fun n => [byteOf n]) p)
  | .markerClear st p => some (.markerClear, st, payloadBytes unitBytes p)
  | .lanePut st p => some (.lanePut, st, payloadBytes lanePutBytes p)
  | .laneRemove st p => some (.laneRemove, st, payloadBytes laneRefBytes p)
  | .commit st p => some (.commit, st, payloadBytes unitBytes p)
  | .enableLane st p => some (.enableLane, st, payloadBytes laneRefBytes p)
  | .disableLane st p => some (.disableLane, st, payloadBytes laneRefBytes p)
  | .adjustLoad st p => some (.adjustLoad, st, payloadBytes (pairBytes (codedByte allCars) numBytes) p)
  | .clearUncounted st p => some (.clearUncounted, st, payloadBytes (codedByte allTargets) p)
  | .clearAlarm st p => some (.clearAlarm, st, payloadBytes (codedByte allCars) p)
  | .readParameter st p => some (.readParameter, st, payloadBytes (codedByte allReadNames) p)
  | .readEntry st p => some (.readEntry, st, payloadBytes entryRefBytes p)
  | .snapshotSelect st p => some (.snapshotSelect, st, payloadBytes (codedListBytes allSnapKinds) p)
  | .snapshot st p => some (.snapshot, st, payloadBytes unitBytes p)
  | .nextNotice st p => some (.nextNotice, st, payloadBytes unitBytes p)
  | .noticeEnable st p => some (.noticeEnable, st, payloadBytes (codedListBytes allNoticeKinds) p)
  | .incidentRead st p => some (.incidentRead, st, payloadBytes numBytes p)
  | .incidentAck st p => some (.incidentAck, st, payloadBytes numBytes p)
  | .resetCauseRead st p => some (.resetCauseRead, st, payloadBytes unitBytes p)
  | .unknownRequestFrame _ => none
  | .frameDiscarded _ => none
  | .replyCollision => none
  | .speedSample => none
  | .encoderEdge _ => none
  | .carReportStale _ => none
  | .driveRefreshTimerExpiry => none
  | .releaseWaitExpiry => none
  | .applyTimerExpiry _ => none
  | .brakeFeedbackChange _ _ => none
  | .dispatchInputChange _ => none
  | .dispatch => none
  | .minDwellExpiry => none
  | .settleTimerExpiry => none
  | .leadTimerExpiry => none
  | .doorCloseTimerExpiry => none
  | .lapse _ => none
  | .powerOnReset => none
  | .pinReset _ => none
  | .supplyLow => none
  | .resetPinReleased => none
  | .supplyRestored => none
  | .debouncedLevelFall => none
  | .feedbackInputChange _ _ => none

/-- The head of a request from a station (R152, section 9.7). -/
def requestHead (r : Request) (st : Station) : Head :=
  ⟨(catalogue r).cls, BitVec.ofNat 3 (stationNumber st), (catalogue r).code⟩

/-- The frame of a request command (R152); none for an event. -/
def frameOf (i : Instr) : Option RequestFrame := (requestParts i).map fun r => ⟨requestHead r.1 r.2.1, r.2.2⟩

end Sys2Proof.Machine
end

