-- ==== Sys2Proof/Machine/Replies.lean ====
section
/-! DEFINITION. The bytes of a reply frame (R152, R156, R157): its head, its payload as the owning rules name the
fields, the poll reply, the notices, and the causes of a BRAKES record (R159). The inside of the other snapshot
records has no byte layout in the spec (log 32). -/

namespace Sys2Proof.Machine

/-! ## Lists of values, in the order their rules name them -/

def allStages : List Stage := [.none, .service, .emergency]
def allLineStates : List LineState := [.closed, .inService, .inspection]
def allFeedbacks : List Feedback := [.applied, .released]
/-- DESIGN CHOICE: no rule lists the brakes; the detail of BRAKE_DRAG names one as 0 service or 1 emergency (log 17). -/
def allBrakes : List Brake := [.service, .emergency]
def allRefNames : List RefName := [.unreferenced, .provisional, .referenced]
def allSlotNames : List SlotName := [.empty, .armed, .pending, .inFlight]
def allOutcomes : List TripOutcome := [.none, .done, .aborted, .stopped]
def allAbortCauses : List AbortCause := [.cancelled, .doorsTimeout, .brakeNotReleased, .brake]
/-- DESIGN CHOICE: R128 to R130 name the kinds and give no list of them; 0 RESERVED, 1 LATE, 2 UNAUTHORISED (log 17). -/
def allPassages : List PassageKind := [.reserved, .late, .unauthorised]
def allLaneFaults : List LaneFaultReason := [.unauthorised, .lapses]
/-- The causes in the order of R63. -/
def allCauses : List Cause :=
  [.overspeedService, .overspeedEmergency, .sbIneffective, .sbFail, .ebFail, .brakeDrag, .rollback, .unintendedMotion,
   .overtravel, .overshoot, .position, .markerMissed, .speedMismatch, .driveSilent, .carSilent, .doorOpen,
   .stopRequest, .estopRequest]

/-- One enumerated byte (R152). -/
def oneOf {α : Type} [DecidableEq α] (l : List α) (a : α) : Byte := byteOf (l.idxOf a)

/-- An optional field after its presence byte (R152). -/
def optional {α : Type} (put : α → List Byte) : Option α → List Byte
  | none => [0]
  | some a => 1 :: put a

/-- The code of a trip state (R157). -/
def tripStateCode : TripState → Nat
  | .none => 0 | .dwell _ => 1 | .closing _ => 2 | .doors => 3 | .settle => 4 | .release => 5 | .running => 6
  | .arriving => 7 | .braking => 8 | .stoppedOnLine => 9

def slotByte : SlotId → Byte
  | .slot0 => 0 | .slot1 => 1

def stationByte (st : Station) : Byte := byteOf (stationNumber st)

def laneBytes (id : LaneId) : List Byte := [stationByte (gateStation id.gate), byteOf id.num.val]

/-! ## Details -/

/-- An item of a cause's detail: a position or a time, a speed, or any other item (R159). -/
inductive Item where
  | long (n : Int)
  | speed (n : Nat)
  | single (b : Byte)
deriving DecidableEq, Repr

/-- The items of a detail, in the order the raising rule names them. DESIGN CHOICE: a byte 0 or 1 before the asker tells
a station from a car, and before the time since the last refresh whether there is one (log 17). -/
def detailItems : Detail → List Item
  | .overspeed v threshold c => [.speed v, .speed threshold, .speed c]
  | .ineffective v0 v limit elapsed => [.speed v0, .speed v, .speed limit, .long elapsed]
  | .applyTimer elapsed fb => [.long elapsed, .single (oneOf allFeedbacks fb)]
  | .brake b => [.single (oneOf allBrakes b)]
  | .motion p v ts => [.long p, .speed v, .single (byteOf (tripStateCode ts))]
  | .position car m p pm => [.single (oneOf allCars car), .single (byteOf m), .long p, .long pm]
  | .marker car m => [.single (oneOf allCars car), .single (byteOf m)]
  | .mismatch car v r => [.single (oneOf allCars car), .speed v, .speed r]
  | .silentDrive none => [.single 0]
  | .silentDrive (some t) => [.single 1, .long t]
  | .silentCar car age => [.single (oneOf allCars car), .long age]
  | .door car d st => [.single (oneOf allCars car), .single (oneOf allSides d), .single (oneOf allDoorStates st)]
  | .asker (.station st) => [.single 0, .single (stationByte st)]
  | .asker (.car c) => [.single 1, .single (oneOf allCars c)]

/-- A speed in two bytes. -/
def speedBytes (v : Nat) : List Byte := [byteOf (v / 256), byteOf v]

/-- An item as a BRAKES record carries it: positions and times in four bytes, speeds in two, others in one (R159). -/
def itemInRecord : Item → List Byte
  | .long n => numBytes n
  | .speed v => speedBytes v
  | .single b => [b]

/-- An item as a notice carries it: every number in four bytes (R152). -/
def itemInNotice : Item → List Byte
  | .long n => numBytes n
  | .speed v => numBytes v
  | .single b => [b]

/-- A cause of a BRAKES record: one byte naming it and eleven of its detail, unused bytes 0 (R159). -/
def causeBytes (h : HeldCause) : List Byte :=
  let d := (detailItems h.detail).flatMap itemInRecord
  oneOf allCauses h.cause :: (d ++ List.replicate (11 - d.length) 0)

/-! ## Refusals -/

/-- The code of a reason (R156). -/
def reasonCode : Reason → Nat
  | .notYours => 1 | .wrongState => 2 | .busy => 3 | .full => 4 | .closed => 5 | .laneFault => 6 | .moving => 7
  | .causePresent _ => 8 | .flagProtected => 9 | .badValue => 10 | .badRequest => 11 | .noReservation => 12

/-- A sub-reason of CAUSE_PRESENT and its detail (R156). DESIGN CHOICE: the sub-reasons CAR_SILENT, DOOR_OPEN, SB_FAIL
and EB_FAIL of CLEAR BRAKE carry no detail, for R79 names none (log 17). -/
def subReasonBytes : SubReason → List Byte
  | .stage first => 0 :: (first.map (oneOf allCauses)).toList
  | .carStale c => [1, oneOf allCars c]
  | .alarm c => [2, oneOf allCars c]
  | .unreferenced => [3]
  | .uncounted c => [4, oneOf allCars c]
  | .atDestination => [5]
  | .uncommitted => [6]
  | .offStop p => 7 :: numBytes p
  | .notStill => [8]
  | .driveSilent t => 9 :: optional (fun n => numBytes (n : Int)) t
  | .carSilent => [10]
  | .doorOpen => [11]
  | .sbFail => [12]
  | .ebFail => [13]

/-- A reason inside a notice: its code, and the sub-reason of CAUSE_PRESENT. -/
def reasonBytes (r : Reason) : List Byte :=
  byteOf (reasonCode r) :: (r.sub.map subReasonBytes).getD []

/-! ## Notices and incidents -/

def incidentCauseBytes : IncidentCause → List Byte
  | .cause c => [oneOf allCauses c]
  | .passengerAlarm c => [18, oneOf allCars c]

/-- The stop or P of TRIP_STOPPED (R104). DESIGN CHOICE: a byte 0 or 1 before it tells a stop from P (log 17). -/
def placeBytes : StoppedAt → List Byte
  | .stop k => [0, oneOf allStops k]
  | .line p => 1 :: numBytes p

/-- The detail of a notice (R166). -/
def noticeDetailBytes : NoticeDetail → List Byte
  | .cause c => [oneOf allCauses c]
  | .fault c d => oneOf allCauses c :: (detailItems d).flatMap itemInNotice
  | .car c => [oneOf allCars c]
  | .started n k m => numBytes n ++ [oneOf allStops k, oneOf allModes m]
  | .done n k peak => numBytes n ++ (k.map (oneOf allStops)).toList ++ numBytes (peak.getD 0)
  | .aborted n c => numBytes n ++ [oneOf allAbortCauses c]
  | .stopped n o place => numBytes n ++ [oneOf allOutcomes o] ++ placeBytes place
  | .refused id (.reason r) => slotByte id :: reasonBytes r
  | .refused id .stopped => [slotByte id, 13]
  | .ignored id => [slotByte id]
  | .overspeed v w c => numBytes v ++ numBytes w ++ numBytes c
  | .platforms ps => byteOf ps.length :: ps.map (oneOf allPlatforms)
  | .laneFault id why => laneBytes id ++ [oneOf allLaneFaults why]
  | .incident seq c => numBytes seq ++ incidentCauseBytes c
  | .overflow n => numBytes n
  | .line old new => [oneOf allLineStates old, oneOf allLineStates new]
  | .mode old new => [oneOf allModes old, oneOf allModes new]

/-- A notice as NEXT NOTICE returns it: kind, detail, repeated mark (R169). DESIGN CHOICE: a mark is sent as 0 where it is
set and 1 where it is clear (log 17). -/
def noticeBytes (n : Pending) : List Byte :=
  oneOf allNoticeKinds n.kind :: (noticeDetailBytes n.detail ++ [oneOf allFlags n.repeated])

/-- An incident record (R171). DESIGN CHOICE: the read and the acknowledged mark are sent as 0 where set and 1 where clear
(log 17). -/
def incidentBytes (i : Incident) : List Byte :=
  numBytes i.seq ++ incidentCauseBytes i.cause ++ [oneOf allStages i.stage] ++ numBytes i.tripNumber ++
    [byteOf (tripStateCode i.tripState)] ++ numBytes i.p ++ numBytes i.v ++ numBytes i.c ++ numBytes i.aboardA ++
    numBytes i.aboardB ++ [oneOf allFlags i.read, oneOf allFlags i.acked]

/-! ## The configuration replies (R5, R15, R16) -/

def valueBytes : StoredValue → List Byte
  | .number v => numBytes v
  | .slotMode m => [oneOf allSlotModes m]
  | .side d => [oneOf allSides d]

def commitItemBytes : CommitItem → List Byte
  | .param p => [oneOf allParams (.num p)]
  | .segment n => [byteOf n]
  | .marker n => [byteOf n]
  | .lane id => laneBytes id
  | .car c => [oneOf allCars c]

def entryBytes : TableEntry → List Byte
  | .segment start limit => numBytes start ++ numBytes limit
  | .marker x => numBytes x
  | .lane k pf => [oneOf allLaneKinds k, oneOf allPlatforms pf]

def cfgBytes : CfgData → List Byte
  | .nothing => []
  | .value v => valueBytes v
  | .segment start limit n => numBytes start ++ numBytes limit ++ [byteOf n]
  | .marker x n => numBytes x ++ [byteOf n]
  | .failed check item => numBytes check ++ commitItemBytes item
  | .entry e held => entryBytes e ++ numBytes held

/-! ## The poll reply (R157) -/

def pollReplyBytes (r : PollReply) : List Byte :=
  [byteOf (r.left.toNat + 2 * r.right.toNat + 4 * r.track.toNat), oneOf allLineStates r.line,
   byteOf (tripStateCode r.ts), (r.target.map (oneOf allStops)).getD 255] ++ speedBytes r.ceiling

/-! ## The reply's payload and head (R156) -/

def countedBytes : PassageKind → CountedAt → List Byte
  | .reserved, .aboard c => [oneOf allCars c]
  | _, .aboard _ => [0]
  | _, .uncounted _ => [1]
  | _, .platform _ => [2]

/-- The reset cause set (R174). DESIGN CHOICE: the set is sent as a list, its count and then a byte for each cause held, 0
POWER, 1 PIN and 2 CONSOLE, in that order (log 17). -/
def resetCauseBytes (c : ResetCauses) : List Byte :=
  let items := (if c.power then [(0 : Byte)] else []) ++ (if c.pin then [1] else []) ++ (if c.console then [2] else [])
  byteOf items.length :: items

/-- The payload of a reply; none for a snapshot that carries records, whose inside has no byte layout (log 32). DESIGN
CHOICE: the committed mark comes last, after the reply's own data (log 24), as 0 where the store is committed; the notice
of NEXT NOTICE and the car and count of EXITED are optional fields, absent for NONE; the next kind of a snapshot of an
empty selection, which is none, is 255 (log 17). -/
def replyPayload : ReplyData → Option (List Byte)
  | .nothing => some []
  | .poll r => some (pollReplyBytes r)
  | .stage s => some [oneOf allStages s]
  | .causePresent r => some (subReasonBytes r)
  | .slot id st n sub =>
    some ((sub.map subReasonBytes).getD [] ++ [slotByte id, oneOf allSlotNames st] ++ optional (fun k => numBytes (k : Int)) n)
  | .mode m => some [oneOf allModes m]
  | .speed v => some (numBytes v)
  | .permits l r => some [oneOf allFlags l, oneOf allFlags r]
  | .granted c n => some (oneOf allCars c :: numBytes n)
  | .full c => some [oneOf allCars c]
  | .passage k a => some (oneOf allPassages k :: countedBytes k a)
  | .exit x => some (optional (fun y => oneOf allCars y.1 :: numBytes y.2) x)
  | .entries n => some (numBytes n)
  | .opened k l => some [oneOf allStops k, oneOf allLineStates l]
  | .tripState (.dwell k) => some [1, 1, oneOf allStops k]
  | .tripState ts => some [byteOf (tripStateCode ts), 0]
  | .reference p r => some (numBytes p ++ [oneOf allRefNames r])
  | .setting on => some [oneOf allFlags on]
  | .aboard n => some (numBytes n)
  | .cfg d committed => some (cfgBytes d ++ [oneOf allFlags committed])
  | .snapshot [] none => some [0, 255]
  | .snapshot _ _ => none
  | .notice n left => some (optional noticeBytes n ++ numBytes left)
  | .incident i => some (incidentBytes i)
  | .resetCauses c => some (resetCauseBytes c)

/-- The code of a status and of its reason (R156). -/
def statusCode : Status → Nat
  | .ok => 0 | .clamped => 1 | .replaced => 2 | .refused _ => 3

def statusReason : Status → Nat
  | .refused r => reasonCode r
  | _ => 0

/-- The three bytes of a reply head (R156). -/
def replyHead (r : Reply) : List Byte :=
  [byteOf (statusCode r.status * 64 + r.attention.toNat * 32 + r.cls.toNat * 8 + r.station.toNat),
   byteOf (128 + r.code.toNat), byteOf (statusReason r.status)]

/-- Head, length and payload of a reply frame. -/
def replyBody (r : Reply) : Option (List Byte) :=
  (replyPayload r.data).map fun p => replyHead r ++ [byteOf p.length] ++ p

/-- A reply on the wire: its body and its check, stuffed (R152, R156). -/
def replyWire (r : Reply) : Option (List Bool) :=
  (replyBody r).map fun b => stuff (byteBits b ++ bitsOf (checkOf (byteBits b)))

end Sys2Proof.Machine
end

