-- ==== Sys2Proof/WellFormed.lean ====
section
/-! DEFINITION. The well-formed commands: those whose operands a frame or an input can carry (R152, R155). `exec`
takes every command; this says which of them come from the wire as they are written. -/

namespace Sys2Proof

open Sys2Proof.Machine

/-- A number of four signed bytes (R152). -/
def numOk (n : Int) : Bool := -2147483648 ≤ n ∧ n < 2147483648

def byteOk (n : Nat) : Bool := n < 256

/-- An enumerated byte: a listed value, or a code beyond the list. -/
def codedOk {α : Type} [DecidableEq α] (l : List α) : Coded α → Bool
  | .listed a => l.contains a
  | .unlisted code => l.length ≤ code ∧ code < 256

/-- A payload: fields as the request has them, or bytes that fit a frame and do not carry them. -/
def payloadOk {α : Type} [DecidableEq α] (take : List Byte → Option (α × List Byte)) (ok : α → Bool) : Payload α → Bool
  | .fields f => ok f
  | .malformed bs => bs.length ≤ Config.payloadMax ∧ readPayload take bs = .malformed bs

def unitOk (_ : Unit) : Bool := true

def pairOk {α β : Type} (p : α → Bool) (q : β → Bool) (x : α × β) : Bool := p x.1 && q x.2

/-- A gate station's number, or another number. -/
def gateOk : Coded Gate → Bool
  | .listed _ => true
  | .unlisted n => n < 256 ∧ (n < 4 ∨ 6 < n)

def laneRefOk (r : LaneRef) : Bool := gateOk r.gate && byteOk r.num

def optByteOk (n : Option Nat) : Bool := n.all byteOk

def tripRequestOk (f : TripRequestFields) : Bool :=
  optByteOk f.slot && codedOk allDestinations f.dest && codedOk allModes f.mode && codedOk allTriggers f.trigger &&
    codedOk allFlags f.oneShot && codedOk allFlags f.mask

def maintTargetOk : MaintTarget → Bool
  | .all => true
  | .side c d => codedOk allCars c && codedOk allSides d

/-- A parameter and its value: a byte for an enumerated parameter, else a number. -/
def setParameterOk (f : Coded Param × Int) : Bool :=
  codedOk allParams f.1 &&
    match f.1 with
    | .listed .slotMode => 0 ≤ f.2 ∧ f.2 < 256
    | .listed .walkwaySide => 0 ≤ f.2 ∧ f.2 < 256
    | _ => numOk f.2

def lanePutOk (f : LanePutFields) : Bool :=
  laneRefOk f.lane && codedOk allLaneKinds f.kind && codedOk allPlatforms f.platform

def entryRefOk : EntryRef → Bool
  | .segment n => byteOk n
  | .marker n => byteOk n
  | .lane r => laneRefOk r
  | .unlistedTable t n => (2 < t ∧ t < 256) && byteOk n

/-- A list of enumerated bytes with its number of items in one payload. -/
def codedListOk {α : Type} [DecidableEq α] (l : List α) (xs : List (Coded α)) : Bool :=
  xs.length < Config.payloadMax && xs.all (codedOk l)

/-- A head that fails check 1 or check 2 of R155. -/
def headUnknown (h : Head) : Bool := (requestOf h.cls h.code).isNone || (stationOf h.station.toNat).isNone

/-- The well-formed commands. -/
def wellFormed : Instr → Bool
  | .carPoll _ bs => bs.length ≤ Config.payloadMax
  | .stop _ p => payloadOk takeUnit unitOk p
  | .estop _ p => payloadOk takeUnit unitOk p
  | .runRefresh _ p => payloadOk takeUnit unitOk p
  | .clearBrake _ p => payloadOk takeUnit unitOk p
  | .tripRequest _ p => payloadOk takeTripRequest tripRequestOk p
  | .cancelTrip _ p => payloadOk takeOptByte optByteOk p
  | .setMode _ p => payloadOk (takeCoded allModes) (codedOk allModes) p
  | .setLimit _ p => payloadOk takeNum numOk p
  | .evacuate _ p => payloadOk (takeCoded allCars) (codedOk allCars) p
  | .evacuateEnd _ p => payloadOk (takeCoded allCars) (codedOk allCars) p
  | .maintRelease _ p =>
    payloadOk (takePair (takeCoded allCars) (takeCoded allSides)) (pairOk (codedOk allCars) (codedOk allSides)) p
  | .maintEnd _ p => payloadOk takeMaintTarget maintTargetOk p
  | .admitPerson _ p => payloadOk takeLaneRef laneRefOk p
  | .passed _ p => payloadOk takeLaneRef laneRefOk p
  | .abandoned _ p => payloadOk takeLaneRef laneRefOk p
  | .exited _ p => payloadOk takeLaneRef laneRefOk p
  | .openLine _ p => payloadOk takeUnit unitOk p
  | .closeLine _ p => payloadOk takeUnit unitOk p
  | .inspectionEnter _ p => payloadOk takeUnit unitOk p
  | .inspectionLeave _ p => payloadOk takeUnit unitOk p
  | .setReference _ p => payloadOk (takeCoded allStops) (codedOk allStops) p
  | .setClearInInspection _ p => payloadOk (takeCoded allFlags) (codedOk allFlags) p
  | .resetPart _ p => payloadOk takeUnit unitOk p
  | .setParameter _ p => payloadOk takeSetParameter setParameterOk p
  | .platformSide _ p =>
    payloadOk (takePair (takeCoded allPlatforms) (takeCoded allSides)) (pairOk (codedOk allPlatforms) (codedOk allSides)) p
  | .profilePut _ p => payloadOk (takePair takeNum takeNum) (pairOk numOk numOk) p
  | .profileRemove _ p => payloadOk takeByte byteOk p
  | .profileClear _ p => payloadOk takeUnit unitOk p
  | .markerPut _ p => payloadOk takeNum numOk p
  | .markerRemove _ p => payloadOk takeByte byteOk p
  | .markerClear _ p => payloadOk takeUnit unitOk p
  | .lanePut _ p => payloadOk takeLanePut lanePutOk p
  | .laneRemove _ p => payloadOk takeLaneRef laneRefOk p
  | .commit _ p => payloadOk takeUnit unitOk p
  | .enableLane _ p => payloadOk takeLaneRef laneRefOk p
  | .disableLane _ p => payloadOk takeLaneRef laneRefOk p
  | .adjustLoad _ p => payloadOk (takePair (takeCoded allCars) takeNum) (pairOk (codedOk allCars) numOk) p
  | .clearUncounted _ p => payloadOk (takeCoded allTargets) (codedOk allTargets) p
  | .clearAlarm _ p => payloadOk (takeCoded allCars) (codedOk allCars) p
  | .readParameter _ p => payloadOk (takeCoded allReadNames) (codedOk allReadNames) p
  | .readEntry _ p => payloadOk takeEntryRef entryRefOk p
  | .snapshotSelect _ p => payloadOk (takeCodedList allSnapKinds) (codedListOk allSnapKinds) p
  | .snapshot _ p => payloadOk takeUnit unitOk p
  | .nextNotice _ p => payloadOk takeUnit unitOk p
  | .noticeEnable _ p => payloadOk (takeCodedList allNoticeKinds) (codedListOk allNoticeKinds) p
  | .incidentRead _ p => payloadOk takeNum numOk p
  | .incidentAck _ p => payloadOk takeNum numOk p
  | .resetCauseRead _ p => payloadOk takeUnit unitOk p
  | .unknownRequestFrame h => headUnknown h
  | .frameDiscarded _ => true
  | .replyCollision => true
  | .speedSample => true
  | .encoderEdge _ => true
  | .carReportStale _ => true
  | .driveRefreshTimerExpiry => true
  | .releaseWaitExpiry => true
  | .applyTimerExpiry _ => true
  | .brakeFeedbackChange _ _ => true
  | .dispatchInputChange _ => true
  | .dispatch => true
  | .minDwellExpiry => true
  | .settleTimerExpiry => true
  | .leadTimerExpiry => true
  | .doorCloseTimerExpiry => true
  | .lapse _ => true
  | .powerOnReset => true
  | .pinReset _ => true
  | .supplyLow => true
  | .resetPinReleased => true
  | .supplyRestored => true
  | .debouncedLevelFall => true
  | .feedbackInputChange _ _ => true

end Sys2Proof
end

