-- ==== Sys2Proof/Safety.lean ====
section
/-! DEFINITION. What the manual promises of the part in every state it can reach, in the terms the statements use:
each is an invariant of the step (Certificates/Slice0/Obligations.lean). -/

namespace Sys2Proof.Machine

/-- R61: the cause set is empty exactly while the stage is NONE; no cause is in it twice; the stage is the highest
that a member calls for (R62). -/
def StageInv (s : State) : Prop :=
  (s.brs.causes.map (·.cause)).Nodup ∧
    s.brs.stage.rank = (s.brs.causes.map fun h => h.cause.stage.rank).foldr max 0

/-- Both records' fresh fields stand (R36) and show all four door sides LOCKED. -/
def markedLocked (s : State) : Bool :=
  s.cru.a.fresh ∧ s.cru.b.fresh ∧ bothLocked s.cru.a.poll ∧ bothLocked s.cru.b.poll

/-- R64: the hold-offs stand as the stage and the trip state call for. DRIVE_PERMIT is held on where the stage, the trip
state and the reports call for it, and off where they do not, but that it is held on until CAR_REPORT_STALE is taken
for a report whose staleness is due. -/
def OutputInv (s : State) : Prop :=
  s.brs.sbHoldoff = (wantedOutputs s).sbHoldoff ∧ s.brs.ebHoldoff = (wantedOutputs s).ebHoldoff ∧
    ((wantedOutputs s).drivePermit = true → s.brs.drivePermit = true) ∧
    (s.brs.drivePermit = true → (outputsWith (markedLocked s) s).drivePermit = true)

/-- R64: DRIVE_PERMIT is held on only in RUNNING or ARRIVING, with the stage NONE and records of LOCKED doors whose fresh
fields stand; and its pin is on only where both reports are fresh, judged then (R39). -/
def DrivePermitLaw (s : State) : Prop :=
  (s.brs.drivePermit = true →
    (s.trc.state = .running ∨ s.trc.state = .arriving) ∧ s.brs.stage = .none ∧ markedLocked s = true) ∧
    ((outputPins s).drivePermit = true → s.brs.drivePermit = true ∧ allLocked s = true)

/-- R40, R135: each car's alarm mirror follows its latch. -/
def MirrorInv (s : State) : Prop :=
  s.adm.loads.a.alarmMirror = s.cru.a.latch ∧ s.adm.loads.b.alarmMirror = s.cru.b.latch

/-- R142: the trip state is NONE exactly while the line state is CLOSED. -/
def LineInv (s : State) : Prop := s.trc.state = .none ↔ s.lsu.line = .closed

/-- How many slots are IN_FLIGHT. -/
def flights (s : State) : Nat :=
  (if s.trc.slot0.name = .inFlight then 1 else 0) + (if s.trc.slot1.name = .inFlight then 1 else 0)

/-- R82: exactly one slot is IN_FLIGHT while a trip is in flight, and otherwise none. -/
def FlightInv (s : State) : Prop := flights s = if inFlight s.trc.state then 1 else 0

/-- R62, R93, R103, R104: no stage stands from CLOSING to ARRIVING, and one stands in BRAKING. -/
def TripStageInv (s : State) : Prop :=
  (inFlight s.trc.state = true → s.trc.state ≠ .braking → s.brs.stage = .none) ∧
    (s.trc.state = .braking → s.brs.stage ≠ .none)

/-- R69, R71, R72, R74, R96, R99, R110, R113: what runs, and when. -/
structure TimerInv (s : State) : Prop where
  refresh       : s.brs.refreshTimer.isSome = true → isPowered s.trc.state = true
  releaseWait   : s.brs.releaseWait.isSome = true → s.trc.state = .release
  sbApply       : s.brs.sbApply.isSome = true → s.brs.sbFb = .released
  ebApply       : s.brs.ebApply.isSome = true → s.brs.ebFb = .released
  effectiveness : s.brs.effectiveness.isSome = true → s.brs.stage = .service ∧ s.psu.still = false
  minDwell      : s.trc.minDwell.isSome = true → isDwell s.trc.state = true ∧ s.trc.elapsed = false
  settle        : s.trc.settleTimer.isSome = true → s.trc.state = .settle
  lead          : s.dri.leadTimer.isSome = true → s.dri.phase = .alighting ∧ isDwell s.trc.state = true
  doorClose     : s.dri.doorTimer.isSome = true → s.trc.state = .doors

/-- R115 to R120: an evacuation release stands only under a stage in BRAKING or STOPPED_ON_LINE; a maintenance
release only off service with no trip in flight. -/
def ReleaseInv (s : State) : Prop :=
  (∀ c, s.dri.evac.get c = true → s.brs.stage ≠ .none ∧ (s.trc.state = .braking ∨ s.trc.state = .stoppedOnLine)) ∧
    (∀ c d, (s.dri.maint.get c).get d = true → s.lsu.line ≠ .inService ∧ inFlight s.trc.state = false)

/-- R9, R11, R13: the tables in strictly ascending order within their sizes; the ADM holds exactly the configured
lanes. -/
structure TableInv (s : State) : Prop where
  profile     : s.cfg.profile.Pairwise (fun t u => t.start < u.start)
  profileSize : s.cfg.profile.length ≤ Config.profileMax
  markers     : s.cfg.markers.Pairwise (· < ·)
  markerSize  : s.cfg.markers.length ≤ Config.markerMax
  lanes       : s.cfg.lanes.Pairwise (fun l m => laneKey l.id < laneKey m.id)
  laneOps     : s.adm.lanes.map (·.id) = s.cfg.lanes.map (·.id)

/-- R6: every numeric parameter lies in its write range. -/
def ParamInv (s : State) : Prop :=
  ∀ p, (paramRow p).lo ≤ s.params.get p ∧ s.params.get p ≤ (paramRow p).hi

/-- R126: reservations stand only in service in DWELL or CLOSING; at most one per lane; each for the car bound to its
platform; and CLOSING is at the trip's origin. -/
structure ReservationInv (s : State) : Prop where
  line   : s.adm.reservations ≠ [] → s.lsu.line = .inService
  lanes  : (s.adm.reservations.map (·.lane)).Nodup
  bound  : ∀ r ∈ s.adm.reservations, boundCar s r.platform = some r.car
  origin : ∀ k, s.trc.state = .closing k → s.trc.trip.origin = some k

/-- R135: while the store is committed, aboard plus the reservations of a car never exceeds CAPACITY. -/
def CapacityInv (s : State) : Prop :=
  s.cfg.committed = true → ∀ c, (s.adm.loads.get c).aboard + reservedFor s c ≤ s.params.capacity

/-- R16, R17: a committed store passes the nine checks. -/
def CommitInv (s : State) : Prop := s.cfg.committed = true → commitFailure s = none

/-- R57: C, W1, S and E stand in their order, with C at least 10. -/
def ThresholdInv (s : State) : Prop := 10 ≤ s.clc.c ∧ s.clc.c ≤ s.clc.w1 ∧ s.clc.w1 ≤ s.clc.s ∧ s.clc.s < s.clc.e

/-- R171, R172: the incident list and its counters within their limits. -/
def IncidentInv (s : State) : Prop :=
  s.niu.incidents.length ≤ Config.incidentMax ∧ s.niu.overflow ≤ Config.count255 ∧ s.niu.seq < Config.wrap16

/-- R165: no kind is pending twice, and a latched kind is pending. -/
def NoticeInv (s : State) : Prop :=
  ∀ st, ((s.niu.notices.get st).pending.map (·.kind)).Nodup ∧
    ∀ k, (s.niu.notices.get st).latched = some k → k ∈ (s.niu.notices.get st).pending.map (·.kind)

/-- R160, R161: a master's continuation point is one of its selected kinds, and none only for an empty selection. -/
def SelectionInv (s : State) : Prop :=
  ∀ st, match s.lbp.continuation.get st with
    | some k => k ∈ s.lbp.selection.get st
    | none => s.lbp.selection.get st = []

/-- R29, R35, R66, R122: the saturating counts within their limits. -/
structure CountInv (s : State) : Prop where
  still     : s.psu.stillCount ≤ Config.stillMax
  mismatch  : ∀ c, s.psu.mismatch.get c ≤ Config.mismatchMax
  overspeed : s.brs.overspeedCount ≤ 2
  uncounted : ∀ c, (s.adm.loads.get c).uncounted ≤ Config.count255
  platform  : ∀ b, s.adm.uncounted.get b ≤ Config.count255
  lapses    : ∀ l ∈ s.adm.lanes, l.lapses ≤ Config.lapseMax

/-- R165, R168: no kind is pending twice, a latched kind is pending, and where a notice is eligible one is latched. -/
def LatchInv (s : State) : Prop :=
  NoticeInv s ∧ ∀ st, attention s st = false → eligible (s.niu.notices.get st) = []

/-- What the manual promises of the line as it runs, together: the stage and its causes, the outputs, the line state,
the slots, the trip states, the timers and the door releases. -/
structure RunSafe (s : State) : Prop where
  stage     : StageInv s
  outputs   : OutputInv s
  line      : LineInv s
  flight    : FlightInv s
  tripStage : TripStageInv s
  timers    : TimerInv s
  releases  : ReleaseInv s

/-- What the manual promises of the store and of what rests on it, together: the tables, the parameters, the
reservations, the capacity, the commit checks and the thresholds. -/
structure StoreSafe (s : State) : Prop where
  tables       : TableInv s
  params       : ParamInv s
  reservations : ReservationInv s
  capacity     : CapacityInv s
  committed    : CommitInv s
  thresholds   : ThresholdInv s

/-! ## The terms in which the statements speak of one command -/

/-- The line bus port hands the request on: RESET_N is high and the station may send it (R154, R155). -/
def Heard (r : Request) (st : Station) (s : State) : Prop :=
  s.pins.resetLow = false ∧ permitted (catalogue r).permit st = true

/-- The reply in `t` to a request `r` of `st`: its status, its payload, the echo of its head, and the requester's
attention mark as it stands in `t` (R156, R158). -/
def Replied (r : Request) (st : Station) (status : Status) (data : ReplyData) (t : State) : Prop :=
  t.lbp.reply =
    some { status := status, attention := attention t st, cls := (catalogue r).cls
           station := BitVec.ofNat 3 (stationNumber st), code := (catalogue r).code, data := data }

/-- The parts of the state that a frame speaks of. Latching, the fresh marks and the reply, which every command can
change, have statements of their own; so have the overtaken events, the model's own mark (log 47). -/
inductive StatePart where
  | cfg | cru | psu | clc | brs | trc | dri | adm | lsu
  /-- Every master's snapshot selection and continuation point. -/
  | selections
  /-- Every master's pending notices and enable set. -/
  | notices
  /-- The incident list, the overflow count and the sequence counter. -/
  | incidents
  | resetCauses | pins | now
deriving DecidableEq, Repr

/-- A part is the same in `t` as in `s`. -/
def StatePart.same (s t : State) : StatePart → Prop
  | .cfg => t.cfg = s.cfg
  | .cru => t.cru = s.cru
  | .psu => t.psu = s.psu
  | .clc => t.clc = s.clc
  | .brs => t.brs = s.brs
  | .trc => t.trc = s.trc
  | .dri => t.dri = s.dri
  | .adm => t.adm = s.adm
  | .lsu => t.lsu = s.lsu
  | .selections => t.lbp.selection = s.lbp.selection ∧ t.lbp.continuation = s.lbp.continuation
  | .notices =>
    ∀ st, (t.niu.notices.get st).pending = (s.niu.notices.get st).pending ∧
      (t.niu.notices.get st).enabled = (s.niu.notices.get st).enabled
  | .incidents => t.niu.incidents = s.niu.incidents ∧ t.niu.overflow = s.niu.overflow ∧ t.niu.seq = s.niu.seq
  | .resetCauses => t.niu.resetCauses = s.niu.resetCauses
  | .pins => t.pins = s.pins
  | .now => t.now = s.now

/-- The frame: the queue and every part but those named are in `t` as in `s`. -/
def KeepsBut (changed : List StatePart) (s t : State) : Prop :=
  t.pending = s.pending ∧ ∀ p, p ∉ changed → p.same s t

/-- The commands of the pins, the resets and the supply: taken while RESET_N is low too (R164, log 14). -/
def isPinCommand (c : Instr) : Bool :=
  match c with
  | .powerOnReset => true
  | .pinReset _ => true
  | .resetPinReleased => true
  | .supplyLow => true
  | .supplyRestored => true
  | .dispatchInputChange _ => true
  | .feedbackInputChange _ _ => true
  | _ => false

/-- The events that fall due at a time of their own: the timers' expiries, the stale reports, the speed sample. -/
def isTimedEvent (c : Instr) : Bool :=
  match c with
  | .driveRefreshTimerExpiry => true
  | .releaseWaitExpiry => true
  | .applyTimerExpiry _ => true
  | .minDwellExpiry => true
  | .settleTimerExpiry => true
  | .leadTimerExpiry => true
  | .doorCloseTimerExpiry => true
  | .lapse _ => true
  | .carReportStale _ => true
  | .speedSample => true
  | _ => false

/-- No slot is PENDING. -/
def NonePending (s : State) : Prop := s.trc.slot0.name ≠ .pending ∧ s.trc.slot1.name ≠ .pending

/-- Where an abort leaves the trip state: the origin stop, or the line (R103). -/
def abortState (s : State) : TripState :=
  match s.trc.trip.origin with
  | some k => .dwell k
  | none => .stoppedOnLine

/-- Where the end of a brake stop or INSPECTION ENTER finds the line: the stop it is at under a reference that is not
UNREFERENCED, or the line (R104, R147). -/
def restState (s : State) : TripState :=
  match trustedStop s with
  | some k => .dwell k
  | none => .stoppedOnLine

/-- Where a rise of the stage leaves the trip state (R103, R104). -/
def riseState (s : State) : TripState :=
  match s.trc.state with
  | .closing _ => abortState s
  | .doors => abortState s
  | .settle => abortState s
  | .release => .braking
  | .running => .braking
  | .arriving => .braking
  | ts => ts

/-- A notice handed to a master (R167): its kind is pending, with this detail and unrepeated where it was not before. -/
def Handed (k : NoticeKind) (d : NoticeDetail) (st : Station) (s t : State) : Prop :=
  isPending (t.niu.notices.get st) k = true ∧
    (isPending (s.niu.notices.get st) k = false → ⟨k, d, false⟩ ∈ (t.niu.notices.get st).pending)

/-- A notice handed to the owner of the trip, where the trip record names one (R166). -/
def HandedOwner (k : NoticeKind) (d : NoticeDetail) (s t : State) : Prop :=
  ∀ o, s.trc.trip.owner = some o → Handed k d o.station s t

/-- Each gate station with a board platform whose window is open in `t` and not in `s`, or in `s` and not in `t`, has
ADMISSION_OPEN, or ADMISSION_CLOSED, with those platforms as its detail (R124). -/
def WindowsHanded (s t : State) : Prop :=
  ∀ g, (newlyOpen s t g ≠ [] → Handed .admissionOpen (.platforms (newlyOpen s t g)) (gateStation g) s t) ∧
    (newlyOpen t s g ≠ [] → Handed .admissionClosed (.platforms (newlyOpen t s g)) (gateStation g) s t)

/-- What an abort leaves of the trip and its slots, and the notices of it (R103, R124). -/
def Aborted (cause : AbortCause) (s t : State) : Prop :=
  t.trc.state = abortState s ∧
    t.trc.trip = { s.trc.trip with outcome := .aborted, abortCause := some cause } ∧
    t.trc.slot0 = freed (cause = .cancelled) s.trc.slot0 ∧ t.trc.slot1 = freed (cause = .cancelled) s.trc.slot1 ∧
    t.psu.mismatch = ⟨0, 0⟩ ∧ HandedOwner .tripAborted (.aborted s.trc.trip.number cause) s t ∧ WindowsHanded s t

/-- A slot once a DISPATCH event has been memorised (R88, R89). -/
def memorised : Slot → Slot
  | .armed r => if r.trigger = .dispatch then .pending r else .armed r
  | v => v

/-- A person counted at a place: one more there, every other count as it was (R128, R129, R130). -/
def CountedAtPlace (place : CountedAt) (s t : State) : Prop :=
  (∀ c, (t.adm.loads.get c).aboard = (s.adm.loads.get c).aboard + (if place = .aboard c then 1 else 0) ∧
      (t.adm.loads.get c).uncounted =
        (if place = .uncounted c then min 255 ((s.adm.loads.get c).uncounted + 1) else (s.adm.loads.get c).uncounted) ∧
      (t.adm.loads.get c).alarmMirror = (s.adm.loads.get c).alarmMirror) ∧
    ∀ b, t.adm.uncounted.get b =
      match place with
      | .platform q => if berthOf q = b then min 255 (s.adm.uncounted.get b + 1) else s.adm.uncounted.get b
      | _ => s.adm.uncounted.get b

/-- The trip state is CLOSING. -/
def isClosing : TripState → Bool
  | .closing _ => true
  | _ => false

/-- A payload that carries its fields. -/
def carries {α : Type} : Payload α → Bool
  | .fields _ => true
  | .malformed _ => false

/-- A configuration write (R5) that carries its fields. -/
def isConfigWrite (c : Instr) : Bool :=
  match c with
  | .setParameter _ p => carries p
  | .platformSide _ p => carries p
  | .profilePut _ p => carries p
  | .profileRemove _ p => carries p
  | .profileClear _ p => carries p
  | .markerPut _ p => carries p
  | .markerRemove _ p => carries p
  | .markerClear _ p => carries p
  | .lanePut _ p => carries p
  | .laneRemove _ p => carries p
  | .commit _ p => carries p
  | _ => false

/-- A reset: power-on, the release of RESET_N, or RESET PART (R176). -/
def isReset (c : Instr) : Bool :=
  match c with
  | .powerOnReset => true
  | .pinReset released => released
  | .resetPinReleased => true
  | .resetPart _ _ => true
  | _ => false

/-- The blocks that every reset leaves alike, for the store in `t` and the levels at the inputs in `s` (R42, R43, R81,
R106, R121, R151). -/
def AfterReset (s t : State) : Prop :=
  t.pending = s.pending ∧ t.now = s.now ∧ t.dri = State.reset.dri ∧ t.lsu = State.reset.lsu ∧
    t.trc = { State.reset.trc with debounced := s.pins.dispatchIn.level } ∧
    (∀ c, t.cru.get c = { State.reset.cru.get c with takenAt := s.now }) ∧
    t.psu = { State.reset.psu with sampleTimer := ⟨s.now, s.now + t.params.ts⟩ } ∧
    t.brs =
      { State.reset.brs with
        sbFb := s.pins.sbIn.level
        ebFb := s.pins.ebIn.level
        sbApply := if s.pins.sbIn.level = .applied then none else some ⟨s.now, s.now + t.params.brkFbTmo⟩
        ebApply := if s.pins.ebIn.level = .applied then none else some ⟨s.now, s.now + t.params.brkFbTmo⟩ }

/-! ## The terms of the rules that several statements cite -/

/-- A command of the catalogue whose payload carries the fields of its request (R155, check 4). -/
def carriesFields (c : Instr) : Bool :=
  match c with
  | .carPoll _ bs => bs.length = 7
  | .stop _ p => carries p
  | .estop _ p => carries p
  | .runRefresh _ p => carries p
  | .clearBrake _ p => carries p
  | .tripRequest _ p => carries p
  | .cancelTrip _ p => carries p
  | .setMode _ p => carries p
  | .setLimit _ p => carries p
  | .evacuate _ p => carries p
  | .evacuateEnd _ p => carries p
  | .maintRelease _ p => carries p
  | .maintEnd _ p => carries p
  | .admitPerson _ p => carries p
  | .passed _ p => carries p
  | .abandoned _ p => carries p
  | .exited _ p => carries p
  | .openLine _ p => carries p
  | .closeLine _ p => carries p
  | .inspectionEnter _ p => carries p
  | .inspectionLeave _ p => carries p
  | .setReference _ p => carries p
  | .setClearInInspection _ p => carries p
  | .resetPart _ p => carries p
  | .setParameter _ p => carries p
  | .platformSide _ p => carries p
  | .profilePut _ p => carries p
  | .profileRemove _ p => carries p
  | .profileClear _ p => carries p
  | .markerPut _ p => carries p
  | .markerRemove _ p => carries p
  | .markerClear _ p => carries p
  | .lanePut _ p => carries p
  | .laneRemove _ p => carries p
  | .commit _ p => carries p
  | .enableLane _ p => carries p
  | .disableLane _ p => carries p
  | .adjustLoad _ p => carries p
  | .clearUncounted _ p => carries p
  | .clearAlarm _ p => carries p
  | .readParameter _ p => carries p
  | .readEntry _ p => carries p
  | .snapshotSelect _ p => carries p
  | .snapshot _ p => carries p
  | .nextNotice _ p => carries p
  | .noticeEnable _ p => carries p
  | .incidentRead _ p => carries p
  | .incidentAck _ p => carries p
  | .resetCauseRead _ p => carries p
  | _ => true

/-- The nine checks of COMMIT by number, as the table of R16 gives when each passes. -/
def CommitCheck (s : State) (n : Nat) : Prop :=
  let p := s.params
  match n with
  | 1 => p.midStop = 0 ∨ (1000 ≤ p.midStop ∧ p.midStop + 1000 ≤ p.trackLen)
  | 2 =>
    (s.cfg.profile.map (·.start)).head? = some 0 ∧ s.cfg.profile.Pairwise (fun t u => t.start < u.start) ∧
      ∀ t ∈ s.cfg.profile, t.start < p.trackLen ∧ p.vcreep ≤ t.limit ∧ t.limit ≤ p.vmax
  | 3 =>
    (∀ x ∈ s.cfg.markers, x ≤ p.trackLen) ∧ s.cfg.markers.Pairwise (fun x y => x + (2 * p.mkTol + 1) ≤ y)
  | 4 =>
    ∀ l ∈ s.cfg.lanes, gateOfBerth (berthOf l.platform) = l.id.gate ∧ (isBoard l.platform = true ↔ l.kind = .entry) ∧
      (p.midStop = 0 → gateOfBerth (berthOf l.platform) ≠ .mid)
  | 5 => p.vcreep ≤ p.vinsp ∧ p.vinsp ≤ p.vred ∧ p.vred ≤ p.vmax ∧ p.vmax + p.vmax * p.kSrv / 128 < p.vabs
  | 6 => p.aFloor ≤ p.aNom
  | 7 => p.kWarn ≤ p.kSrv ∧ p.kSrv + 16 ≤ p.kEm
  | 8 => p.overshootTol < p.ovtTol
  | 9 => ∀ c, (s.adm.loads.get c).aboard ≤ p.capacity
  | _ => True

/-- Why a gate request is refused for the lane it names: not configured, another station's, or of the wrong kind (R127,
checks 1 to 3). -/
def LaneRefusal (s : State) (st : Station) (r : LaneRef) (k : LaneKind) (why : Reason) : Prop :=
  (namedLane s r = none ∧ why = .badValue) ∨
    ∃ l, namedLane s r = some l ∧
      ((gateStation l.id.gate ≠ st ∧ why = .notYours) ∨ (gateStation l.id.gate = st ∧ l.kind ≠ k ∧ why = .badValue))

/-- A reservation of another lane than `id` is open. -/
def othersWait (s : State) (id : LaneId) : Bool := s.adm.reservations.any fun r => r.lane ≠ id

/-- A trip in RELEASE in `t`, entered from `s` with the stage NONE, both reports fresh and every door LOCKED (R31, R47,
R58, R69, R71, R100): both brakes are lifted, and it is in RUNNING at once where both feedbacks already show RELEASED. -/
def ReleaseEntered (s t : State) : Prop :=
  t.brs.stage = .none ∧ t.brs.causes = s.brs.causes ∧ t.brs.sbHoldoff = true ∧ t.brs.ebHoldoff = true ∧
    t.brs.refreshTimer = some ⟨t.now, t.now + s.params.tDrv⟩ ∧ t.psu.furthest = some s.psu.count ∧
    t.clc.basis = some (if s.psu.ref = .referenced then .profile else .cap) ∧
    t.trc.trip.peak = some 0 ∧ t.trc.trip.margin = none ∧ t.trc.settleTimer = none ∧
    (¬ (s.brs.sbFb = .released ∧ s.brs.ebFb = .released) →
      t.trc.state = .release ∧ t.brs.drivePermit = false ∧
        t.brs.releaseWait = some ⟨t.now, t.now + s.params.brkFbTmo⟩) ∧
    (s.brs.sbFb = .released ∧ s.brs.ebFb = .released →
      t.trc.state = .running ∧ t.brs.drivePermit = true ∧ t.brs.releaseWait = none)

/-- A trip that has entered SETTLE in `t` (R46, R99): the aboard counts are frozen and the derating is formed. It waits
SETTLE_T there, and with a SETTLE_T of 0 it is through to RELEASE at once. -/
def SettleEntered (s t : State) : Prop :=
  t.trc.frozen = ⟨t.adm.loads.a.aboard, t.adm.loads.b.aboard⟩ ∧
    (∀ dir, t.trc.trip.direction = some dir → t.trc.trip.derating = some (deratingOf s.params dir t.trc.frozen)) ∧
    t.dri.doorTimer = none ∧
    (s.params.settleT ≠ 0 →
      t.trc.state = .settle ∧ t.trc.settleTimer = some ⟨t.now, t.now + s.params.settleT⟩ ∧
        t.trc.trip.peak = s.trc.trip.peak ∧ t.trc.trip.margin = s.trc.trip.margin) ∧
    (s.params.settleT = 0 → s.brs.stage = .none → ReleaseEntered s t)

/-- The trip that goes from `s` to its entry to DOORS in `t` (R98, R112, R113, R99, R46): it waits there where a report is
stale or a door not LOCKED; else it is through to SETTLE at once. -/
def DoorsOrSettle (s t : State) : Prop :=
  (allLocked { s with now := t.now } = false →
    t.trc.state = .doors ∧ t.trc.settleTimer = none ∧ t.trc.frozen = s.trc.frozen ∧
      t.trc.trip.derating = s.trc.trip.derating ∧ t.trc.trip.peak = s.trc.trip.peak ∧
      t.trc.trip.margin = s.trc.trip.margin ∧
      t.dri.doorTimer = some ⟨t.now, t.now + s.params.doorTmo * 1000⟩) ∧
    (allLocked { s with now := t.now } = true → SettleEntered s t) ∧
    t.dri.phase = .none ∧ t.dri.leadTimer = none ∧ t.trc.minDwell = none

/-- The last reservation ends in CLOSING (R97, R133): the trip enters DOORS, and SETTLE with it where the doors are LOCKED;
nothing else of the trip changes. -/
def ClosingEnds (s t : State) : Prop :=
  t.adm.reservations = [] ∧ DoorsOrSettle s t ∧
    t.trc =
      { s.trc with
        state := t.trc.state, minDwell := none, settleTimer := t.trc.settleTimer, frozen := t.trc.frozen
        trip :=
          { s.trc.trip with
            derating := t.trc.trip.derating, peak := t.trc.trip.peak, margin := t.trc.trip.margin } } ∧
    KeepsBut [.now, .psu, .clc, .brs, .trc, .dri, .adm, .notices] s t

/-- The entry to DWELL at stop `k` hands each board platform's uncounted count to the car that becomes bound to it (R136). -/
def Transferred (k : Stop) (s t : State) : Prop :=
  (∀ c, (t.adm.loads.get c).aboard = (s.adm.loads.get c).aboard ∧
      (t.adm.loads.get c).alarmMirror = (s.adm.loads.get c).alarmMirror ∧
      (t.adm.loads.get c).uncounted =
        if boundIn s.trc.state (berthAt k c) = none then
          min 255 ((s.adm.loads.get c).uncounted + s.adm.uncounted.get (berthAt k c))
        else (s.adm.loads.get c).uncounted) ∧
    ∀ b, t.adm.uncounted.get b =
      if boundIn s.trc.state b = none ∧ (boundAt k b).isSome then 0 else s.adm.uncounted.get b

/-- A PENDING slot that is not started: EMPTY where its trigger is IMMEDIATE, else ARMED (R91). -/
def dropped : Slot → Slot
  | .pending r => if r.trigger = .immediate then .empty else .armed r
  | v => v

/-- Every slot that was PENDING in `s` is dropped in `t`, after the slot of a trip that has ended is freed, and its owner
has TRIGGER_REFUSED pending (R91). -/
def PendingDropped (cancelled : Bool) (s t : State) : Prop :=
  t.trc.slot0 = dropped (freed cancelled s.trc.slot0) ∧ t.trc.slot1 = dropped (freed cancelled s.trc.slot1) ∧
    ∀ id r, slotOf s id = .pending r → isPending (t.niu.notices.get (ownerOf s id).station) .triggerRefused = true

/-- The request that a slot takes its turn with at an expiry of MIN_DWELL (R90, R91): that of a PENDING slot, and that of
one ARMED with trigger DWELL. -/
def turnAtExpiry : Slot → Option TripReq
  | .pending r => some r
  | .armed r => if r.trigger = .dwell then some r else none
  | _ => none

/-- Slot 1 at an expiry of MIN_DWELL at which slot 0's trip has started (R89, R90): one that was PENDING stays PENDING,
and one ARMED with trigger DWELL becomes so unless its mask is yes. -/
def behindStart : Slot → Slot
  | .armed r => if r.trigger = .dwell ∧ r.mask = false then .pending r else .armed r
  | v => v

/-- A slot once a DISPATCH event has come while a trip is in flight (R89): an unmasked one that is ARMED for it is
PENDING. -/
def behindTrip : Slot → Slot
  | .armed r => if r.trigger = .dispatch ∧ r.mask = false then .pending r else .armed r
  | v => v

/-- A cause raised that may be in the set already (R62): it is in the set, and it joined with this detail where it was not. -/
def RaisedWith (c : Cause) (d : Detail) (s t : State) : Prop :=
  hasCause t c = true ∧ (hasCause s c = false → ⟨c, d⟩ ∈ t.brs.causes)

/-- LINE_STATE is pending for every master, with the change as its detail where it was not pending before (R143). -/
def LineStateHanded (old new : LineState) (s t : State) : Prop := ∀ st, Handed .lineState (.line old new) st s t

/-- The incident of a cause captured as the BRS hands it, with the stage `stage` after the raising (R62, R171, R172): the
record is appended, in a full list in place of the oldest acknowledged one; where there is none, the overflow count goes
up instead. That the record shows the trip state before the trip reacts is log 8. -/
def Captured (c : Cause) (stage : Stage) (s t : State) : Prop :=
  let inTrip : Bool := s.trc.state = .settle ∨ isMoving s.trc.state
  let record : Incident :=
    { seq := s.niu.seq, cause := .cause c, stage := stage, tripNumber := s.trc.trip.number, tripState := s.trc.state
      p := pos s, v := s.psu.vEval, c := s.clc.c
      aboardA := if inTrip then s.trc.frozen.a else s.adm.loads.a.aboard
      aboardB := if inTrip then s.trc.frozen.b else s.adm.loads.b.aboard
      read := false, acked := false }
  if s.niu.incidents.length < 16 ∨ s.niu.incidents.any (·.acked) = true then
    t.niu.incidents =
      (if s.niu.incidents.length < 16 then s.niu.incidents else s.niu.incidents.eraseP (·.acked)) ++ [record] ∧
      t.niu.seq = (s.niu.seq + 1) % 65536 ∧ t.niu.overflow = s.niu.overflow ∧
      Handed .incidentCaptured (.incident s.niu.seq (.cause c)) .con s t
  else
    t.niu.incidents = s.niu.incidents ∧ t.niu.seq = s.niu.seq ∧ t.niu.overflow = min 255 (s.niu.overflow + 1) ∧
      Handed .incidentOverflow (.overflow t.niu.overflow) .con s t

/-! ### Checks taken in order -/

/-- What a list of checks numbered `lo` to `hi` finds: nothing exactly where each holds, else the reason of the first that
does not. -/
def FirstFailure {α : Type} (lo hi : Nat) (holds : Nat → Prop) (reason : Nat → α → Prop) (found : Option α) : Prop :=
  (found = none ↔ ∀ n, lo ≤ n → n ≤ hi → holds n) ∧
    ∀ why, found = some why →
      ∃ n, lo ≤ n ∧ n ≤ hi ∧ ¬ holds n ∧ (∀ m, lo ≤ m → m < n → holds m) ∧ reason n why

/-- A car's report is fresh as it is read (R39, log 6). -/
def FreshReport (s : State) (c : Car) : Prop := (s.cru.get c).fresh = true ∧ reportAge s c ≤ s.params.tCar

/-- The car that CAR_STALE names (R93, R144): car A where its report is stale, else car B. -/
def FirstStale (s : State) (c : Car) : Prop := ¬ FreshReport s c ∧ (c = .b → FreshReport s .a)

/-- P is at stop `k` (R2). -/
def AtStop (s : State) (k : Stop) : Prop :=
  stopExists s.params k = true ∧ (pos s - stopPos s.params k).natAbs ≤ s.params.alignTol

/-- Conditions 1 to 6 of the table of R93 for a slot of `owner` and the trip mode `mode`. -/
def DepartureHolds (s : State) (owner : Owner) (mode : Mode) (n : Nat) : Prop :=
  match n with
  | 1 => s.lsu.line = .inService ∨ (s.lsu.line = .inspection ∧ owner = .con ∧ mode = .inspection)
  | 2 => s.brs.stage = .none
  | 3 => ∀ c, FreshReport s c
  | 4 => ∀ c, (s.cru.get c).latch = false
  | 5 => mode ≠ .inspection → s.psu.ref = .referenced
  | 6 => mode ≠ .inspection → ∀ c, (s.adm.loads.get c).uncounted = 0
  | _ => True

/-- The reason on failure of conditions 1 to 6 (R93); conditions 4 and 6 name a car that fails them (log 44). -/
def DepartureReason (s : State) (n : Nat) (why : Reason) : Prop :=
  match n with
  | 1 => why = .wrongState
  | 2 => why = .causePresent (.stage none)
  | 3 => ∃ c, FirstStale s c ∧ why = .causePresent (.carStale c)
  | 4 => ∃ c, (s.cru.get c).latch = true ∧ why = .causePresent (.alarm c)
  | 5 => why = .causePresent .unreferenced
  | 6 => ∃ c, (s.adm.loads.get c).uncounted ≠ 0 ∧ why = .causePresent (.uncounted c)
  | _ => False

/-- The column SHUTTLE-EXPRESS of the table of R94. -/
def ExpressTo (last : Option TripDir) (k j : Stop) : Prop :=
  (k = .bottom → j = .top) ∧ (k = .top → j = .bottom) ∧
    (k = .middle → (last = some .downA → j = .bottom) ∧ (last ≠ some .downA → j = .top))

/-- The stop to which a destination resolves at stop `k` (R94). -/
def ResolvesTo (p : Params) (last : Option TripDir) (k : Stop) (d : Destination) (j : Stop) : Prop :=
  match d with
  | .stop i => j = i
  | .shuttleExpress => ExpressTo last k j
  | .shuttleAll =>
    (p.midStop = 0 → ExpressTo last k j) ∧
      (p.midStop ≠ 0 → (k ≠ .middle → j = .middle) ∧ (k = .middle → ExpressTo last k j))

/-- What the departure test finds (R86, R93, R94): conditions 1 to 6 for the more restrictive of the requested and the
effective mode, then a resolved destination other than the stop of the dwell. -/
def DepartureRules (s : State) : Prop :=
  (∀ owner mode, FirstFailure 1 6 (DepartureHolds s owner mode) (DepartureReason s) (preconditions s owner mode)) ∧
    (∀ m n : Mode, (restrict m n = .inspection ↔ m = .inspection ∨ n = .inspection) ∧
      (restrict m n = .normal ↔ m = .normal ∧ n = .normal)) ∧
    (∀ last k d, ResolvesTo s.params last k d (resolve s.params last k d)) ∧
    ∀ id r k, departureTest s id r k =
      (preconditions s (ownerOf s id) (restrict r.mode s.trc.effMode)).or
        (if resolve s.params s.trc.trip.lastDir k r.dest = k then some (.causePresent .atDestination) else none)

/-- The owners of the slots (R82), the slot a request is for, and the fields and the line state it is taken with (R83,
checks 1 to 3). That the one-shot and mask fields are looked at with check 2 is log 45. -/
def RequestRules (s : State) : Prop :=
  ((s.params.slotMode = .shared → ownerOf s .slot0 = .drv ∧ ownerOf s .slot1 = .con) ∧
      (s.params.slotMode = .consoleBoth → ∀ id, ownerOf s id = .con) ∧
      (s.params.slotMode = .driveBoth → ∀ id, ownerOf s id = .drv) ∧ roleOf .drv = .drv ∧ roleOf .con = .con) ∧
    (∀ st, slotGiven s st (some 0) = some .slot0 ∧ slotGiven s st (some 1) = some .slot1 ∧
      (∀ n, 2 ≤ n → slotGiven s st (some n) = none) ∧
      slotGiven s st none = some (if s.params.slotMode = .shared ∧ st = .con then .slot1 else .slot0)) ∧
    (∀ st n id, resolveSlot s st n = some id ↔ slotGiven s st n = some id ∧ ownerOf s id = roleOf st) ∧
    (∀ f r, requestFields s f = some r ↔
      f.dest = .listed r.dest ∧ f.mode = .listed r.mode ∧ f.trigger = .listed r.trigger ∧ f.oneShot = .listed r.oneShot ∧
        f.mask = .listed r.mask ∧ ∀ k, r.dest = .stop k → stopExists s.params k = true) ∧
    ∀ st, takesTrips s st = true ↔ s.lsu.line = .inService ∨ (s.lsu.line = .inspection ∧ st = .con)

/-- The persisting causes of R79 in its order, each as the condition under which it does not hold. -/
def NotPersisting (s : State) (n : Nat) : Prop :=
  match n with
  | 1 => ∀ c, FreshReport s c
  | 2 =>
    (∀ c, FreshReport s c → (s.cru.get c).poll.left = .locked ∧ (s.cru.get c).poll.right = .locked) ∨
      (s.psu.ref = .referenced ∧ ∃ k, AtStop s k)
  | 3 => hasCause s .sbFail = true → s.brs.sbFb = .applied
  | 4 => hasCause s .ebFail = true → s.brs.ebFb = .applied
  | _ => True

/-- The name of each persisting cause (R79). -/
def PersistingName (n : Nat) (why : SubReason) : Prop :=
  match n with
  | 1 => why = .carSilent
  | 2 => why = .doorOpen
  | 3 => why = .sbFail
  | 4 => why = .ebFail
  | _ => False

/-- Checks 2 to 8 of OPEN, as the table of R144 gives them. -/
def OpenHolds (s : State) (n : Nat) : Prop :=
  match n with
  | 2 => s.cfg.committed = true
  | 3 => s.psu.ref = .referenced
  | 4 => ∃ k, AtStop s k
  | 5 => s.psu.still = true
  | 6 => s.brs.stage = .none
  | 7 => ∀ c, FreshReport s c
  | 8 => ∃ t, s.brs.lastRefresh = some t ∧ s.now - t ≤ s.params.tDrv
  | _ => True

/-- What each check of OPEN reports (R144). -/
def OpenReason (s : State) (n : Nat) (why : SubReason) : Prop :=
  match n with
  | 2 => why = .uncommitted
  | 3 => why = .unreferenced
  | 4 => why = .offStop (pos s)
  | 5 => why = .notStill
  | 6 => why = .stage (s.brs.causes.head?.map (·.cause))
  | 7 => ∃ c, FirstStale s c ∧ why = .carStale c
  | 8 => why = .driveSilent (s.brs.lastRefresh.map (s.now - ·))
  | _ => False

/-! ### Where a person is counted (R3, R129) -/

/-- A car is bound to a platform (R3): the line dwells, or its doors close, at a stop at which the car stands there. -/
def BoundTo (s : State) (pf : Platform) (c : Car) : Prop :=
  ∃ k, (s.trc.state = .dwell k ∨ s.trc.state = .closing k) ∧ berthAt k c = berthOf pf

/-- The place at which a late or unauthorised person is counted (R129). -/
def PersonCountedAt (s : State) (pf : Platform) (place : CountedAt) : Prop :=
  (∀ c, BoundTo s pf c →
      ((s.adm.loads.get c).aboard + (s.adm.reservations.filter fun r => r.car = c).length < s.params.capacity →
        place = .aboard c) ∧
      (s.params.capacity ≤ (s.adm.loads.get c).aboard + (s.adm.reservations.filter fun r => r.car = c).length →
        place = .uncounted c)) ∧
    ((∀ c, ¬ BoundTo s pf c) → place = .platform pf)

/-! ### The events that time brings (log 3) -/

/-- The timer runs and its due time has come. -/
def TimerDue (s : State) (t : Option Timer) : Prop := ∃ tm, t = some tm ∧ tm.due ≤ s.now

/-- The dispatcher's line has passed the 2 ms filter to the level `v` and held it for 50 ms (R87, R164, log 16): it stands
filtered at `v` that long and the input has not left it before, or it is on its way there. -/
def LineHeld (s : State) (v : Bool) : Prop :=
  s.trc.debounced ≠ v ∧
    ((s.pins.dispatchLine.level = v ∧ s.pins.dispatchLine.since + 50 ≤ s.now ∧
        (s.pins.dispatchIn.level = v ∨ s.pins.dispatchLine.since + 50 ≤ s.pins.dispatchIn.since + 2)) ∨
      (s.pins.dispatchLine.level ≠ v ∧ s.pins.dispatchIn.level = v ∧ s.pins.dispatchIn.since + 52 ≤ s.now))

/-- The events whose time has come: a sample, an expiry, a lapse, a report older than T_CAR, a feedback input that has
stood at a new level for 2 ms, and a dispatcher's line that has held one. -/
def EventDue (s : State) (i : Instr) : Prop :=
  match i with
  | .speedSample => s.psu.sampleTimer.due ≤ s.now
  | .driveRefreshTimerExpiry => TimerDue s s.brs.refreshTimer
  | .releaseWaitExpiry => TimerDue s s.brs.releaseWait
  | .applyTimerExpiry .service => TimerDue s s.brs.sbApply
  | .applyTimerExpiry .emergency => TimerDue s s.brs.ebApply
  | .minDwellExpiry => TimerDue s s.trc.minDwell
  | .settleTimerExpiry => TimerDue s s.trc.settleTimer
  | .leadTimerExpiry => TimerDue s s.dri.leadTimer
  | .doorCloseTimerExpiry => TimerDue s s.dri.doorTimer
  | .lapse id => ∃ r ∈ s.adm.reservations, r.lane = id ∧ r.timer.due ≤ s.now
  | .carReportStale c => (s.cru.get c).fresh = true ∧ s.params.tCar < reportAge s c
  | .brakeFeedbackChange .service v => s.pins.sbIn.level = v ∧ s.brs.sbFb ≠ v ∧ s.pins.sbIn.since + 2 ≤ s.now
  | .brakeFeedbackChange .emergency v => s.pins.ebIn.level = v ∧ s.brs.ebFb ≠ v ∧ s.pins.ebIn.since + 2 ≤ s.now
  | .dispatch => LineHeld s true
  | .debouncedLevelFall => LineHeld s false
  | _ => False

/-! ### Door release permits (R108, R109) -/

/-- The platform ground (R109): in service in DWELL or CLOSING with the stage NONE, the side is the stored door side of the
alight platform bound to the car, or in phase BOARDING of its board platform. -/
def OnPlatform (s : State) (c : Car) (d : Side) : Prop :=
  s.lsu.line = .inService ∧ s.brs.stage = .none ∧
    ∃ k, (s.trc.state = .dwell k ∨ s.trc.state = .closing k) ∧
      (s.cfg.doorSide.alight.get (berthAt k c) = d ∨
        (s.dri.phase = .boarding ∧ s.cfg.doorSide.board.get (berthAt k c) = d))

/-- When the release permit of side `d` of a car is on (R108): the line is held for the car, and a ground stands. -/
def ReleasePermitted (s : State) (c : Car) (d : Side) : Prop :=
  (s.brs.drivePermit = false ∧ s.psu.still = true ∧ s.brs.sbFb = .applied ∧
      (s.cru.get c).fresh = true ∧ reportAge s c ≤ s.params.tCar) ∧
    (OnPlatform s c d ∨
      (s.dri.evac.get c = true ∧ d = s.params.walkwaySide ∧
        (s.trc.state = .stoppedOnLine ∨ s.trc.state = .braking)) ∨
      ((s.dri.maint.get c).get d = true ∧ (s.lsu.line = .closed ∨ s.lsu.line = .inspection) ∧
        inFlight s.trc.state = false))

/-! ### The ceiling (R48 to R54) -/

/-- The integer square root, rounded down (R49). -/
def IsRoot (x r : Nat) : Prop := r * r ≤ x ∧ x < (r + 1) * (r + 1)

/-- Vseg of R50: the limit of the segment with the greatest start at or below max(P, 0). -/
def SegmentTerm (s : State) (x : Nat) : Prop :=
  ∃ g ∈ s.cfg.profile, x = g.limit ∧ (g.start : Int) ≤ max (pos s) 0 ∧
    ∀ h ∈ s.cfg.profile, (h.start : Int) ≤ max (pos s) 0 → h.start ≤ g.start

/-- A term of the look-ahead (R51): of a segment entered strictly beyond P and not beyond the target, on the way up at its
own start and on the way down at the start of the segment above it. -/
def AheadTerm (s : State) (dir : TripDir) (aEff tpos x : Nat) : Prop :=
  match dir with
  | .upA =>
    ∃ g ∈ s.cfg.profile, pos s < g.start ∧ g.start ≤ tpos ∧
      ∃ r, IsRoot (2 * aEff * ((g.start : Int) - pos s).toNat) r ∧ x = g.limit + r
  | .downA =>
    ∃ j g h, s.cfg.profile[j]? = some g ∧ s.cfg.profile[j + 1]? = some h ∧ (h.start : Int) < pos s ∧ tpos ≤ h.start ∧
      ∃ r, IsRoot (2 * aEff * (pos s - h.start).toNat) r ∧ x = g.limit + r

/-- The braking curve Vbc (R48, R49) at the distance to go, which is 0 at and past the target. -/
def CurveTerm (s : State) (dir : TripDir) (aEff tpos x : Nat) : Prop :=
  ∃ r, x = s.params.vcreep + r ∧
    IsRoot (2 * aEff * (match dir with
      | .upA => ((tpos : Int) - pos s).toNat
      | .downA => (pos s - tpos).toNat)) r

/-- A term of the minimum of R54: Vseg, one of Vahead, Vbc, the mode's cap (R52) or the drive's reduction (R53). -/
def CeilingTerm (s : State) (mode : Mode) (dir : TripDir) (aEff tpos x : Nat) : Prop :=
  SegmentTerm s x ∨ AheadTerm s dir aEff tpos x ∨ CurveTerm s dir aEff tpos x ∨
    x = (match mode with
      | .normal => s.params.vmax
      | .reduced => s.params.vred
      | .inspection => s.params.vinsp) ∨
    x = s.clc.vdrv.getD s.params.vmax

/-! ### Markers (R22 to R26) -/

/-- `e` is the marker expected of a car beyond `x` (R25): the nearest whose expected position lies strictly beyond it in
the direction of travel, and none where none does. -/
def ExpectedBeyond (s : State) (c : Car) (dir : TripDir) (x : Int) (e : Option Nat) : Prop :=
  match e with
  | none => ∀ m, m < s.cfg.markers.length → isBeyond dir (expectedPos s c m) x = false
  | some m =>
    m < s.cfg.markers.length ∧ isBeyond dir (expectedPos s c m) x = true ∧
      ∀ o, o < s.cfg.markers.length → isBeyond dir (expectedPos s c o) x = true →
        isBeyond dir (expectedPos s c m) (expectedPos s c o) = false

/-- What a pass under a reference that stays REFERENCED does to the expected markers (R25). -/
def PassAdvances (c : Car) (m : Nat) (s t : State) : Prop :=
  (∀ o, o ≠ c → t.psu.expected.get o = s.psu.expected.get o) ∧
    (∀ e dir, s.psu.expected.get c = some e → s.psu.travelDir = some dir →
      (m = e ∨ isBeyond dir (expectedPos s c m) (expectedPos s c e) = true →
        ExpectedBeyond s c dir (expectedPos s c m) (t.psu.expected.get c)) ∧
      (m ≠ e → isBeyond dir (expectedPos s c m) (expectedPos s c e) = false → t.psu.expected.get c = some e) ∧
      (m ≠ e → isBeyond dir (expectedPos s c m) (expectedPos s c e) = true →
        (isMoving s.trc.state = true → s.trc.trip.mode = some .normal ∨ s.trc.trip.mode = some .reduced →
          RaisedWith .markerMissed (.marker c e) s t) ∧
        (inFlight s.trc.state = false ∨ s.trc.trip.mode = some .inspection →
          isPending (t.niu.notices.get .drv) .fault = true ∧ isPending (t.niu.notices.get .con) .fault = true))) ∧
    (s.psu.expected.get c = none ∨ s.psu.travelDir = none → t.psu.expected.get c = s.psu.expected.get c)

/-- What a reported pass of marker `m` by car `c` does to the position and the reference (R22 to R25): P is set to the
pass's expected position, whatever the reference state. -/
def MarkerPassed (c : Car) (m : Nat) (s t : State) : Prop :=
  t.psu.pRef = expectedPos s c m ∧ t.psu.countRef = s.psu.count ∧ t.psu.count = s.psu.count ∧
    match s.psu.ref with
    | .unreferenced => t.psu.ref = .provisional m c ∧ t.psu.expected = ⟨none, none⟩
    | .provisional anchor car =>
      if anchor = m ∧ car = c then t.psu.ref = s.psu.ref ∧ t.psu.expected = s.psu.expected
      else if (pos s - expectedPos s c m).natAbs ≤ s.params.mkTol then
        t.psu.ref = .referenced ∧
          (s.psu.still = false → ∀ o dir, s.psu.travelDir = some dir →
            ExpectedBeyond s o dir (pos t) (t.psu.expected.get o))
      else t.psu.ref = .provisional m c ∧ t.psu.expected = ⟨none, none⟩
    | .referenced =>
      if (pos s - expectedPos s c m).natAbs ≤ s.params.mkTol then t.psu.ref = .referenced ∧ PassAdvances c m s t
      else
        t.psu.ref = .provisional m c ∧ t.psu.expected = ⟨none, none⟩ ∧
          RaisedWith .position (.position c m (pos s) (expectedPos s c m)) s t

/-- A poll disagrees with the rope (R35): the speeds differ by more than XTOL, or both exceed it and the car's direction is
not the one in which it moves for the rope's. -/
def Disagrees (s : State) (c : Car) (p : Poll) : Prop :=
  s.params.xtol < ((p.speed : Int) - s.psu.vRope).natAbs ∨
    (s.params.xtol < p.speed ∧ s.params.xtol < s.psu.vRope ∧ p.dir ≠ carMoves c s.psu.ropeDir)

/-! ### The samples (R26, R30 to R34) -/

/-- How far in cm the count has fallen back behind the furthest count of a trip in direction `dir` (R31). -/
def fallenBack (s : State) (dir : TripDir) (furthest : Count) : Nat :=
  let ahead : Bool := match dir with
    | .upA => 0 < (s.psu.count - furthest).toInt
    | .downA => (s.psu.count - furthest).toInt < 0
  if ahead then 0 else (furthest - s.psu.count).toInt.natAbs * s.params.kEnc / 65536

/-- How far in cm the count stands from a held count (R32). -/
def drifted (s : State) (held : Count) : Nat := (s.psu.count - held).toInt.natAbs * s.params.kEnc / 65536

/-- P lies more than OVERSHOOT_TOL past the target of a trip (R34). -/
def Overshot (s : State) : Prop :=
  ∃ tpos, s.trc.trip.tpos = some tpos ∧
    ((s.trc.trip.direction = some .upA ∧ (s.params.overshootTol : Int) < pos s - tpos) ∨
      (s.trc.trip.direction = some .downA ∧ (s.params.overshootTol : Int) < tpos - pos s))

/-- A monitor of a sample (R30): where its condition holds it is disarmed, and its cause is raised with P, v_eval and the
trip state where it was armed; where its condition does not hold it is armed. The trip state in the detail is that of `s`
unless one of the causes `before`, whose monitors come first, has been raised at the sample. -/
def Monitored (cause : Cause) (before : List Cause) (was is : Bool) (holds : Prop) (s t : State) : Prop :=
  (holds → is = false ∧
    (was = true → hasCause t cause = true ∧
      (hasCause s cause = false →
        ∃ h ∈ t.brs.causes, ∃ ts, h = ⟨cause, .motion (pos s) t.psu.vEval ts⟩ ∧
          ((∀ e ∈ before, hasCause t e = hasCause s e) → ts = s.trc.state)))) ∧
    (¬ holds → is = true)

/-- The missed-marker check of a car at a sample that finds it moving in direction `dir` with marker `e` expected (R26). -/
def MissChecked (c : Car) (e : Nat) (dir : TripDir) (s t : State) : Prop :=
  (isBeyond dir (pos s) (expectedPos s c e) = true ∧ s.params.mkMiss < (pos s - expectedPos s c e).natAbs →
    ExpectedBeyond s c dir (expectedPos s c e) (t.psu.expected.get c) ∧
      (isMoving s.trc.state = true → s.trc.trip.mode = some .normal ∨ s.trc.trip.mode = some .reduced →
        hasCause t .markerMissed = true) ∧
      (inFlight s.trc.state = false ∨ s.trc.trip.mode = some .inspection →
        isPending (t.niu.notices.get .drv) .fault = true ∧ isPending (t.niu.notices.get .con) .fault = true)) ∧
    (¬ (isBeyond dir (pos s) (expectedPos s c e) = true ∧ s.params.mkMiss < (pos s - expectedPos s c e).natAbs) →
      t.psu.expected.get c = some e)

end Sys2Proof.Machine
end

