-- ==== Sys2Proof/Certificates/Slice0/Obligations.lean ====
section
/-! DEFINITION. The statements about the 2260, from the numbered rules of the spec. `Replied`, `KeepsBut` and the
invariants are in Safety.lean. -/

open Sys2Proof Sys2Proof.Machine

/-- O1. For every command and state, a step with that command at the front of the queue is exec of it on the state with
the queue's rest. The queue is the model's (log 5). Rests on: What each step holds (95_what_each_step_holds.md). -/
def Obligations.StepRunsFrontCommand : Prop :=
  ∀ (c : Instr) (s : State), step { s with pending := c :: s.pending } = exec c s

/-- O2. On an empty queue a step answers the same state one millisecond later, with the events then due in the queue, and
none while RESET_N is low. An event is due exactly where its time has come: the sample timer or a running timer has
reached its due time, a reservation its own, a fresh record is older than T_CAR, a feedback input has stood at a new
level for 2 ms, or the dispatcher's line has held a new level for 50 ms behind its 2 ms filter; no other command is.
That an idle step is a tick is the model's choice (log 3), and so are the order in which events due together join (log
35), when an input's level counts as held (log 16), and that staleness is judged so (log 6). Rests on: section 2.4
(02_position_speed_and_car_reports.md); section 9.11 (09_the_line_bus.md); section 2.8
(02_position_speed_and_car_reports.md); section 4.6 (04_brake_supervision.md); section 5.3
(05_trip_requests_and_the_trip.md). -/
def Obligations.IdleStepIsOneMillisecond : Prop :=
  (∀ s : State, s.pending = [] →
    step s = .next
      { s with
        now := s.now + 1
        pending := if s.pins.resetLow then [] else dueEvents { s with now := s.now + 1 } }) ∧
  ∀ (s : State) (i : Instr), i ∈ dueEvents s ↔ EventDue s i

/-- O3. For every command and every state, exec answers a next state, and the queue in it is the queue it was given. That
there is a queue of waiting commands is the model's choice (log 5), and so is that no reset changes it (log 31); the
sections cited say that each command has an effect or a refusal. Rests on: What each step holds
(95_what_each_step_holds.md); section 9.4 (09_the_line_bus.md). -/
def Obligations.EveryCommandAnswersAndKeepsTheQueue : Prop :=
  ∀ (c : Instr) (s : State), ∃ t, exec c s = .next t ∧ t.pending = s.pending

/-- O4. For every request command of every line of the catalogue, from a station that the line does not permit, with
RESET_N high: the reply is NOT_YOURS, for a configuration request or read with the committed mark that every reply to
one carries, for any other with an empty payload; and nothing else changes. That the refusal of a TRIP REQUEST names
no slot here is the model's choice (log 18). Rests on: section 9.4 (09_the_line_bus.md); section 9.7
(09_the_line_bus.md); section 1.4 (01_line_description_and_configuration.md); section 1.9
(01_line_description_and_configuration.md). -/
def Obligations.UnpermittedStationIsRefused : Prop :=
  ∀ (c : Instr) (r : Request) (st : Station) (bs : List Byte) (s : State),
    requestParts c = some (r, st, bs) → s.pins.resetLow = false → permitted (catalogue r).permit st = false →
      ∃ t, exec c s = .next t ∧ Replied r st (.refused .notYours)
        (if isStoreRequest r then .cfg .nothing s.cfg.committed else .nothing) t ∧ KeepsBut [] s t

/-- O5. With RESET_N high: a request of every line of the catalogue from a permitted station whose payload does not carry
its fields is refused BAD_REQUEST, for a configuration request or read with the committed mark that every reply to one
carries; so is a car poll of another length than seven bytes, and a frame whose head names no request or no station,
with its head echoed. A discarded frame and a reply collision leave no reply. None of these changes anything else.
Which payloads carry no fields is in part the model's choice (log 42), and so are the attention mark of an unknown
frame (log 37), that such a frame with a configuration request's code gets no committed mark (log 24) and a refused
TRIP REQUEST that names no slot (log 18). Rests on: section 9.3 (09_the_line_bus.md); section 9.4
(09_the_line_bus.md); section 9.5 (09_the_line_bus.md); section 1.4 (01_line_description_and_configuration.md). -/
def Obligations.BadFramesChangeNothing : Prop :=
  (∀ (c : Instr) (r : Request) (st : Station) (bs : List Byte) (s : State),
    requestParts c = some (r, st, bs) → carriesFields c = false → Heard r st s →
      ∃ t, exec c s = .next t ∧
        Replied r st (.refused .badRequest) (if isStoreRequest r then .cfg .nothing s.cfg.committed else .nothing) t ∧
        KeepsBut [] s t) ∧
  (∀ (st : Station) (bs : List Byte) (s : State), Heard .carPoll st s → bs.length ≠ 7 →
      ∃ t, exec (.carPoll st bs) s = .next t ∧ Replied .carPoll st (.refused .badRequest) .nothing t ∧
        KeepsBut [] s t) ∧
  (∀ (h : Head) (s : State), s.pins.resetLow = false → headUnknown h = true →
      ∃ t, exec (.unknownRequestFrame h) s = .next t ∧ KeepsBut [] s t ∧
        t.lbp.reply = some
          { status := .refused .badRequest
            attention := match stationOf h.station.toNat with
              | some st => attention s st
              | none => false
            cls := h.cls, station := h.station, code := h.code, data := .nothing }) ∧
  (∀ (why : DiscardCause) (s : State),
    exec (.frameDiscarded why) s = .next { s with lbp := { s.lbp with reply := none } }) ∧
  (∀ s : State, exec .replyCollision s = .next { s with lbp := { s.lbp with reply := none } })

/-- O6. While RESET_N is low, every command but those of the pins, the resets and the supply leaves the state as it is, or
drops the reply alone. That events are lost while the pin is held is the model's choice (log 14). Rests on: section
9.3 (09_the_line_bus.md); section 9.11 (09_the_line_bus.md). -/
def Obligations.LowResetPinSilencesThePart : Prop :=
  ∀ (c : Instr) (s : State), s.pins.resetLow = true → isPinCommand c = false →
    exec c s = .next s ∨ exec c s = .next { s with lbp := { s.lbp with reply := none } }

/-- O7. From every state in which no kind is pending twice for a master, a latched kind is pending, and a master with an
eligible notice has one latched, every step gives such a state. Rests on: section 10.1
(10_notices_incidents_and_reset_causes.md); section 9.8 (09_the_line_bus.md). -/
def Obligations.EveryStepKeepsLatching : Prop :=
  ∀ s t : State, LatchInv s → step s = .next t → LatchInv t

/-- O8. Latching a record that holds no latched notice latches an eligible kind before which no other eligible kind comes
in priority or, at the same priority, in the table of notices; it latches none only where none is eligible. A record
that holds a latched notice is left as it is, and the pending and enable sets are never changed. Rests on: section
10.1 (10_notices_incidents_and_reset_causes.md). -/
def Obligations.LatchPicksHighestPriority : Prop :=
  ∀ r : NoticeRecord,
    (latch r).pending = r.pending ∧ (latch r).enabled = r.enabled ∧
    (r.latched.isSome = true → latch r = r) ∧
    (r.latched = none → (latch r).latched = none → eligible r = []) ∧
    (r.latched = none → ∀ k, (latch r).latched = some k →
      k ∈ eligible r ∧ ∀ j ∈ eligible r,
        priority k < priority j ∨ (priority k = priority j ∧ allNoticeKinds.idxOf k ≤ allNoticeKinds.idxOf j))

/-- O9. For every step and every record kind: if the record shows something else after the step than before it, less its
ages and remaining times, then it is fresh for every master. A command that is no reset leaves the mark of a record
that it does not change as it was, for every master but the requester of a SNAPSHOT, which clears its own. That a
record is compared before and after a command, so that one that a command changes and changes back keeps its marks, is
the model's choice, and so is that whether an age is shown at all counts as a field of the record (log 20), and so is
that a report's freshness is compared as its fresh field (log 6). Rests on: section 9.9 (09_the_line_bus.md). -/
def Obligations.FreshMarksFollowChanges : Prop :=
  (∀ s t : State, step s = .next t →
    ∀ (k : SnapKind) (st : Station), recordCore s k ≠ recordCore t k → k ∈ t.lbp.fresh.get st) ∧
  (∀ (c : Instr) (s t : State), exec c s = .next t → isReset c = false →
    ∀ (k : SnapKind) (st : Station), (∀ p, c ≠ .snapshot st p) → recordCore s k = recordCore t k →
      (k ∈ t.lbp.fresh.get st ↔ k ∈ s.lbp.fresh.get st))

/-- O10. SNAPSHOT SELECT of listed kinds sets the requester's selection to them in the fixed order and its continuation
point to the first, and leaves every fresh mark as it is; a list with an unlisted kind is refused BAD_VALUE. SNAPSHOT
carries the kinds that fit from the continuation point on, moves it to the first kind left or, where none is left, to
the first selected, and clears the requester's fresh marks of the records carried alone. Nothing else changes. Rests
on: section 9.9 (09_the_line_bus.md). -/
def Obligations.SnapshotRequests : Prop :=
  (∀ (st : Station) (ks : List SnapKind) (s : State), s.pins.resetLow = false →
    ∃ t, exec (.snapshotSelect st (.fields (ks.map .listed))) s = .next t ∧
      Replied .snapshotSelect st .ok .nothing t ∧
      t.lbp.selection.get st = allSnapKinds.filter (fun k => ks.contains k) ∧
      t.lbp.continuation.get st = (allSnapKinds.filter (fun k => ks.contains k)).head? ∧
      (∀ other, other ≠ st → t.lbp.selection.get other = s.lbp.selection.get other ∧
        t.lbp.continuation.get other = s.lbp.continuation.get other) ∧
      (∀ other k, k ∈ t.lbp.fresh.get other ↔ k ∈ s.lbp.fresh.get other) ∧ KeepsBut [.selections] s t) ∧
  (∀ (st : Station) (ks : List (Coded SnapKind)) (s : State), s.pins.resetLow = false → allListed ks = none →
    ∃ t, exec (.snapshotSelect st (.fields ks)) s = .next t ∧
      Replied .snapshotSelect st (.refused .badValue) .nothing t ∧
      (∀ other k, k ∈ t.lbp.fresh.get other ↔ k ∈ s.lbp.fresh.get other) ∧ KeepsBut [] s t) ∧
  (∀ (st : Station) (s : State) (carried left : List SnapKind), s.pins.resetLow = false →
    fitting s 238 (kindsFrom (s.lbp.continuation.get st) (s.lbp.selection.get st)) = (carried, left) →
    ∃ t, exec (.snapshot st (.fields ())) s = .next t ∧
      Replied .snapshot st .ok
        (.snapshot (carried.map (snapRecord s st)) (t.lbp.continuation.get st)) t ∧
      t.lbp.continuation.get st = left.head?.or (s.lbp.selection.get st).head? ∧
      t.lbp.selection = s.lbp.selection ∧
      (∀ other, other ≠ st → t.lbp.continuation.get other = s.lbp.continuation.get other) ∧
      (∀ k, k ∈ t.lbp.fresh.get st ↔ k ∈ s.lbp.fresh.get st ∧ k ∉ carried) ∧
      (∀ other k, other ≠ st → (k ∈ t.lbp.fresh.get other ↔ k ∈ s.lbp.fresh.get other)) ∧
      KeepsBut [.selections] s t)

/-- O11. For every list of kinds and every room: the kinds carried and the kinds left are together the list; the records
carried take no more than the room; and the first kind left, if any, would not fit after them. Rests on: section 9.9
(09_the_line_bus.md). -/
def Obligations.SnapshotCarriesWhatFits : Prop :=
  ∀ (s : State) (room : Nat) (ks carried left : List SnapKind), fitting s room ks = (carried, left) →
    carried ++ left = ks ∧
    (carried.map (recordSize s)).sum ≤ room ∧
    (∀ k, left.head? = some k → room < (carried.map (recordSize s)).sum + recordSize s k)

/-- O12. NEXT NOTICE with a latched notice carries it with the number of kinds that remain, and the kind leaves the
requester's pending set; without one it carries NONE and changes nothing. NOTICE ENABLE of listed kinds replaces the
requester's enable set; an unlisted one is refused. INCIDENT READ of a held record carries it and marks it read;
INCIDENT ACK marks a read record acknowledged while flag protection is not in force. A number not held is refused
BAD_VALUE, an unread record WRONG_STATE, a protected one PROTECTED. Nothing else changes. That a read reply shows the
mark set is the model's choice (log 23), and so is that the oldest of two held records with one number is reached (log
33). Rests on: section 10.1 (10_notices_incidents_and_reset_causes.md); section 10.2
(10_notices_incidents_and_reset_causes.md). -/
def Obligations.NoticeAndIncidentRequests : Prop :=
  (∀ (st : Station) (s : State), s.pins.resetLow = false → (s.niu.notices.get st).latched = none →
    ∃ t, exec (.nextNotice st (.fields ())) s = .next t ∧
      Replied .nextNotice st .ok (.notice none (s.niu.notices.get st).pending.length) t ∧ KeepsBut [] s t) ∧
  (∀ (st : Station) (k : NoticeKind) (n : Pending) (s : State), s.pins.resetLow = false →
    (s.niu.notices.get st).latched = some k → (s.niu.notices.get st).pending.find? (fun m => m.kind = k) = some n →
    ∃ t, exec (.nextNotice st (.fields ())) s = .next t ∧
      Replied .nextNotice st .ok (.notice (some n) (t.niu.notices.get st).pending.length) t ∧
      (t.niu.notices.get st).pending = (s.niu.notices.get st).pending.filter (fun m => m.kind ≠ k) ∧
      (t.niu.notices.get st).enabled = (s.niu.notices.get st).enabled ∧
      (∀ other, other ≠ st → (t.niu.notices.get other).pending = (s.niu.notices.get other).pending ∧
        (t.niu.notices.get other).enabled = (s.niu.notices.get other).enabled) ∧
      KeepsBut [.notices] s t) ∧
  (∀ (st : Station) (ks : List NoticeKind) (s : State), s.pins.resetLow = false →
    ∃ t, exec (.noticeEnable st (.fields (ks.map .listed))) s = .next t ∧
      Replied .noticeEnable st .ok .nothing t ∧
      (∀ k, k ∈ (t.niu.notices.get st).enabled ↔ k ∈ ks) ∧
      (t.niu.notices.get st).pending = (s.niu.notices.get st).pending ∧
      (∀ other, other ≠ st → (t.niu.notices.get other).pending = (s.niu.notices.get other).pending ∧
        (t.niu.notices.get other).enabled = (s.niu.notices.get other).enabled) ∧
      KeepsBut [.notices] s t) ∧
  (∀ (st : Station) (ks : List (Coded NoticeKind)) (s : State), s.pins.resetLow = false → allListed ks = none →
    ∃ t, exec (.noticeEnable st (.fields ks)) s = .next t ∧
      Replied .noticeEnable st (.refused .badValue) .nothing t ∧ KeepsBut [] s t) ∧
  (∀ (seq : Int) (i : Incident) (s : State), s.pins.resetLow = false → incidentAt s seq = some i →
    ∃ t, exec (.incidentRead .con (.fields seq)) s = .next t ∧
      Replied .incidentRead .con .ok (.incident { i with read := true }) t ∧
      t.niu.incidents = onFirst seq (fun j => { j with read := true }) s.niu.incidents ∧
      t.niu.overflow = s.niu.overflow ∧ t.niu.seq = s.niu.seq ∧ KeepsBut [.incidents] s t) ∧
  (∀ (seq : Int) (i : Incident) (s : State), s.pins.resetLow = false → incidentAt s seq = some i → i.read = true →
    flagProtection s = false →
    ∃ t, exec (.incidentAck .con (.fields seq)) s = .next t ∧ Replied .incidentAck .con .ok .nothing t ∧
      t.niu.incidents = onFirst seq (fun j => { j with acked := true }) s.niu.incidents ∧
      t.niu.overflow = s.niu.overflow ∧ t.niu.seq = s.niu.seq ∧ KeepsBut [.incidents] s t) ∧
  (∀ (seq : Int) (s : State), s.pins.resetLow = false →
    (incidentAt s seq = none →
      (∃ t, exec (.incidentRead .con (.fields seq)) s = .next t ∧
        Replied .incidentRead .con (.refused .badValue) .nothing t ∧ KeepsBut [] s t) ∧
      ∃ t, exec (.incidentAck .con (.fields seq)) s = .next t ∧
        Replied .incidentAck .con (.refused .badValue) .nothing t ∧ KeepsBut [] s t) ∧
    (∀ i, incidentAt s seq = some i → i.read = false →
      ∃ t, exec (.incidentAck .con (.fields seq)) s = .next t ∧
        Replied .incidentAck .con (.refused .wrongState) .nothing t ∧ KeepsBut [] s t) ∧
    (∀ i, incidentAt s seq = some i → i.read = true → flagProtection s = true →
      ∃ t, exec (.incidentAck .con (.fields seq)) s = .next t ∧
        Replied .incidentAck .con (.refused .flagProtected) .nothing t ∧ KeepsBut [] s t))

/-- O13. Power-on reset makes the reset cause set exactly POWER; a pin reset, with RESET_N pulled low and released again
or a held one released, adds PIN to the set as it stood, and an accepted RESET PART adds CONSOLE. The RESET-CAUSE
record shows the set. RESET CAUSE READ is refused NOT_YOURS from any station but CON; from CON its reply carries the
set, which is then emptied, or, under flag protection, is refused PROTECTED and left. It changes nothing else. Rules:
R174. -/
def Obligations.ResetCausesRule : Prop :=
  (∀ s : State, ∃ t, exec .powerOnReset s = .next t ∧
    t.niu.resetCauses = { power := true, pin := false, console := false }) ∧
  (∀ s : State, ∃ t, exec (.pinReset true) s = .next t ∧ t.niu.resetCauses = { s.niu.resetCauses with pin := true }) ∧
  (∀ s : State, s.pins.resetLow = true →
    ∃ t, exec .resetPinReleased s = .next t ∧ t.niu.resetCauses = { s.niu.resetCauses with pin := true }) ∧
  (∀ s : State, s.pins.resetLow = false → s.lsu.line = .closed → s.psu.still = true →
    ∃ t, exec (.resetPart .con (.fields ())) s = .next t ∧
      t.niu.resetCauses = { s.niu.resetCauses with console := true }) ∧
  (∀ s : State, recordCore s .resetCause = .resetCause s.niu.resetCauses) ∧
  (∀ (st : Station) (s : State), s.pins.resetLow = false → st ≠ .con →
    ∃ t, exec (.resetCauseRead st (.fields ())) s = .next t ∧
      Replied .resetCauseRead st (.refused .notYours) .nothing t ∧ KeepsBut [] s t) ∧
  (∀ s : State, s.pins.resetLow = false → flagProtection s = false →
    ∃ t, exec (.resetCauseRead .con (.fields ())) s = .next t ∧
      Replied .resetCauseRead .con .ok (.resetCauses s.niu.resetCauses) t ∧
      t.niu.resetCauses = { power := false, pin := false, console := false } ∧ KeepsBut [.resetCauses] s t) ∧
  (∀ s : State, s.pins.resetLow = false → flagProtection s = true →
    ∃ t, exec (.resetCauseRead .con (.fields ())) s = .next t ∧
      Replied .resetCauseRead .con (.refused .flagProtected) (.resetCauses s.niu.resetCauses) t ∧ KeepsBut [] s t)

/-- O14. On a CLOSED line, SET PARAMETER of a numeric parameter from CON stores the value given, or the nearer limit of
its range with the status CLAMPED; the reply carries the stored value. Every other parameter, the tables and the door
sides stay; the store is uncommitted. A write of TRACK_LEN, MID_STOP or K_ENC also withdraws the reference and clears
the expected markers, and one of K_ENC takes the present P and count as reference position and count and so leaves P
where it is; nothing else of the position unit changes: that a write of TRACK_LEN leaves the reference position and
count as they stand is the model's choice (log 38). A write of T_CAR outside RELEASE, RUNNING and ARRIVING leaves
fresh exactly the reports that were fresh and are no older than the new value, changes nothing else of the records,
and of the brakes at most the outputs and their apply timers, which stay where they stood as they should. Nothing else
changes. Rests on: section 1.4 (01_line_description_and_configuration.md); section 2.8
(02_position_speed_and_car_reports.md); section 2.1 (02_position_speed_and_car_reports.md); section 2.3
(02_position_speed_and_car_reports.md). -/
def Obligations.SetParameterNumeric : Prop :=
  ∀ (p : NumParam) (v : Int) (s : State), s.pins.resetLow = false → s.lsu.line = .closed →
    ∃ t, exec (.setParameter .con (.fields (.listed (.num p), v))) s = .next t ∧
      Replied .setParameter .con
        (if (clampNat (paramRow p).lo (paramRow p).hi v : Int) = v then .ok else .clamped)
        (.cfg (.value (.number (clampNat (paramRow p).lo (paramRow p).hi v))) false) t ∧
      t.params.get p = clampNat (paramRow p).lo (paramRow p).hi v ∧
      (∀ q, q ≠ p → t.params.get q = s.params.get q) ∧
      t.params.slotMode = s.params.slotMode ∧ t.params.walkwaySide = s.params.walkwaySide ∧
      t.cfg = { s.cfg with params := t.params, committed := false } ∧
      (p = .trackLen ∨ p = .midStop →
        t.psu = { s.psu with ref := .unreferenced, expected := ⟨none, none⟩ } ∧ KeepsBut [.cfg, .psu] s t) ∧
      (p = .kEnc →
        t.psu =
          { s.psu with
            pRef := pos s, countRef := s.psu.count, ref := .unreferenced, expected := ⟨none, none⟩ } ∧
        pos t = pos s ∧ KeepsBut [.cfg, .psu] s t) ∧
      (p ≠ .trackLen → p ≠ .midStop → p ≠ .kEnc → p ≠ .tCar → KeepsBut [.cfg] s t) ∧
      (p = .tCar → isPowered s.trc.state = false →
        (∀ c, t.cru.get c =
          { s.cru.get c with fresh := isFresh s c && decide (reportAge s c ≤ t.params.tCar) }) ∧
        t.brs =
          { s.brs with
            drivePermit := t.brs.drivePermit, sbHoldoff := t.brs.sbHoldoff, ebHoldoff := t.brs.ebHoldoff
            sbApply := t.brs.sbApply, ebApply := t.brs.ebApply } ∧
        (OutputInv s → t.brs = s.brs) ∧ KeepsBut [.cfg, .cru, .brs] s t)

/-- O15. On a CLOSED line, SET PARAMETER of SLOT_MODE or WALKWAY_SIDE with a code of its list and PLATFORM SIDE of a
platform store that value, reply OK with it and uncommit the store; a code outside the list, a parameter, platform or
side that is not listed is refused BAD_VALUE with the committed mark. Nothing else changes. The codes are the
positions in the lists of the spec. Rests on: section 1.3 (01_line_description_and_configuration.md); section 1.4
(01_line_description_and_configuration.md). -/
def Obligations.EnumeratedWrites : Prop :=
  (∀ (v : Int) (m : SlotMode) (s : State), s.pins.resetLow = false → s.lsu.line = .closed →
    fromCode allSlotModes v = some m →
    ∃ t, exec (.setParameter .con (.fields (.listed .slotMode, v))) s = .next t ∧
      Replied .setParameter .con .ok (.cfg (.value (.slotMode m)) false) t ∧
      t.cfg = { s.cfg with params := { s.cfg.params with slotMode := m }, committed := false } ∧
      KeepsBut [.cfg] s t) ∧
  (∀ (v : Int) (d : Side) (s : State), s.pins.resetLow = false → s.lsu.line = .closed →
    fromCode allSides v = some d →
    ∃ t, exec (.setParameter .con (.fields (.listed .walkwaySide, v))) s = .next t ∧
      Replied .setParameter .con .ok (.cfg (.value (.side d)) false) t ∧
      t.cfg = { s.cfg with params := { s.cfg.params with walkwaySide := d }, committed := false } ∧
      KeepsBut [.cfg] s t) ∧
  (∀ (pf : Platform) (d : Side) (s : State), s.pins.resetLow = false → s.lsu.line = .closed →
    ∃ t, exec (.platformSide .con (.fields (.listed pf, .listed d))) s = .next t ∧
      Replied .platformSide .con .ok (.cfg (.value (.side d)) false) t ∧
      t.cfg.doorSide.get pf = d ∧ (∀ q, q ≠ pf → t.cfg.doorSide.get q = s.cfg.doorSide.get q) ∧
      t.cfg = { s.cfg with doorSide := t.cfg.doorSide, committed := false } ∧
      KeepsBut [.cfg] s t) ∧
  (∀ (v : Int) (s : State), s.pins.resetLow = false → s.lsu.line = .closed →
    (fromCode allSlotModes v = none →
      ∃ t, exec (.setParameter .con (.fields (.listed .slotMode, v))) s = .next t ∧
        Replied .setParameter .con (.refused .badValue) (.cfg .nothing s.cfg.committed) t ∧ KeepsBut [] s t) ∧
    (fromCode allSides v = none →
      ∃ t, exec (.setParameter .con (.fields (.listed .walkwaySide, v))) s = .next t ∧
        Replied .setParameter .con (.refused .badValue) (.cfg .nothing s.cfg.committed) t ∧ KeepsBut [] s t)) ∧
  (∀ (code : Nat) (v : Int) (s : State), s.pins.resetLow = false → s.lsu.line = .closed →
    ∃ t, exec (.setParameter .con (.fields (.unlisted code, v))) s = .next t ∧
      Replied .setParameter .con (.refused .badValue) (.cfg .nothing s.cfg.committed) t ∧ KeepsBut [] s t) ∧
  (∀ (pf : Coded Platform) (d : Coded Side) (s : State), s.pins.resetLow = false → s.lsu.line = .closed →
    listed? pf = none ∨ listed? d = none →
    ∃ t, exec (.platformSide .con (.fields (pf, d))) s = .next t ∧
      Replied .platformSide .con (.refused .badValue) (.cfg .nothing s.cfg.committed) t ∧ KeepsBut [] s t)

/-- O16. On a CLOSED line with the tables in order: PROFILE PUT, where its start is held or the table is not full, leaves
exactly the new segment and every old one of another start, with both values clamped and the new segment's number in
the reply; where the table is full it is refused FULL. PROFILE REMOVE of a held number takes that segment out, and a
number not held is refused BAD_VALUE. PROFILE CLEAR empties the table. Each accepted write uncommits the store, and
nothing else changes. Rests on: section 1.5 (01_line_description_and_configuration.md). -/
def Obligations.ProfileWrites : Prop :=
  (∀ (a b : Int) (s : State), s.pins.resetLow = false → s.lsu.line = .closed → TableInv s →
    (s.cfg.profile.any (fun u => u.start = clampNat 0 400000 a) = true ∨ s.cfg.profile.length < 24) →
    ∃ t, exec (.profilePut .con (.fields (a, b))) s = .next t ∧
      Replied .profilePut .con
        (if (clampNat 0 400000 a : Int) = a ∧ (clampNat 10 1200 b : Int) = b then .ok else .clamped)
        (.cfg (.segment (clampNat 0 400000 a) (clampNat 10 1200 b)
          (segmentNumber (clampNat 0 400000 a) t.cfg.profile)) false) t ∧
      (∀ u, u ∈ t.cfg.profile ↔
        u = ⟨clampNat 0 400000 a, clampNat 10 1200 b⟩ ∨ (u ∈ s.cfg.profile ∧ u.start ≠ clampNat 0 400000 a)) ∧
      t.cfg = { s.cfg with profile := t.cfg.profile, committed := false } ∧ TableInv t ∧ KeepsBut [.cfg] s t) ∧
  (∀ (a b : Int) (s : State), s.pins.resetLow = false → s.lsu.line = .closed →
    s.cfg.profile.any (fun u => u.start = clampNat 0 400000 a) = false → 24 ≤ s.cfg.profile.length →
    ∃ t, exec (.profilePut .con (.fields (a, b))) s = .next t ∧
      Replied .profilePut .con (.refused .full) (.cfg .nothing s.cfg.committed) t ∧ KeepsBut [] s t) ∧
  (∀ (n : Nat) (s : State), s.pins.resetLow = false → s.lsu.line = .closed → n < s.cfg.profile.length →
    ∃ t, exec (.profileRemove .con (.fields n)) s = .next t ∧
      Replied .profileRemove .con .ok (.cfg .nothing false) t ∧
      t.cfg = { s.cfg with profile := s.cfg.profile.eraseIdx n, committed := false } ∧ KeepsBut [.cfg] s t) ∧
  (∀ (n : Nat) (s : State), s.pins.resetLow = false → s.lsu.line = .closed → s.cfg.profile.length ≤ n →
    ∃ t, exec (.profileRemove .con (.fields n)) s = .next t ∧
      Replied .profileRemove .con (.refused .badValue) (.cfg .nothing s.cfg.committed) t ∧ KeepsBut [] s t) ∧
  (∀ s : State, s.pins.resetLow = false → s.lsu.line = .closed →
    ∃ t, exec (.profileClear .con (.fields ())) s = .next t ∧
      Replied .profileClear .con .ok (.cfg .nothing false) t ∧
      t.cfg = { s.cfg with profile := [], committed := false } ∧ KeepsBut [.cfg] s t)

/-- O17. On a CLOSED line: MARKER PUT of a position not held, the table not full, leaves exactly the old positions and the
new one, clamped, with its number in the reply; a held position is refused BAD_VALUE, a full table FULL. MARKER REMOVE
of a held number takes it out, a number not held is refused BAD_VALUE; MARKER CLEAR empties the table. Each accepted
write uncommits the store and makes the reference UNREFERENCED with no expected marker; nothing else changes. Rests
on: section 1.6 (01_line_description_and_configuration.md); section 1.4 (01_line_description_and_configuration.md). -/
def Obligations.MarkerWrites : Prop :=
  (∀ (v : Int) (s : State), s.pins.resetLow = false → s.lsu.line = .closed →
    clampNat 0 400000 v ∉ s.cfg.markers → s.cfg.markers.length < 48 →
    ∃ t, exec (.markerPut .con (.fields v)) s = .next t ∧
      Replied .markerPut .con (if (clampNat 0 400000 v : Int) = v then .ok else .clamped)
        (.cfg (.marker (clampNat 0 400000 v) (markerNumber (clampNat 0 400000 v) t.cfg.markers)) false) t ∧
      (∀ x, x ∈ t.cfg.markers ↔ x = clampNat 0 400000 v ∨ x ∈ s.cfg.markers) ∧
      (s.cfg.markers.Pairwise (· < ·) → t.cfg.markers.Pairwise (· < ·)) ∧
      t.cfg = { s.cfg with markers := t.cfg.markers, committed := false } ∧
      t.psu = { s.psu with ref := .unreferenced, expected := ⟨none, none⟩ } ∧ KeepsBut [.cfg, .psu] s t) ∧
  (∀ (v : Int) (s : State), s.pins.resetLow = false → s.lsu.line = .closed → clampNat 0 400000 v ∈ s.cfg.markers →
    ∃ t, exec (.markerPut .con (.fields v)) s = .next t ∧
      Replied .markerPut .con (.refused .badValue) (.cfg .nothing s.cfg.committed) t ∧ KeepsBut [] s t) ∧
  (∀ (v : Int) (s : State), s.pins.resetLow = false → s.lsu.line = .closed →
    clampNat 0 400000 v ∉ s.cfg.markers → 48 ≤ s.cfg.markers.length →
    ∃ t, exec (.markerPut .con (.fields v)) s = .next t ∧
      Replied .markerPut .con (.refused .full) (.cfg .nothing s.cfg.committed) t ∧ KeepsBut [] s t) ∧
  (∀ (n : Nat) (s : State), s.pins.resetLow = false → s.lsu.line = .closed → n < s.cfg.markers.length →
    ∃ t, exec (.markerRemove .con (.fields n)) s = .next t ∧
      Replied .markerRemove .con .ok (.cfg .nothing false) t ∧
      t.cfg = { s.cfg with markers := s.cfg.markers.eraseIdx n, committed := false } ∧
      t.psu = { s.psu with ref := .unreferenced, expected := ⟨none, none⟩ } ∧ KeepsBut [.cfg, .psu] s t) ∧
  (∀ (n : Nat) (s : State), s.pins.resetLow = false → s.lsu.line = .closed → s.cfg.markers.length ≤ n →
    ∃ t, exec (.markerRemove .con (.fields n)) s = .next t ∧
      Replied .markerRemove .con (.refused .badValue) (.cfg .nothing s.cfg.committed) t ∧ KeepsBut [] s t) ∧
  (∀ s : State, s.pins.resetLow = false → s.lsu.line = .closed →
    ∃ t, exec (.markerClear .con (.fields ())) s = .next t ∧
      Replied .markerClear .con .ok (.cfg .nothing false) t ∧
      t.cfg = { s.cfg with markers := [], committed := false } ∧
      t.psu = { s.psu with ref := .unreferenced, expected := ⟨none, none⟩ } ∧ KeepsBut [.cfg, .psu] s t)

/-- O18. On a CLOSED line: LANE PUT of an identity with a kind and a platform leaves that layout under the identity,
ENABLED, without a reservation, lapsed mark or lapse, and every other lane as it was; an unlisted field is refused
BAD_VALUE. LANE REMOVE of a configured lane leaves no lane, operating state or reservation under the identity, and
every other as it was; an identity with no lane is refused BAD_VALUE. Each accepted write uncommits the store, and
nothing else changes. Rests on: section 1.7 (01_line_description_and_configuration.md); section 7.3
(07_gates_admission_and_car_load.md). -/
def Obligations.LaneWrites : Prop :=
  (∀ (g : Gate) (n : Fin 8) (k : LaneKind) (pf : Platform) (s : State),
    s.pins.resetLow = false → s.lsu.line = .closed →
    ∃ t, exec (.lanePut .con (.fields ⟨⟨.listed g, n.val⟩, .listed k, .listed pf⟩)) s = .next t ∧
      Replied .lanePut .con .ok (.cfg .nothing false) t ∧
      laneAt t ⟨g, n⟩ = some ⟨⟨g, n⟩, k, pf⟩ ∧
      laneOpAt t ⟨g, n⟩ = some { id := ⟨g, n⟩, state := .enabled, lapsed := false, lapses := 0 } ∧
      reservationOf t ⟨g, n⟩ = none ∧
      (∀ id, id ≠ ⟨g, n⟩ → laneAt t id = laneAt s id ∧ laneOpAt t id = laneOpAt s id ∧
        reservationOf t id = reservationOf s id) ∧
      t.cfg = { s.cfg with lanes := t.cfg.lanes, committed := false } ∧
      t.adm = { s.adm with lanes := t.adm.lanes, reservations := t.adm.reservations } ∧ KeepsBut [.cfg, .adm] s t) ∧
  (∀ (f : LanePutFields) (s : State), s.pins.resetLow = false → s.lsu.line = .closed →
    (laneId? f.lane = none ∨ listed? f.kind = none ∨ listed? f.platform = none) →
    ∃ t, exec (.lanePut .con (.fields f)) s = .next t ∧
      Replied .lanePut .con (.refused .badValue) (.cfg .nothing s.cfg.committed) t ∧ KeepsBut [] s t) ∧
  (∀ (r : LaneRef) (l : Lane) (s : State), s.pins.resetLow = false → s.lsu.line = .closed → namedLane s r = some l →
    ∃ t, exec (.laneRemove .con (.fields r)) s = .next t ∧
      Replied .laneRemove .con .ok (.cfg .nothing false) t ∧
      laneAt t l.id = none ∧ laneOpAt t l.id = none ∧ reservationOf t l.id = none ∧
      (∀ id, id ≠ l.id → laneAt t id = laneAt s id ∧ laneOpAt t id = laneOpAt s id ∧
        reservationOf t id = reservationOf s id) ∧
      t.cfg = { s.cfg with lanes := t.cfg.lanes, committed := false } ∧
      t.adm = { s.adm with lanes := t.adm.lanes, reservations := t.adm.reservations } ∧ KeepsBut [.cfg, .adm] s t) ∧
  (∀ (r : LaneRef) (s : State), s.pins.resetLow = false → s.lsu.line = .closed → namedLane s r = none →
    ∃ t, exec (.laneRemove .con (.fields r)) s = .next t ∧
      Replied .laneRemove .con (.refused .badValue) (.cfg .nothing s.cfg.committed) t ∧ KeepsBut [] s t)

/-- O19. On a CLOSED line, COMMIT sets the store committed and replies OK where every check passes; where one fails it
replies BAD_VALUE with the number and the item of the first that fails, and the store is uncommitted. Nothing else of
the store or the part changes. The nine checks are those of the table, and the number is that of the first that does
not hold. Which parameter a failed check 5, or a check 7 of which both parts fail, reports is the model's choice (log
13). READ PARAMETER of a parameter or a platform carries its stored value or door side; READ ENTRY of a held segment,
marker or lane carries the entry and how many its table holds. A name or an entry that is not held is refused
BAD_VALUE. Every reply carries the committed mark, any station may read in any state, and nothing changes. Rests on:
section 1.9 (01_line_description_and_configuration.md); section 1.8 (01_line_description_and_configuration.md). -/
def Obligations.CommitAndReads : Prop :=
  ((∀ s : State, s.pins.resetLow = false → s.lsu.line = .closed → commitFailure s = none →
    ∃ t, exec (.commit .con (.fields ())) s = .next t ∧ Replied .commit .con .ok (.cfg .nothing true) t ∧
      t.cfg = { s.cfg with committed := true } ∧ KeepsBut [.cfg] s t) ∧
  (∀ (n : Nat) (item : CommitItem) (s : State), s.pins.resetLow = false → s.lsu.line = .closed →
    commitFailure s = some (n, item) →
    ∃ t, exec (.commit .con (.fields ())) s = .next t ∧
      Replied .commit .con (.refused .badValue) (.cfg (.failed n item) false) t ∧
      t.cfg = { s.cfg with committed := false } ∧ KeepsBut [.cfg] s t) ∧
  (∀ s : State,
    (commitFailure s = none ↔ ∀ n, 1 ≤ n → n ≤ 9 → CommitCheck s n) ∧
    ∀ n item, commitFailure s = some (n, item) →
      1 ≤ n ∧ n ≤ 9 ∧ ¬ CommitCheck s n ∧ ∀ m, 1 ≤ m → m < n → CommitCheck s m)) ∧
  (∀ (st : Station) (s : State), s.pins.resetLow = false →
    (∀ p, ∃ t, exec (.readParameter st (.fields (.listed (.param p)))) s = .next t ∧
      Replied .readParameter st .ok (.cfg (.value (storedValue s p)) s.cfg.committed) t ∧ KeepsBut [] s t) ∧
    (∀ pf, ∃ t, exec (.readParameter st (.fields (.listed (.doorSide pf)))) s = .next t ∧
      Replied .readParameter st .ok (.cfg (.value (.side (s.cfg.doorSide.get pf))) s.cfg.committed) t ∧
      KeepsBut [] s t) ∧
    (∀ code, ∃ t, exec (.readParameter st (.fields (.unlisted code))) s = .next t ∧
      Replied .readParameter st (.refused .badValue) (.cfg .nothing s.cfg.committed) t ∧ KeepsBut [] s t) ∧
    (∀ n seg, s.cfg.profile[n]? = some seg →
      ∃ t, exec (.readEntry st (.fields (.segment n))) s = .next t ∧
        Replied .readEntry st .ok
          (.cfg (.entry (.segment seg.start seg.limit) s.cfg.profile.length) s.cfg.committed) t ∧ KeepsBut [] s t) ∧
    (∀ n x, s.cfg.markers[n]? = some x →
      ∃ t, exec (.readEntry st (.fields (.marker n))) s = .next t ∧
        Replied .readEntry st .ok (.cfg (.entry (.marker x) s.cfg.markers.length) s.cfg.committed) t ∧
        KeepsBut [] s t) ∧
    (∀ r l, namedLane s r = some l →
      ∃ t, exec (.readEntry st (.fields (.lane r))) s = .next t ∧
        Replied .readEntry st .ok (.cfg (.entry (.lane l.kind l.platform) s.cfg.lanes.length) s.cfg.committed) t ∧
        KeepsBut [] s t) ∧
    (∀ e, entryAt s e = none →
      ∃ t, exec (.readEntry st (.fields e)) s = .next t ∧
        Replied .readEntry st (.refused .badValue) (.cfg .nothing s.cfg.committed) t ∧ KeepsBut [] s t))

/-- O20. For every configuration write whose payload carries its fields, from a permitted station, in a line state other
than CLOSED: the reply is WRONG_STATE with the committed mark, and nothing changes. Rests on: section 1.4
(01_line_description_and_configuration.md). -/
def Obligations.ConfigWritesNeedClosedLine : Prop :=
  ∀ (c : Instr) (r : Request) (st : Station) (bs : List Byte) (s : State),
    isConfigWrite c = true → requestParts c = some (r, st, bs) → Heard r st s → s.lsu.line ≠ .closed →
      ∃ t, exec c s = .next t ∧ Replied r st (.refused .wrongState) (.cfg .nothing s.cfg.committed) t ∧
        KeepsBut [] s t

/-- O21. RUN REFRESH from DRV takes this moment as the last refresh and in RELEASE, RUNNING and ARRIVING restarts the
timer with the stored T_DRV. SET LIMIT from DRV sets the drive reduction to the speed given, or to the nearer of
VCREEP and VMAX with the status CLAMPED, and carries it. Nothing else changes. With the timer due at this time, no
stage standing and a T_DRV above 0, either of RUN REFRESH and the expiry may be taken first: after the refresh the
expiry changes nothing, the timer runs from this moment and DRIVE_SILENT is not raised; after the expiry DRIVE_SILENT
is in the set, the trip is in BRAKING, and the refresh is answered OK, takes the moment and restarts nothing. How the
model tells the overtaken expiry from a later one is its choice (log 47). What a range with VMAX below VCREEP does is
the model's choice (log 19). Rests on: section 4.4 (04_brake_supervision.md); section 3.7 (03_the_speed_ceiling.md). -/
def Obligations.RunRefreshAndSetLimit : Prop :=
  (∀ s : State, s.pins.resetLow = false →
    ∃ t, exec (.runRefresh .drv (.fields ())) s = .next t ∧ Replied .runRefresh .drv .ok .nothing t ∧
      t.brs =
        { s.brs with
          lastRefresh := some s.now
          refreshTimer :=
            if isPowered s.trc.state then some ⟨s.now, s.now + s.params.tDrv⟩ else s.brs.refreshTimer } ∧
      KeepsBut [.brs] s t) ∧
  (∀ (v : Int) (s : State), s.pins.resetLow = false →
    ∃ t, exec (.setLimit .drv (.fields v)) s = .next t ∧
      Replied .setLimit .drv (if (clampNat s.params.vcreep s.params.vmax v : Int) = v then .ok else .clamped)
        (.speed (clampNat s.params.vcreep s.params.vmax v)) t ∧
      t.clc = { s.clc with vdrv := some (clampNat s.params.vcreep s.params.vmax v) } ∧ KeepsBut [.clc] s t) ∧
  (∀ (tm : Timer) (s : State), s.pins.resetLow = false → isPowered s.trc.state = true → s.brs.stage = .none →
    s.brs.refreshTimer = some tm → tm.due ≤ s.now → 0 < s.params.tDrv → hasCause s .driveSilent = false →
    (∃ t u, exec (.runRefresh .drv (.fields ())) s = .next t ∧ exec .driveRefreshTimerExpiry t = .next u ∧
      u.brs = { s.brs with lastRefresh := some s.now, refreshTimer := some ⟨s.now, s.now + s.params.tDrv⟩ } ∧
      KeepsBut [.brs] s u) ∧
    (isOvertaken s .driveRefreshTimerExpiry = false →
      ∃ t u, exec .driveRefreshTimerExpiry s = .next t ∧ exec (.runRefresh .drv (.fields ())) t = .next u ∧
        Replied .runRefresh .drv .ok .nothing u ∧ hasCause t .driveSilent = true ∧ t.trc.state = .braking ∧
        t.brs.refreshTimer = none ∧ u.brs = { t.brs with lastRefresh := some s.now } ∧ KeepsBut [.brs] t u))

/-- O22. A cause already in the set changes nothing. A new one joins the end of the set with its detail, and the stage
becomes the higher of its own and the one the cause calls for. At a rise the drive permit and the service hold-off go
off, and the emergency hold-off with EMERGENCY; off standstill a rise to SERVICE starts the effectiveness monitor with
the latest v_eval and the time, on the model's clock (log 46), and a rise to EMERGENCY ends it; every evacuation and
maintenance release goes; and the trip state goes to BRAKING from RELEASE, RUNNING and ARRIVING, is aborted from
CLOSING, DOORS and SETTLE, and stays otherwise. Without a rise only the cause set, the notices and the incidents
change. An incident of the cause is appended with the stage after the raising and the next number, and
INCIDENT_CAPTURED is pending for CON; in a list of 16 the oldest acknowledged record goes for it, and where there is
none the list stays, the overflow count goes up to at most 255, and INCIDENT_OVERFLOW is pending for CON. At a rise
SERVICE_BRAKE or EMERGENCY_BRAKE with the cause is pending for every master, and otherwise FAULT with the cause and
its detail for DRV and CON. That the record shows the trip state and the counts before the trip reacts is the model's
choice (log 8). Rests on: section 4.1 (04_brake_supervision.md); section 4.2 (04_brake_supervision.md); section 6.9
(06_door_release.md); section 5.6 (05_trip_requests_and_the_trip.md); section 10.2
(10_notices_incidents_and_reset_causes.md); section 10.1 (10_notices_incidents_and_reset_causes.md); section 4.7
(04_brake_supervision.md). -/
def Obligations.RaiseCauseRule : Prop :=
  ∀ (c : Cause) (d : Detail) (s : State),
    (hasCause s c = true → raiseCause c d s = s) ∧
    (hasCause s c = false →
      (raiseCause c d s).brs.causes = s.brs.causes ++ [⟨c, d⟩] ∧
      (raiseCause c d s).brs.stage = (if s.brs.stage.rank < c.stage.rank then c.stage else s.brs.stage) ∧
      Captured c (raiseCause c d s).brs.stage s (raiseCause c d s) ∧
      (s.brs.stage.rank < c.stage.rank →
        ∀ st, Handed (if c.stage = .emergency then .emergencyBrake else .serviceBrake) (.cause c) st s
          (raiseCause c d s)) ∧
      (¬ s.brs.stage.rank < c.stage.rank →
        Handed .fault (.fault c d) .drv s (raiseCause c d s) ∧ Handed .fault (.fault c d) .con s (raiseCause c d s)) ∧
      (s.brs.stage.rank < c.stage.rank →
        (raiseCause c d s).brs.drivePermit = false ∧ (raiseCause c d s).brs.sbHoldoff = false ∧
        (raiseCause c d s).brs.ebHoldoff = (s.brs.ebHoldoff && decide (c.stage = .service)) ∧
        (c.stage = .emergency → (raiseCause c d s).brs.effectiveness = none) ∧
        (c.stage = .service → (raiseCause c d s).brs.effectiveness =
          if s.psu.still then s.brs.effectiveness else some { v0 := s.psu.vEval, t0 := s.now }) ∧
        (raiseCause c d s).dri.evac = ⟨false, false⟩ ∧
        (raiseCause c d s).dri.maint = ⟨⟨false, false⟩, ⟨false, false⟩⟩ ∧
        (raiseCause c d s).trc.state = riseState s ∧
        KeepsBut [.psu, .clc, .brs, .trc, .dri, .adm, .notices, .incidents] s (raiseCause c d s)) ∧
      (¬ s.brs.stage.rank < c.stage.rank →
        (raiseCause c d s).brs = { s.brs with causes := s.brs.causes ++ [⟨c, d⟩] } ∧
        KeepsBut [.brs, .notices, .incidents] s (raiseCause c d s)))

/-- O23. STOP from DRV or CON and ESTOP from CON, with their cause not in the set: the cause joins the set with the
station as detail, the stage is then at least SERVICE for STOP and EMERGENCY for ESTOP, and the reply is OK with the
stage. With the cause in the set, the reply is OK with the stage, and nothing changes. Rests on: section 4.8
(04_brake_supervision.md); section 4.1 (04_brake_supervision.md). -/
def Obligations.StopRequestsRaise : Prop :=
  (∀ (st : Station) (s : State), Heard .stop st s → hasCause s .stopRequest = false →
    ∃ t, exec (.stop st (.fields ())) s = .next t ∧ Replied .stop st .ok (.stage t.brs.stage) t ∧
      t.brs.causes = s.brs.causes ++ [⟨.stopRequest, .asker (.station st)⟩] ∧
      t.brs.stage = (if s.brs.stage = .none then .service else s.brs.stage) ∧
      KeepsBut [.psu, .clc, .brs, .trc, .dri, .adm, .notices, .incidents] s t) ∧
  (∀ s : State, s.pins.resetLow = false → hasCause s .estopRequest = false →
    ∃ t, exec (.estop .con (.fields ())) s = .next t ∧ Replied .estop .con .ok (.stage .emergency) t ∧
      t.brs.causes = s.brs.causes ++ [⟨.estopRequest, .asker (.station .con)⟩] ∧ t.brs.stage = .emergency ∧
      KeepsBut [.psu, .clc, .brs, .trc, .dri, .adm, .notices, .incidents] s t) ∧
  (∀ (st : Station) (s : State), Heard .stop st s → hasCause s .stopRequest = true →
    ∃ t, exec (.stop st (.fields ())) s = .next t ∧ Replied .stop st .ok (.stage s.brs.stage) t ∧ KeepsBut [] s t) ∧
  (∀ s : State, s.pins.resetLow = false → hasCause s .estopRequest = true →
    ∃ t, exec (.estop .con (.fields ())) s = .next t ∧ Replied .estop .con .ok (.stage s.brs.stage) t ∧
      KeepsBut [] s t)

/-- O24. APPLY TIMER EXPIRY with its hold-off off raises SB_FAIL or EB_FAIL and stops the timer; DRIVE REFRESH TIMER
EXPIRY raises DRIVE_SILENT and stops its timer; CAR REPORT STALE makes stale a record whose fresh field still stands,
changes nothing else of the records, takes the drive permit away and in RELEASE, RUNNING and ARRIVING raises
CAR_SILENT. Each cause joins the end of the set with the detail its rule names: for CAR_SILENT the car and its
record's age. With the cause already in the set, and for a report in any other trip state, only the timer or the
record, the outputs and their apply timers change. The clock then stands no earlier than the expiry (log 2), or than
the first moment at which the report is too old; that the field stands until the event is the model's choice (log 6).
A timer that does not run and a record whose field does not stand change nothing, nor does any timed event due at this
time whose timer another command has already stopped or restarted, which is the model's way to tell it from the
restarted timer's (log 47). Rests on: section 4.6 (04_brake_supervision.md); section 4.4 (04_brake_supervision.md);
section 4.5 (04_brake_supervision.md); section 2.8 (02_position_speed_and_car_reports.md); section 4.1
(04_brake_supervision.md). -/
def Obligations.SilenceAndBrakeTimersRaise : Prop :=
  (∀ (b : Brake) (tm : Timer) (s : State), s.pins.resetLow = false → s.brs.apply b = some tm →
    s.brs.holdoff b = false → hasCause s (failCause b) = false →
    isOvertaken s (.applyTimerExpiry b) = false →
    ∃ t, exec (.applyTimerExpiry b) s = .next t ∧ t.brs.apply b = none ∧
      t.brs.causes =
        s.brs.causes ++ [⟨failCause b, .applyTimer (max s.now tm.due - tm.start) (s.brs.fb b)⟩] ∧
      t.brs.stage = .emergency ∧ t.now = max s.now tm.due ∧
      KeepsBut [.now, .psu, .clc, .brs, .trc, .dri, .adm, .notices, .incidents] s t) ∧
  (∀ (tm : Timer) (s : State), s.pins.resetLow = false → s.brs.refreshTimer = some tm →
    hasCause s .driveSilent = false →
    isOvertaken s .driveRefreshTimerExpiry = false →
    ∃ t, exec .driveRefreshTimerExpiry s = .next t ∧ t.brs.refreshTimer = none ∧
      t.brs.causes =
        s.brs.causes ++ [⟨.driveSilent, .silentDrive (s.brs.lastRefresh.map fun x => max s.now tm.due - x)⟩] ∧
      t.brs.stage = (if s.brs.stage = .none then .service else s.brs.stage) ∧ t.now = max s.now tm.due ∧
      KeepsBut [.now, .psu, .clc, .brs, .trc, .dri, .adm, .notices, .incidents] s t) ∧
  (∀ (c : Car) (s : State), s.pins.resetLow = false → (s.cru.get c).fresh = true →
    isOvertaken s (.carReportStale c) = false →
    ∃ t, exec (.carReportStale c) s = .next t ∧
      t.cru = s.cru.set c { s.cru.get c with fresh := false } ∧ t.brs.drivePermit = false ∧
      t.now = max s.now ((s.cru.get c).takenAt + s.params.tCar + 1) ∧
      (isPowered s.trc.state = true → hasCause s .carSilent = false →
        t.brs.causes = s.brs.causes ++ [⟨.carSilent, .silentCar c (t.now - (s.cru.get c).takenAt)⟩] ∧
        t.brs.stage = (if s.brs.stage = .none then .service else s.brs.stage)) ∧
      (isPowered s.trc.state = false ∨ hasCause s .carSilent = true →
        t.brs =
          { s.brs with
            drivePermit := false, sbHoldoff := t.brs.sbHoldoff, ebHoldoff := t.brs.ebHoldoff
            sbApply := t.brs.sbApply, ebApply := t.brs.ebApply } ∧
        (OutputInv s → t.brs = { s.brs with drivePermit := false }) ∧ KeepsBut [.now, .cru, .brs] s t) ∧
      KeepsBut [.now, .cru, .psu, .clc, .brs, .trc, .dri, .adm, .notices, .incidents] s t) ∧
  (∀ (b : Brake) (tm : Timer) (s : State), s.pins.resetLow = false → s.brs.apply b = some tm →
    hasCause s (failCause b) = true →
    isOvertaken s (.applyTimerExpiry b) = false →
    ∃ t, exec (.applyTimerExpiry b) s = .next t ∧ t.brs = s.brs.setApply none b ∧ t.now = max s.now tm.due ∧
      KeepsBut [.now, .brs] s t) ∧
  (∀ (tm : Timer) (s : State), s.pins.resetLow = false → s.brs.refreshTimer = some tm →
    hasCause s .driveSilent = true →
    isOvertaken s .driveRefreshTimerExpiry = false →
    ∃ t, exec .driveRefreshTimerExpiry s = .next t ∧ t.brs = { s.brs with refreshTimer := none } ∧
      t.now = max s.now tm.due ∧ KeepsBut [.now, .brs] s t) ∧
  (∀ (b : Brake) (s : State), s.pins.resetLow = false → s.brs.apply b = none →
    ∃ t, exec (.applyTimerExpiry b) s = .next t ∧ KeepsBut [] s t) ∧
  (∀ s : State, s.pins.resetLow = false → s.brs.refreshTimer = none →
    ∃ t, exec .driveRefreshTimerExpiry s = .next t ∧ KeepsBut [] s t) ∧
  (∀ (c : Car) (s : State), s.pins.resetLow = false → (s.cru.get c).fresh = false →
    ∃ t, exec (.carReportStale c) s = .next t ∧ KeepsBut [] s t) ∧
  (∀ (i : Instr) (s : State), s.pins.resetLow = false → isTimedEvent i = true → isOvertaken s i = true →
    ∃ t, exec i s = .next t ∧ KeepsBut [] s t ∧ isOvertaken t i = false)

/-- O25. BRAKE FEEDBACK CHANGE to a level the feedback does not show: that feedback takes it and the other stays; APPLIED
stops its apply timer; RELEASED with the hold-off off starts it, unless the release wait runs in RELEASE; RELEASED
with the release wait running in RELEASE and the other brake RELEASED takes the trip to RUNNING; APPLIED in RUNNING
raises BRAKE_DRAG. The clock then stands no earlier than 2 ms after the input took the level. FEEDBACK INPUT CHANGE
changes that brake's input alone. When a filtered change is taken is the model's choice (log 16). Rests on: section
4.6 (04_brake_supervision.md); section 9.11 (09_the_line_bus.md). -/
def Obligations.BrakeFeedbackTaken : Prop :=
  (∀ (b : Brake) (level : Feedback) (s : State), s.pins.resetLow = false → s.brs.fb b ≠ level →
    ∃ t, exec (.brakeFeedbackChange b level) s = .next t ∧ t.brs.fb b = level ∧
      (∀ o, o ≠ b → t.brs.fb o = s.brs.fb o) ∧
      t.pins = s.pins.setInput (standing s.now level (s.pins.input b)) b ∧
      t.now = max s.now ((standing s.now level (s.pins.input b)).since + 2) ∧
      (level = .applied → t.brs.apply b = none) ∧
      (level = .released → s.brs.holdoff b = false → ¬ (s.trc.state = .release ∧ s.brs.releaseWait.isSome = true) →
        t.brs.apply b = some ⟨t.now, t.now + s.params.brkFbTmo⟩) ∧
      (level = .released → s.trc.state = .release → s.brs.releaseWait.isSome = true →
        (∀ o, o ≠ b → s.brs.fb o = .released) → t.trc.state = .running ∧ t.brs.releaseWait = none) ∧
      (level = .applied → s.trc.state = .running → hasCause t .brakeDrag = true) ∧
      (level = .applied → s.trc.state ≠ .running → t.brs.causes = s.brs.causes ∧ KeepsBut [.now, .pins, .brs] s t) ∧
      KeepsBut [.now, .pins, .psu, .clc, .brs, .trc, .dri, .adm, .notices, .incidents] s t) ∧
  (∀ (b : Brake) (level : Feedback) (s : State), s.pins.resetLow = false → s.brs.fb b = level →
    ∃ t, exec (.brakeFeedbackChange b level) s = .next t ∧ KeepsBut [] s t) ∧
  (∀ (b : Brake) (level : Feedback) (s : State),
    ∃ t, exec (.feedbackInputChange b level) s = .next t ∧
      t = { s with pins := s.pins.setInput (standing s.now level (s.pins.input b)) b })

/-- O26. CLEAR BRAKE with a stage standing, a SERVICE stage or the console asking, standstill confirmed and no persisting
cause: the stage becomes NONE, the cause set empty, the effectiveness monitor inactive and the overspeed count 0;
evacuation releases go; the reply is OK with the stage NONE. In BRAKING the trip ends with its outcome, the present
count is held, and the trip state becomes DWELL at the stop the line is trusted to be at, else STOPPED_ON_LINE;
TRIP_STOPPED with the number, the outcome and the stop or P is pending for the owner, and each gate station whose
windows open has its notice; in any other trip state the trip controller changes nothing. With no stage standing, the
reply is OK and nothing changes; that it carries the stage NONE then is the model's choice (log 40). With a stage
standing: an EMERGENCY stage cannot be cleared by DRV (NOT_YOURS); without confirmed standstill the refusal is MOVING;
with a persisting cause it is CAUSE_PRESENT with that cause, the first of: a stale report; a fresh report with a side
not LOCKED while the line is off a stop; SB_FAIL, then EB_FAIL, in the set with that brake not APPLIED. A report is
judged fresh as it is read (log 6). In each case nothing changes. Rests on: section 4.10 (04_brake_supervision.md);
section 5.6 (05_trip_requests_and_the_trip.md); section 2.5 (02_position_speed_and_car_reports.md); section 10.1
(10_notices_incidents_and_reset_causes.md); section 7.2 (07_gates_admission_and_car_load.md). -/
def Obligations.ClearBrakeRequest : Prop :=
  ((∀ (st : Station) (s : State), Heard .clearBrake st s → s.brs.stage ≠ .none → (s.brs.stage = .service ∨ st = .con) →
    s.psu.still = true → persisting s = none →
    ∃ t, exec (.clearBrake st (.fields ())) s = .next t ∧ Replied .clearBrake st .ok (.stage .none) t ∧
      t.brs.stage = .none ∧ t.brs.causes = [] ∧ t.brs.effectiveness = none ∧ t.brs.overspeedCount = 0 ∧
      t.dri.evac = ⟨false, false⟩ ∧
      (s.trc.state ≠ .braking → t.trc = s.trc ∧ t.dri = { s.dri with evac := ⟨false, false⟩ } ∧
        KeepsBut [.brs, .dri] s t) ∧
      (s.trc.state = .braking →
        t.trc.state = restState s ∧
        t.trc.trip.outcome =
          (if (trustedStop s).isSome ∧ trustedStop s = s.trc.trip.destination then .done else .stopped) ∧
        t.trc.trip.number = s.trc.trip.number ∧ t.psu.mismatch = ⟨0, 0⟩ ∧ t.psu.heldCount = s.psu.count ∧
        (∀ k, trustedStop s = some k →
          HandedOwner .tripStopped (.stopped s.trc.trip.number t.trc.trip.outcome (.stop k)) s t) ∧
        (trustedStop s = none → HandedOwner .tripStopped (.stopped s.trc.trip.number .stopped (.line (pos s))) s t) ∧
        WindowsHanded s t) ∧
      KeepsBut [.psu, .clc, .brs, .trc, .dri, .adm, .notices] s t) ∧
  (∀ (st : Station) (s : State), Heard .clearBrake st s → s.brs.stage = .none →
    ∃ t, exec (.clearBrake st (.fields ())) s = .next t ∧ Replied .clearBrake st .ok (.stage .none) t ∧
      KeepsBut [] s t)) ∧
  ((∀ s : State, s.pins.resetLow = false → s.brs.stage = .emergency →
    ∃ t, exec (.clearBrake .drv (.fields ())) s = .next t ∧ Replied .clearBrake .drv (.refused .notYours) .nothing t ∧
      KeepsBut [] s t) ∧
  (∀ (st : Station) (s : State), Heard .clearBrake st s → s.brs.stage ≠ .none → (s.brs.stage = .service ∨ st = .con) →
    s.psu.still = false →
    ∃ t, exec (.clearBrake st (.fields ())) s = .next t ∧ Replied .clearBrake st (.refused .moving) .nothing t ∧
      KeepsBut [] s t) ∧
  (∀ (st : Station) (why : SubReason) (s : State), Heard .clearBrake st s → s.brs.stage ≠ .none →
    (s.brs.stage = .service ∨ st = .con) → s.psu.still = true → persisting s = some why →
    ∃ t, exec (.clearBrake st (.fields ())) s = .next t ∧
      Replied .clearBrake st (.refused (.causePresent why)) (.causePresent why) t ∧ KeepsBut [] s t) ∧
  (∀ s : State, FirstFailure 1 4 (NotPersisting s) PersistingName (persisting s)))

/-- O27. For every command and every state: if the stage is lower after the command than before it, then it is NONE and
the cause set is empty, and the command is a reset, or a CLEAR BRAKE that was accepted with standstill confirmed.
Rules: R78. -/
def Obligations.StageFallsOnlyByClear : Prop :=
  ∀ (c : Instr) (s t : State), exec c s = .next t → t.brs.stage.rank < s.brs.stage.rank →
    t.brs.stage = .none ∧ t.brs.causes = [] ∧
    (isReset c = true ∨
      ∃ st, c = .clearBrake st (.fields ()) ∧ Replied .clearBrake st .ok (.stage .none) t ∧ s.psu.still = true)

/-- O28. With no slot PENDING: RELEASE WAIT EXPIRY in RELEASE, DOOR CLOSE TIMER EXPIRY in DOORS, and CANCEL TRIP of the
IN_FLIGHT slot in CLOSING, DOORS, SETTLE or RELEASE each abort the trip with their cause: the trip state returns to
DWELL at the origin stop, or to STOPPED_ON_LINE where there is none, the trip record takes the outcome ABORTED and the
cause, the slot is freed, both mismatch counts are 0, TRIP_ABORTED with the number and the cause is pending for the
owner, and each gate station whose windows open or close has its notice. Timers act where not overtaken (log 47), and
leave the clock no earlier than their expiry (log 2). A timer that does not run changes nothing. A slot PENDING behind
a trip: where DOOR CLOSE TIMER EXPIRY aborts to the line it is dropped, EMPTY for an IMMEDIATE trigger and else ARMED,
and its owner has TRIGGER_REFUSED pending; where it aborts to a stop with MIN_DWELL elapsed the slot is tested at
once, and starts the next trip, which waits in DOORS while a door is not locked, or is dropped. A STOP with no stage
standing in CLOSING, DOORS or SETTLE aborts the trip and drops it. An accepted CLEAR BRAKE that ends a brake stop on
the line drops it, and one that ends it at a stop keeps it. Rests on: section 5.6 (05_trip_requests_and_the_trip.md);
section 4.6 (04_brake_supervision.md); section 6.4 (06_door_release.md); section 5.1
(05_trip_requests_and_the_trip.md); section 5.3 (05_trip_requests_and_the_trip.md); section 10.1
(10_notices_incidents_and_reset_causes.md); section 7.2 (07_gates_admission_and_car_load.md). -/
def Obligations.AbortsReturnToOrigin : Prop :=
  (∀ (tm : Timer) (s : State), s.pins.resetLow = false → s.trc.state = .release → s.brs.releaseWait = some tm →
    NonePending s →
    isOvertaken s .releaseWaitExpiry = false →
    ∃ t, exec .releaseWaitExpiry s = .next t ∧ Aborted .brakeNotReleased s t ∧ t.now = max s.now tm.due ∧
      t.brs.releaseWait = none ∧ t.brs.causes = s.brs.causes ∧
      KeepsBut [.now, .psu, .clc, .brs, .trc, .dri, .adm, .notices] s t) ∧
  (∀ (tm : Timer) (s : State), s.pins.resetLow = false → s.trc.state = .doors → s.dri.doorTimer = some tm →
    NonePending s → isOvertaken s .doorCloseTimerExpiry = false →
    ∃ t, exec .doorCloseTimerExpiry s = .next t ∧ Aborted .doorsTimeout s t ∧ t.now = max s.now tm.due ∧
      t.dri.doorTimer = none ∧ KeepsBut [.now, .psu, .clc, .brs, .trc, .dri, .adm, .notices] s t) ∧
  (∀ (st : Station) (n : Option Nat) (id : SlotId) (r : TripReq) (s : State), Heard .cancelTrip st s →
    resolveSlot s st n = some id → slotOf s id = .inFlight r → cancellable s.trc.state = true → NonePending s →
    ∃ t, exec (.cancelTrip st (.fields n)) s = .next t ∧ Replied .cancelTrip st .ok .nothing t ∧
      Aborted .cancelled s t ∧ slotOf t id = .empty ∧
      KeepsBut [.psu, .clc, .brs, .trc, .dri, .adm, .notices] s t) ∧
  (∀ s : State, s.pins.resetLow = false → s.brs.releaseWait = none →
    ∃ t, exec .releaseWaitExpiry s = .next t ∧ KeepsBut [] s t) ∧
  (∀ s : State, s.pins.resetLow = false → s.dri.doorTimer = none →
    ∃ t, exec .doorCloseTimerExpiry s = .next t ∧ KeepsBut [] s t) ∧
  (∀ (tm : Timer) (s : State), s.pins.resetLow = false → s.trc.state = .doors → s.dri.doorTimer = some tm →
    isOvertaken s .doorCloseTimerExpiry = false →
    (s.trc.trip.origin = none →
      ∃ t, exec .doorCloseTimerExpiry s = .next t ∧ t.trc.state = .stoppedOnLine ∧ PendingDropped false s t ∧
        HandedOwner .tripAborted (.aborted s.trc.trip.number .doorsTimeout) s t ∧
        KeepsBut [.now, .psu, .clc, .brs, .trc, .dri, .adm, .notices] s t) ∧
    (∀ (k : Stop) (id : SlotId) (r : TripReq), s.trc.trip.origin = some k → s.trc.elapsed = true →
      slotOf s id = .pending r → (∀ o, o ≠ id → (slotOf s o).name ≠ .pending) → s.adm.reservations = [] →
      ∃ t, exec .doorCloseTimerExpiry s = .next t ∧
        HandedOwner .tripAborted (.aborted s.trc.trip.number .doorsTimeout) s t ∧
        (departureTest { s with now := t.now, adm := t.adm } id r k = none →
          allLocked { s with now := t.now } = false →
          t.trc.state = .doors ∧ slotOf t id = .inFlight r ∧
            t.trc.trip.number = (s.trc.trip.number + 1) % 65536 ∧
            t.dri.doorTimer = some ⟨t.now, t.now + s.params.doorTmo * 1000⟩) ∧
        (∀ why, departureTest { s with now := t.now, adm := t.adm } id r k = some why →
          t.trc.state = .dwell k ∧ slotOf t id = dropped (.pending r) ∧
            isPending (t.niu.notices.get (ownerOf s id).station) .triggerRefused = true))) ∧
  (∀ (st : Station) (s : State), Heard .stop st s → s.brs.stage = .none → hasCause s .stopRequest = false →
    (isClosing s.trc.state = true ∨ s.trc.state = .doors ∨ s.trc.state = .settle) →
    (s.trc.elapsed = true ∨ s.trc.trip.origin = none) →
    ∃ t, exec (.stop st (.fields ())) s = .next t ∧ t.trc.state = abortState s ∧
      t.trc.trip = { s.trc.trip with outcome := .aborted, abortCause := some .brake } ∧ PendingDropped false s t ∧
      HandedOwner .tripAborted (.aborted s.trc.trip.number .brake) s t) ∧
  (∀ (st : Station) (s : State), Heard .clearBrake st s → s.trc.state = .braking → s.brs.stage ≠ .none →
    (s.brs.stage = .service ∨ st = .con) → s.psu.still = true → persisting s = none →
    ∃ t, exec (.clearBrake st (.fields ())) s = .next t ∧
      (trustedStop s = none → PendingDropped false s t) ∧
      ((trustedStop s).isSome = true →
        t.trc.slot0 = freed false s.trc.slot0 ∧ t.trc.slot1 = freed false s.trc.slot1))

/-- O29. A TRIP REQUEST that passes its checks leaves the slot ARMED with its fields for a DISPATCH or DWELL trigger, and
PENDING with them for an IMMEDIATE trigger while a trip is in flight or MIN_DWELL has not elapsed; the reply is OK
where the slot was EMPTY, else REPLACED, with the slot and its state. CANCEL TRIP of an EMPTY, ARMED or PENDING slot
leaves it EMPTY and replies OK; of an IN_FLIGHT one whose trip has run it is refused MOVING; of a slot that the
requester does not own, named or given as the default, NOT_YOURS, and so of another slot number, which is the model's
choice (log 18). Only that slot changes. Rests on: section 5.1 (05_trip_requests_and_the_trip.md); section 5.3
(05_trip_requests_and_the_trip.md). -/
def Obligations.SlotsFilledAndEmptied : Prop :=
  (∀ (st : Station) (f : TripRequestFields) (id : SlotId) (r : TripReq) (s : State), Heard .tripRequest st s →
    resolveSlot s st f.slot = some id → requestFields s f = some r → takesTrips s st = true →
    (slotOf s id).name ≠ .inFlight →
    (r.trigger ≠ .immediate →
      ∃ t, exec (.tripRequest st (.fields f)) s = .next t ∧
        Replied .tripRequest st (if (slotOf s id).name = .empty then .ok else .replaced) (.slot id .armed none none) t ∧
        t.trc = (setSlot id (.armed r) s).trc ∧ KeepsBut [.trc] s t) ∧
    (r.trigger = .immediate → inFlight s.trc.state = true ∨ (isDwell s.trc.state = true ∧ s.trc.elapsed = false) →
      ∃ t, exec (.tripRequest st (.fields f)) s = .next t ∧
        Replied .tripRequest st (if (slotOf s id).name = .empty then .ok else .replaced)
          (.slot id .pending none none) t ∧
        t.trc = (setSlot id (.pending r) s).trc ∧ KeepsBut [.trc] s t)) ∧
  (∀ (st : Station) (n : Option Nat) (id : SlotId) (s : State), Heard .cancelTrip st s → resolveSlot s st n = some id →
    ((slotOf s id).name ≠ .inFlight →
      ∃ t, exec (.cancelTrip st (.fields n)) s = .next t ∧ Replied .cancelTrip st .ok .nothing t ∧
        t.trc = (setSlot id .empty s).trc ∧ KeepsBut [.trc] s t) ∧
    ((slotOf s id).name = .inFlight → cancellable s.trc.state = false →
      ∃ t, exec (.cancelTrip st (.fields n)) s = .next t ∧ Replied .cancelTrip st (.refused .moving) .nothing t ∧
        KeepsBut [] s t)) ∧
  (∀ (st : Station) (n : Option Nat) (s : State), Heard .cancelTrip st s →
    (∀ id, slotGiven s st n = some id → ownerOf s id ≠ roleOf st) →
    ∃ t, exec (.cancelTrip st (.fields n)) s = .next t ∧ Replied .cancelTrip st (.refused .notYours) .nothing t ∧
      KeepsBut [] s t)

/-- O30. In DWELL with MIN_DWELL elapsed, an IMMEDIATE TRIP REQUEST whose departure test passes makes its slot IN_FLIGHT
and fills the trip record: the next number, the slot, its owner, the captured mode, the direction, the origin, the
resolved destination and its position. In service with a reservation open the trip state becomes CLOSING at that stop;
with none, and in inspection, it becomes DOORS with the door close timer running where a report is stale or a door not
locked, and SETTLE with the counts frozen and the derating formed where all are locked, or with a SETTLE_T of 0 at
once RELEASE, and RUNNING where both brakes already show RELEASED. In STOPPED_ON_LINE, an IMMEDIATE request of CON's
slot for REDUCED or INSPECTION to a numbered stop that passes conditions 1 to 6 does the same with no origin and the
direction taken from P, and is at once in DOORS or beyond. The departure test passes where conditions 1 to 6 hold in
order for the more restrictive of the requested and the effective mode, and the resolved destination is another stop;
a SHUTTLE resolves by the table. A report is judged fresh as it is read (log 6). TRIP_STARTED, with the number, the
resolved stop and the captured mode, which is the model's reading (log 29), is pending for the owner, and
ADMISSION_CLOSED for each gate station whose windows close. The maintenance releases are emptied, and the reply
carries the slot IN_FLIGHT and the number. The owners follow SLOT_MODE, and the slot given, the fields and the line
state are judged as the checks say; that a slot number from 2 on is no slot (log 18), and that an unlisted one-shot or
mask is looked at with check 2 (log 45), are the model's choices. Rests on: section 5.3
(05_trip_requests_and_the_trip.md); section 5.5 (05_trip_requests_and_the_trip.md); section 5.6
(05_trip_requests_and_the_trip.md); section 6.4 (06_door_release.md); section 5.1 (05_trip_requests_and_the_trip.md);
section 5.2 (05_trip_requests_and_the_trip.md); section 7.2 (07_gates_admission_and_car_load.md); section 10.1
(10_notices_incidents_and_reset_causes.md). -/
def Obligations.TripRequestStartsTrip : Prop :=
  (∀ (st : Station) (f : TripRequestFields) (id : SlotId) (r : TripReq) (k : Stop) (s : State), Heard .tripRequest st s →
    resolveSlot s st f.slot = some id → requestFields s f = some r → takesTrips s st = true →
    (slotOf s id).name ≠ .inFlight → r.trigger = .immediate → s.trc.state = .dwell k → s.trc.elapsed = true →
    departureTest s id r k = none →
    ∃ t, exec (.tripRequest st (.fields f)) s = .next t ∧
      Replied .tripRequest st (if (slotOf s id).name = .empty then .ok else .replaced)
        (.slot id .inFlight (some t.trc.trip.number) none) t ∧
      slotOf t id = .inFlight r ∧ (∀ o, o ≠ id → slotOf t o = slotOf s o) ∧
      t.trc.trip =
        { s.trc.trip with
          number := (s.trc.trip.number + 1) % 65536
          slot := some id
          owner := some (slotOwner s.params.slotMode id)
          mode := some (restrict r.mode s.trc.effMode)
          direction := t.trc.trip.direction
          origin := some k
          destination := some (resolve s.params s.trc.trip.lastDir k r.dest)
          tpos := some (stopPos s.params (resolve s.params s.trc.trip.lastDir k r.dest))
          outcome := .none
          abortCause := none
          derating := t.trc.trip.derating
          peak := t.trc.trip.peak
          margin := t.trc.trip.margin
          lastDir := t.trc.trip.direction } ∧
      t.trc.trip.direction =
        some (if stopPos s.params k < stopPos s.params (resolve s.params s.trc.trip.lastDir k r.dest) then .upA
          else .downA) ∧
      (s.lsu.line = .inService → s.adm.reservations ≠ [] →
        t.trc.state = .closing k ∧ t.adm.reservations = s.adm.reservations ∧
          t.trc.trip.derating = s.trc.trip.derating ∧ t.trc.trip.peak = s.trc.trip.peak ∧
          t.trc.trip.margin = s.trc.trip.margin) ∧
      (s.lsu.line = .inspection ∨ s.adm.reservations = [] →
        DoorsOrSettle s t ∧ t.adm.reservations = s.adm.reservations) ∧
      Handed .tripStarted
        (.started ((s.trc.trip.number + 1) % 65536) (resolve s.params s.trc.trip.lastDir k r.dest)
          (restrict r.mode s.trc.effMode))
        (slotOwner s.params.slotMode id).station s t ∧
      WindowsHanded s t ∧ t.dri.maint = ⟨⟨false, false⟩, ⟨false, false⟩⟩ ∧ t.psu.mismatch = ⟨0, 0⟩ ∧
      KeepsBut [.psu, .clc, .brs, .trc, .dri, .adm, .notices] s t) ∧
  (∀ (st : Station) (f : TripRequestFields) (id : SlotId) (r : TripReq) (dest : Stop) (s : State),
    Heard .tripRequest st s → resolveSlot s st f.slot = some id → requestFields s f = some r →
    takesTrips s st = true → (slotOf s id).name ≠ .inFlight → r.trigger = .immediate → s.trc.state = .stoppedOnLine →
    ownerOf s id = .con → r.mode ≠ .normal → r.dest = .stop dest →
    preconditions s .con (restrict r.mode s.trc.effMode) = none →
    ∃ t, exec (.tripRequest st (.fields f)) s = .next t ∧
      Replied .tripRequest st (if (slotOf s id).name = .empty then .ok else .replaced)
        (.slot id .inFlight (some t.trc.trip.number) none) t ∧
      slotOf t id = .inFlight r ∧ (∀ o, o ≠ id → slotOf t o = slotOf s o) ∧
      t.trc.trip =
        { s.trc.trip with
          number := (s.trc.trip.number + 1) % 65536
          slot := some id
          owner := some .con
          mode := some (restrict r.mode s.trc.effMode)
          direction := t.trc.trip.direction
          origin := none
          destination := some dest
          tpos := some (stopPos s.params dest)
          outcome := .none
          abortCause := none
          derating := t.trc.trip.derating
          peak := t.trc.trip.peak
          margin := t.trc.trip.margin
          lastDir := t.trc.trip.direction } ∧
      t.trc.trip.direction = some (if pos s < stopPos s.params dest then .upA else .downA) ∧
      Handed .tripStarted (.started ((s.trc.trip.number + 1) % 65536) dest (restrict r.mode s.trc.effMode)) .con s t ∧
      DoorsOrSettle s t ∧ t.dri.maint = ⟨⟨false, false⟩, ⟨false, false⟩⟩ ∧ t.psu.mismatch = ⟨0, 0⟩ ∧
      KeepsBut [.psu, .clc, .brs, .trc, .dri, .adm, .notices] s t) ∧
  ∀ s : State, DepartureRules s ∧ RequestRules s

/-- O31. Slot 0 or 1, named or given as the default, that the requester does not own is refused NOT_YOURS; then, each
reply with the slot and its state, as that one's, a field that is not listed or a stop that does not exist is refused
BAD_VALUE, a line state that takes no trip of this requester WRONG_STATE, an IN_FLIGHT slot BUSY, and an IMMEDIATE
request in DWELL with MIN_DWELL elapsed whose departure test fails that reason. In STOPPED_ON_LINE an IMMEDIATE
request of a slot that CON does not own, for NORMAL, or to a SHUTTLE is refused WRONG_STATE, and any other whose
conditions 1 to 6 fail that reason. Nothing changes. The conditions are tried in order, with the reason of the first
that fails; the owners follow SLOT_MODE, and the slot given, the fields and the line state are judged as the checks
say. A report is judged fresh as it is read (log 6). That an unlisted one-shot or mask is refused BAD_VALUE before the
line state and the slot are looked at is the model's choice (log 45). The refusal of another slot number as NOT_YOURS,
without a slot, is the model's choice (log 18), and so is the car that ALARM or UNCOUNTED names where both cars fail
the condition (log 44). Rests on: section 5.1 (05_trip_requests_and_the_trip.md); section 5.3
(05_trip_requests_and_the_trip.md); section 5.6 (05_trip_requests_and_the_trip.md); section 5.5
(05_trip_requests_and_the_trip.md); section 5.2 (05_trip_requests_and_the_trip.md). -/
def Obligations.TripRequestChecks : Prop :=
  (∀ (st : Station) (f : TripRequestFields) (s : State), Heard .tripRequest st s →
    (slotGiven s st f.slot = none →
      ∃ t, exec (.tripRequest st (.fields f)) s = .next t ∧ Replied .tripRequest st (.refused .notYours) .nothing t ∧
        KeepsBut [] s t) ∧
    (∀ id, slotGiven s st f.slot = some id → ownerOf s id ≠ roleOf st →
      ∃ t, exec (.tripRequest st (.fields f)) s = .next t ∧
        Replied .tripRequest st (.refused .notYours) (.slot id (slotOf s id).name none none) t ∧ KeepsBut [] s t) ∧
    (∀ id, resolveSlot s st f.slot = some id →
      (requestFields s f = none →
        ∃ t, exec (.tripRequest st (.fields f)) s = .next t ∧
          Replied .tripRequest st (.refused .badValue) (.slot id (slotOf s id).name none none) t ∧ KeepsBut [] s t) ∧
      (∀ r, requestFields s f = some r →
        (takesTrips s st = false →
          ∃ t, exec (.tripRequest st (.fields f)) s = .next t ∧
            Replied .tripRequest st (.refused .wrongState) (.slot id (slotOf s id).name none none) t ∧
            KeepsBut [] s t) ∧
        (takesTrips s st = true → (slotOf s id).name = .inFlight →
          ∃ t, exec (.tripRequest st (.fields f)) s = .next t ∧
            Replied .tripRequest st (.refused .busy) (.slot id .inFlight none none) t ∧ KeepsBut [] s t) ∧
        (takesTrips s st = true → (slotOf s id).name ≠ .inFlight → r.trigger = .immediate → s.trc.elapsed = true →
          ∀ k why, s.trc.state = .dwell k → departureTest s id r k = some why →
            ∃ t, exec (.tripRequest st (.fields f)) s = .next t ∧
              Replied .tripRequest st (.refused why) (.slot id (slotOf s id).name none why.sub) t ∧ KeepsBut [] s t) ∧
        (takesTrips s st = true → (slotOf s id).name ≠ .inFlight → r.trigger = .immediate →
          s.trc.state = .stoppedOnLine →
          (ownerOf s id ≠ .con ∨ r.mode = .normal ∨ (∀ k, r.dest ≠ .stop k) →
            ∃ t, exec (.tripRequest st (.fields f)) s = .next t ∧
              Replied .tripRequest st (.refused .wrongState) (.slot id (slotOf s id).name none none) t ∧
              KeepsBut [] s t) ∧
          (ownerOf s id = .con → r.mode ≠ .normal → (∃ k, r.dest = .stop k) →
            ∀ why, preconditions s .con (restrict r.mode s.trc.effMode) = some why →
              ∃ t, exec (.tripRequest st (.fields f)) s = .next t ∧
                Replied .tripRequest st (.refused why) (.slot id (slotOf s id).name none why.sub) t ∧
                KeepsBut [] s t))))) ∧
  ∀ s : State, DepartureRules s ∧ RequestRules s

/-- O32. SET MODE of a listed mode from DRV or CON sets the requester's standing mode alone; the effective mode is
INSPECTION in the line state INSPECTION, else the more restrictive of the two; the reply is OK with it, and where it
changed MODE_CHANGED is pending for DRV and CON. An unlisted mode is refused BAD_VALUE. Nothing else changes. Rests
on: section 5.2 (05_trip_requests_and_the_trip.md). -/
def Obligations.SetModeRule : Prop :=
  (∀ (st : Station) (m : Mode) (s : State), Heard .setMode st s →
    ∃ t, exec (.setMode st (.fields (.listed m))) s = .next t ∧ Replied .setMode st .ok (.mode t.trc.effMode) t ∧
      t.trc =
        { s.trc with
          drvMode := if st = .con then s.trc.drvMode else m
          conMode := if st = .con then m else s.trc.conMode
          effMode := if s.lsu.line = .inspection then .inspection else restrict t.trc.drvMode t.trc.conMode } ∧
      (t.trc.effMode = s.trc.effMode → KeepsBut [.trc] s t) ∧
      (t.trc.effMode ≠ s.trc.effMode →
        isPending (t.niu.notices.get .drv) .modeChanged = true ∧ isPending (t.niu.notices.get .con) .modeChanged = true) ∧
      KeepsBut [.trc, .notices] s t) ∧
  (∀ (st : Station) (code : Nat) (s : State), Heard .setMode st s →
    ∃ t, exec (.setMode st (.fields (.unlisted code))) s = .next t ∧ Replied .setMode st (.refused .badValue) .nothing t ∧
      KeepsBut [] s t)

/-- O33. DISPATCH sets the debounced level high; in DWELL with MIN_DWELL not elapsed every ARMED slot with trigger
DISPATCH becomes PENDING and no other changes. With MIN_DWELL elapsed the slot is tested: one that passes in service
with a reservation open starts its trip and the trip state is CLOSING; one that fails stays ARMED and its owner has
TRIGGER_REFUSED pending. Of two such slots slot 0 is tested first; where it starts, slot 1 takes the event behind it,
and where it fails slot 1 is tested. With a trip in flight an ARMED DISPATCH slot becomes PENDING if unmasked; a
masked one stays ARMED and its owner has TRIGGER_IGNORED pending. In NONE no slot changes; in STOPPED_ON_LINE each
such slot is refused. With the level high already DISPATCH changes nothing. DEBOUNCED LEVEL FALL sets the level low
and no slot changes. DISPATCH INPUT CHANGE changes the pins alone: the input takes the level and the time it took it.
When a level counts as debounced is the model's choice (log 16). Rests on: section 5.3
(05_trip_requests_and_the_trip.md); section 9.11 (09_the_line_bus.md); section 5.6 (05_trip_requests_and_the_trip.md). -/
def Obligations.DispatcherLine : Prop :=
  (∀ (k : Stop) (s : State), s.pins.resetLow = false → s.trc.debounced = false → s.trc.state = .dwell k →
    s.trc.elapsed = false →
    ∃ t, exec .dispatch s = .next t ∧
      t.trc =
        { s.trc with debounced := true, slot0 := memorised s.trc.slot0, slot1 := memorised s.trc.slot1 } ∧
      KeepsBut [.trc, .pins, .now] s t) ∧
  (∀ s : State, s.pins.resetLow = false → s.trc.debounced = true →
    ∃ t, exec .dispatch s = .next t ∧ KeepsBut [] s t) ∧
  (∀ s : State, s.pins.resetLow = false → s.trc.debounced = true →
    ∃ t, exec .debouncedLevelFall s = .next t ∧ t.trc = { s.trc with debounced := false } ∧
      KeepsBut [.trc, .pins, .now] s t) ∧
  (∀ (high : Bool) (s : State),
    ∃ t, exec (.dispatchInputChange high) s = .next t ∧
      t.pins.dispatchIn = (if s.pins.dispatchIn.level = high then s.pins.dispatchIn else ⟨high, s.now⟩) ∧
      t = { s with pins := { s.pins with dispatchIn := t.pins.dispatchIn, dispatchLine := t.pins.dispatchLine } }) ∧
  (∀ (k : Stop) (id : SlotId) (r : TripReq) (s : State), s.pins.resetLow = false → s.trc.debounced = false →
    s.trc.state = .dwell k → s.trc.elapsed = true → slotOf s id = .armed r → r.trigger = .dispatch →
    (∀ o q, o ≠ id → slotOf s o = .armed q → q.trigger ≠ .dispatch) →
    ∃ t, exec .dispatch s = .next t ∧
      (departureTest { s with now := t.now } id r k = none → s.lsu.line = .inService → s.adm.reservations ≠ [] →
        t.trc.state = .closing k ∧ slotOf t id = .inFlight r ∧ (∀ o, o ≠ id → slotOf t o = slotOf s o) ∧
          t.trc.trip.number = (s.trc.trip.number + 1) % 65536) ∧
      (∀ why, departureTest { s with now := t.now } id r k = some why →
        t.trc = { s.trc with debounced := true } ∧
          isPending (t.niu.notices.get (ownerOf s id).station) .triggerRefused = true ∧
          KeepsBut [.trc, .pins, .now, .notices] s t)) ∧
  (∀ (k : Stop) (r0 r1 : TripReq) (s : State), s.pins.resetLow = false → s.trc.debounced = false →
    s.trc.state = .dwell k → s.trc.elapsed = true → s.trc.slot0 = .armed r0 → s.trc.slot1 = .armed r1 →
    r0.trigger = .dispatch → r1.trigger = .dispatch → s.lsu.line = .inService → s.adm.reservations ≠ [] →
    ∃ t, exec .dispatch s = .next t ∧
      (departureTest { s with now := t.now } .slot0 r0 k = none →
        t.trc.state = .closing k ∧ t.trc.slot0 = .inFlight r0 ∧ t.trc.slot1 = behindTrip (.armed r1) ∧
          (r1.mask = true → isPending (t.niu.notices.get (ownerOf s .slot1).station) .triggerIgnored = true)) ∧
      (departureTest { s with now := t.now } .slot0 r0 k ≠ none →
        departureTest { s with now := t.now } .slot1 r1 k = none →
        t.trc.state = .closing k ∧ t.trc.slot0 = .armed r0 ∧ t.trc.slot1 = .inFlight r1 ∧
          isPending (t.niu.notices.get (ownerOf s .slot0).station) .triggerRefused = true)) ∧
  (∀ s : State, s.pins.resetLow = false → s.trc.debounced = false → inFlight s.trc.state = true →
    ∃ t, exec .dispatch s = .next t ∧
      t.trc =
        { s.trc with debounced := true, slot0 := behindTrip s.trc.slot0, slot1 := behindTrip s.trc.slot1 } ∧
      (∀ id r, slotOf s id = .armed r → r.trigger = .dispatch → r.mask = true →
        isPending (t.niu.notices.get (ownerOf s id).station) .triggerIgnored = true) ∧
      KeepsBut [.trc, .pins, .now, .notices] s t) ∧
  (∀ s : State, s.pins.resetLow = false → s.trc.debounced = false →
    (s.trc.state = .none →
      ∃ t, exec .dispatch s = .next t ∧ t.trc = { s.trc with debounced := true } ∧
        KeepsBut [.trc, .pins, .now] s t) ∧
    (s.trc.state = .stoppedOnLine →
      ∃ t, exec .dispatch s = .next t ∧ t.trc = { s.trc with debounced := true } ∧
        (∀ id r, slotOf s id = .armed r → r.trigger = .dispatch →
          isPending (t.niu.notices.get (ownerOf s id).station) .triggerRefused = true) ∧
        KeepsBut [.trc, .pins, .now, .notices] s t))

/-- O34. With the MIN_DWELL timer running and its expiry not overtaken (log 47): the timer stops, the elapsed mark is set,
and the clock stands no earlier than the expiry (log 2); with no slot PENDING and none ARMED with trigger DWELL
nothing else changes. A PENDING slot and a slot ARMED with trigger DWELL take their turn, slot 0 first. The first
whose departure test at that time passes starts its trip, with the next number: in service with a reservation open the
trip state becomes CLOSING, and else the trip goes on to DOORS, or beyond where the doors are LOCKED; TRIP_STARTED,
with the resolved stop and the captured mode, which is the model's reading (log 29), is pending for its owner, and
ADMISSION_CLOSED for each gate station whose windows close. A slot 1 already PENDING stays PENDING behind slot 0's
trip; one ARMED with trigger DWELL becomes so, or with its mask stays ARMED and TRIGGER_IGNORED is pending for its
owner. A PENDING slot whose test fails becomes EMPTY for an IMMEDIATE trigger, else ARMED; an ARMED one stays so; and
TRIGGER_REFUSED is pending for its owner. A report is judged fresh as it is read (log 6). With the timer not running
nothing changes. With the lead timer running and its expiry not overtaken (log 47), the dwell phase becomes BOARDING,
the timer stops, the admission release mark is set, and the clock stands no earlier than the expiry (log 2); the gate
station of every board platform whose window opens by it has ADMISSION_OPEN pending. Nothing else changes; with the
timer not running nothing changes. Rests on: section 5.6 (05_trip_requests_and_the_trip.md); section 5.3
(05_trip_requests_and_the_trip.md); section 5.2 (05_trip_requests_and_the_trip.md); section 6.4 (06_door_release.md);
section 10.1 (10_notices_incidents_and_reset_causes.md); section 6.3 (06_door_release.md); section 7.2
(07_gates_admission_and_car_load.md). -/
def Obligations.DwellTimersElapse : Prop :=
  ((∀ (tm : Timer) (s : State), s.pins.resetLow = false → s.trc.minDwell = some tm → NonePending s →
    (∀ id r, slotOf s id = .armed r → r.trigger ≠ .dwell) →
    isOvertaken s .minDwellExpiry = false →
    ∃ t, exec .minDwellExpiry s = .next t ∧ t.trc = { s.trc with minDwell := none, elapsed := true } ∧
      t.now = max s.now tm.due ∧ KeepsBut [.trc, .now] s t) ∧
  (∀ s : State, s.pins.resetLow = false → s.trc.minDwell = none →
    ∃ t, exec .minDwellExpiry s = .next t ∧ KeepsBut [] s t) ∧
  (∀ (tm : Timer) (k : Stop) (id : SlotId) (r : TripReq) (s : State), s.pins.resetLow = false →
    s.trc.minDwell = some tm → s.trc.state = .dwell k → turnAtExpiry (slotOf s id) = some r →
    (id = .slot1 → ∀ r0, turnAtExpiry s.trc.slot0 = some r0 → departureTest (advanceTo tm.due s) .slot0 r0 k ≠ none) →
    departureTest (advanceTo tm.due s) id r k = none →
    isOvertaken s .minDwellExpiry = false →
    ∃ t, exec .minDwellExpiry s = .next t ∧ t.now = max s.now tm.due ∧ slotOf t id = .inFlight r ∧
      t.trc.trip.number = (s.trc.trip.number + 1) % 65536 ∧ t.trc.trip.slot = some id ∧
      (id = .slot0 → t.trc.slot1 = behindStart s.trc.slot1 ∧
        (∀ r1, s.trc.slot1 = .armed r1 → r1.trigger = .dwell → r1.mask = true →
          isPending (t.niu.notices.get (ownerOf s .slot1).station) .triggerIgnored = true)) ∧
      (id = .slot1 → t.trc.slot0 = dropped s.trc.slot0 ∧
        ((turnAtExpiry s.trc.slot0).isSome = true →
          isPending (t.niu.notices.get (ownerOf s .slot0).station) .triggerRefused = true)) ∧
      Handed .tripStarted
        (.started ((s.trc.trip.number + 1) % 65536) (resolve s.params s.trc.trip.lastDir k r.dest)
          (restrict r.mode s.trc.effMode))
        (ownerOf s id).station s t ∧
      WindowsHanded s t ∧ t.adm.reservations = s.adm.reservations ∧
      (s.lsu.line = .inService → s.adm.reservations ≠ [] → t.trc.state = .closing k) ∧
      (s.lsu.line = .inspection ∨ s.adm.reservations = [] → DoorsOrSettle s t) ∧
      KeepsBut [.now, .psu, .clc, .brs, .trc, .dri, .adm, .notices] s t) ∧
  (∀ (tm : Timer) (k : Stop) (s : State), s.pins.resetLow = false → s.trc.minDwell = some tm → s.trc.state = .dwell k →
    (∀ id r, turnAtExpiry (slotOf s id) = some r → departureTest (advanceTo tm.due s) id r k ≠ none) →
    isOvertaken s .minDwellExpiry = false →
    ∃ t, exec .minDwellExpiry s = .next t ∧ t.now = max s.now tm.due ∧
      t.trc =
        { s.trc with
          minDwell := none, elapsed := true, slot0 := dropped s.trc.slot0, slot1 := dropped s.trc.slot1 } ∧
      (∀ id r, turnAtExpiry (slotOf s id) = some r →
        isPending (t.niu.notices.get (ownerOf s id).station) .triggerRefused = true) ∧
      KeepsBut [.now, .trc, .notices] s t)) ∧
  ((∀ (tm : Timer) (s : State), s.pins.resetLow = false → s.dri.leadTimer = some tm →
    isOvertaken s .leadTimerExpiry = false →
    ∃ t, exec .leadTimerExpiry s = .next t ∧ t.dri = { s.dri with phase := .boarding, leadTimer := none } ∧
      t.adm = { s.adm with releaseMark := true } ∧ t.now = max s.now tm.due ∧
      WindowsHanded s t ∧
      KeepsBut [.dri, .adm, .now, .notices] s t) ∧
  (∀ s : State, s.pins.resetLow = false → s.dri.leadTimer = none →
    ∃ t, exec .leadTimerExpiry s = .next t ∧ KeepsBut [] s t))

/-- O35. In SETTLE with its timer running and its expiry not overtaken (log 47), the stage NONE, and at the expiry both
reports fresh and every door LOCKED: both hold-offs go on, the drive refresh timer starts with the stored T_DRV, the
furthest count is the encoder count, the basis is PROFILE where the reference is REFERENCED and else CAP, and the peak
speed is 0. Where a brake's feedback shows APPLIED the trip state is RELEASE, the drive permit is off and the release
wait runs; where both show RELEASED it is RUNNING, the drive permit is on and the release wait is stopped. No cause is
raised. Where at the expiry a report is stale or a fresh one shows a door not LOCKED, and no cause was in the set: the
stage is SERVICE, the trip state BRAKING, the drive permit and the service hold-off off; CAR_SILENT is in the set for
the first stale car with its record's age, and DOOR_OPEN with a side that is not LOCKED. The clock stands no earlier
than the expiry, and with the timer not running nothing changes (log 2). Which of two causes at one entry comes first
is the model's choice (log 9). Rests on: section 5.6 (05_trip_requests_and_the_trip.md); section 4.2
(04_brake_supervision.md); section 4.6 (04_brake_supervision.md); section 3.4 (03_the_speed_ceiling.md); section 4.5
(04_brake_supervision.md); section 6.5 (06_door_release.md). -/
def Obligations.SettleExpiryReleases : Prop :=
  (∀ (tm : Timer) (s : State), s.pins.resetLow = false → s.trc.settleTimer = some tm → s.trc.state = .settle →
    s.brs.stage = .none → allLocked (advanceTo tm.due s) = true →
    isOvertaken s .settleTimerExpiry = false →
    ∃ t, exec .settleTimerExpiry s = .next t ∧ t.now = max s.now tm.due ∧
      t.brs.sbHoldoff = true ∧ t.brs.ebHoldoff = true ∧ t.brs.causes = s.brs.causes ∧
      t.brs.refreshTimer = some ⟨t.now, t.now + s.params.tDrv⟩ ∧
      t.psu.furthest = some s.psu.count ∧
      t.clc.basis = some (if s.psu.ref = .referenced then .profile else .cap) ∧
      t.trc.trip = { s.trc.trip with peak := some 0, margin := none } ∧ t.trc.settleTimer = none ∧
      (¬ (s.brs.sbFb = .released ∧ s.brs.ebFb = .released) →
        t.trc.state = .release ∧ t.brs.drivePermit = false ∧
        t.brs.releaseWait = some ⟨t.now, t.now + s.params.brkFbTmo⟩) ∧
      (s.brs.sbFb = .released ∧ s.brs.ebFb = .released →
        t.trc.state = .running ∧ t.brs.drivePermit = true ∧ t.brs.releaseWait = none) ∧
      KeepsBut [.now, .psu, .clc, .brs, .trc, .dri] s t) ∧
  (∀ s : State, s.pins.resetLow = false → s.trc.settleTimer = none →
    ∃ t, exec .settleTimerExpiry s = .next t ∧ KeepsBut [] s t) ∧
  (∀ (tm : Timer) (s : State), s.pins.resetLow = false → s.trc.settleTimer = some tm → s.trc.state = .settle →
    s.brs.stage = .none → s.brs.causes = [] → allLocked (advanceTo tm.due s) = false →
    isOvertaken s .settleTimerExpiry = false →
    ∃ t, exec .settleTimerExpiry s = .next t ∧ t.now = max s.now tm.due ∧
      t.trc.state = .braking ∧ t.brs.stage = .service ∧
      t.brs.drivePermit = false ∧ t.brs.sbHoldoff = false ∧ t.brs.ebHoldoff = true ∧ t.brs.releaseWait = none ∧
      (∀ c, isFresh (advanceTo tm.due s) c = false → (c = .a ∨ isFresh (advanceTo tm.due s) .a = true) →
        ⟨.carSilent, .silentCar c (t.now - (s.cru.get c).takenAt)⟩ ∈ t.brs.causes) ∧
      (∀ c, isFresh (advanceTo tm.due s) c = true → bothLocked (s.cru.get c).poll = false →
        ∃ o d, isFresh (advanceTo tm.due s) o = true ∧ doorState (s.cru.get o).poll d ≠ .locked ∧
          ⟨.doorOpen, .door o d (doorState (s.cru.get o).poll d)⟩ ∈ t.brs.causes) ∧
      KeepsBut [.now, .psu, .clc, .brs, .trc, .dri, .adm, .notices, .incidents] s t)

/-- O36. EVACUATE of a car in STOPPED_ON_LINE or BRAKING, with a stage standing, standstill confirmed and the service
brake applied, puts the car's evacuation release in force; MAINT RELEASE of a side, off service with no trip in
flight, standstill confirmed and the service brake applied, adds the side; each reply is OK with the car's permits as
they then stand. EVACUATE END and MAINT END take theirs away, MAINT END (ALL) every side, and reply OK whether or not
it was held. An unlisted car or side is refused BAD_VALUE by each; then, in the order of their checks, EVACUATE out of
those trip states or with no stage, and MAINT RELEASE in service or with a trip in flight, are refused WRONG_STATE,
either without standstill MOVING, and either with the service brake not applied WRONG_STATE. A refusal changes
nothing, and an accepted request nothing else. Rests on: section 6.7 (06_door_release.md); section 6.8
(06_door_release.md). -/
def Obligations.DoorReleaseRequests : Prop :=
  (∀ (c : Car) (s : State), s.pins.resetLow = false → (s.trc.state = .stoppedOnLine ∨ s.trc.state = .braking) →
    s.brs.stage ≠ .none → s.psu.still = true → s.brs.sbFb = .applied →
    ∃ t, exec (.evacuate .con (.fields (.listed c))) s = .next t ∧
      Replied .evacuate .con .ok (.permits (permit t c .left) (permit t c .right)) t ∧
      t.dri = { s.dri with evac := s.dri.evac.set c true } ∧ KeepsBut [.dri] s t) ∧
  (∀ (c : Car) (s : State), s.pins.resetLow = false →
    ∃ t, exec (.evacuateEnd .con (.fields (.listed c))) s = .next t ∧ Replied .evacuateEnd .con .ok .nothing t ∧
      t.dri = { s.dri with evac := s.dri.evac.set c false } ∧ KeepsBut [.dri] s t) ∧
  (∀ (c : Car) (d : Side) (s : State), s.pins.resetLow = false → (s.lsu.line = .closed ∨ s.lsu.line = .inspection) →
    inFlight s.trc.state = false → s.psu.still = true → s.brs.sbFb = .applied →
    ∃ t, exec (.maintRelease .con (.fields (.listed c, .listed d))) s = .next t ∧
      Replied .maintRelease .con .ok (.permits (permit t c .left) (permit t c .right)) t ∧
      t.dri = { s.dri with maint := s.dri.maint.set c ((s.dri.maint.get c).set d true) } ∧ KeepsBut [.dri] s t) ∧
  (∀ (c : Car) (d : Side) (s : State), s.pins.resetLow = false →
    ∃ t, exec (.maintEnd .con (.fields (.side (.listed c) (.listed d)))) s = .next t ∧
      Replied .maintEnd .con .ok .nothing t ∧
      t.dri = { s.dri with maint := s.dri.maint.set c ((s.dri.maint.get c).set d false) } ∧ KeepsBut [.dri] s t) ∧
  (∀ s : State, s.pins.resetLow = false →
    ∃ t, exec (.maintEnd .con (.fields .all)) s = .next t ∧ Replied .maintEnd .con .ok .nothing t ∧
      t.dri = { s.dri with maint := ⟨⟨false, false⟩, ⟨false, false⟩⟩ } ∧ KeepsBut [.dri] s t) ∧
  (∀ (code : Nat) (s : State), s.pins.resetLow = false →
    (∃ t, exec (.evacuate .con (.fields (.unlisted code))) s = .next t ∧
      Replied .evacuate .con (.refused .badValue) .nothing t ∧ KeepsBut [] s t) ∧
    (∃ t, exec (.evacuateEnd .con (.fields (.unlisted code))) s = .next t ∧
      Replied .evacuateEnd .con (.refused .badValue) .nothing t ∧ KeepsBut [] s t) ∧
    (∀ d, ∃ t, exec (.maintRelease .con (.fields (.unlisted code, d))) s = .next t ∧
      Replied .maintRelease .con (.refused .badValue) .nothing t ∧ KeepsBut [] s t) ∧
    (∀ d, ∃ t, exec (.maintEnd .con (.fields (.side (.unlisted code) d))) s = .next t ∧
      Replied .maintEnd .con (.refused .badValue) .nothing t ∧ KeepsBut [] s t)) ∧
  (∀ (c : Car) (code : Nat) (s : State), s.pins.resetLow = false →
    (∃ t, exec (.maintRelease .con (.fields (.listed c, .unlisted code))) s = .next t ∧
      Replied .maintRelease .con (.refused .badValue) .nothing t ∧ KeepsBut [] s t) ∧
    (∃ t, exec (.maintEnd .con (.fields (.side (.listed c) (.unlisted code)))) s = .next t ∧
      Replied .maintEnd .con (.refused .badValue) .nothing t ∧ KeepsBut [] s t)) ∧
  (∀ (c : Car) (s : State), s.pins.resetLow = false →
    (¬ (s.trc.state = .stoppedOnLine ∨ s.trc.state = .braking) ∨ s.brs.stage = .none ∨
        (s.psu.still = true ∧ s.brs.sbFb ≠ .applied) →
      ∃ t, exec (.evacuate .con (.fields (.listed c))) s = .next t ∧
        Replied .evacuate .con (.refused .wrongState) .nothing t ∧ KeepsBut [] s t) ∧
    ((s.trc.state = .stoppedOnLine ∨ s.trc.state = .braking) → s.brs.stage ≠ .none → s.psu.still = false →
      ∃ t, exec (.evacuate .con (.fields (.listed c))) s = .next t ∧
        Replied .evacuate .con (.refused .moving) .nothing t ∧ KeepsBut [] s t)) ∧
  (∀ (c : Car) (d : Side) (s : State), s.pins.resetLow = false →
    (¬ (s.lsu.line = .closed ∨ s.lsu.line = .inspection) ∨ inFlight s.trc.state = true ∨
        (s.psu.still = true ∧ s.brs.sbFb ≠ .applied) →
      ∃ t, exec (.maintRelease .con (.fields (.listed c, .listed d))) s = .next t ∧
        Replied .maintRelease .con (.refused .wrongState) .nothing t ∧ KeepsBut [] s t) ∧
    ((s.lsu.line = .closed ∨ s.lsu.line = .inspection) → inFlight s.trc.state = false → s.psu.still = false →
      ∃ t, exec (.maintRelease .con (.fields (.listed c, .listed d))) s = .next t ∧
        Replied .maintRelease .con (.refused .moving) .nothing t ∧ KeepsBut [] s t))

/-- O37. The release permit of a side of a car is on exactly where the drive permit is off, standstill is confirmed, the
service brake shows APPLIED and the car's report is fresh, and one of three grounds stands: in service in DWELL or
CLOSING with the stage NONE, the side serves the alight platform bound to the car, or in phase BOARDING its board
platform; an evacuation release on the walkway side in STOPPED_ON_LINE or BRAKING; or a maintenance release off
service with no trip in flight. For every command and every state: if the stage is higher after the command than
before it, then no evacuation release and no maintenance release is in force after it, and no release permit of any
side of any car is on. Rests on: section 6.9 (06_door_release.md); section 4.1 (04_brake_supervision.md); section 6.2
(06_door_release.md); section 6.3 (06_door_release.md). -/
def Obligations.RiseWithdrawsPermits : Prop :=
  (∀ (s : State) (car : Car) (d : Side), permit s car d = true ↔ ReleasePermitted s car d) ∧
  (∀ (c : Instr) (s t : State), exec c s = .next t → s.brs.stage.rank < t.brs.stage.rank →
    t.dri.evac = ⟨false, false⟩ ∧ t.dri.maint = ⟨⟨false, false⟩, ⟨false, false⟩⟩ ∧
    ∀ car d, permit t car d = false)

/-- O38. ADMIT of a configured ENTRY lane of the requester's own station: with the lane ENABLED, no reservation open on
it, a car bound to its platform, the window open and room in the car, an entry with its lapse timer joins the
reservation list, the lane's lapsed mark is cleared, and the reply carries the car and the places left. Otherwise the
first of LANE_FAULT, BUSY, CLOSED and FULL is the refusal. A lane that is not configured is refused BAD_VALUE, another
station's NOT_YOURS, an EXIT lane BAD_VALUE, in that order and before these. Nothing else changes. Rests on: section
7.3 (07_gates_admission_and_car_load.md). -/
def Obligations.AdmitGrants : Prop :=
  (∀ (r : LaneRef) (l : Lane) (s : State), s.pins.resetLow = false → namedLane s r = some l → l.kind = .entry →
    (∀ c, laneEnabled s l.id = true → reservationOf s l.id = none → boundCar s l.platform = some c →
      admissionOpen s (berthOf l.platform) = true → hasRoom s c = true →
      ∃ t, exec (.admitPerson (gateStation l.id.gate) (.fields r)) s = .next t ∧
        Replied .admitPerson (gateStation l.id.gate) .ok
          (.granted c (s.params.capacity - ((s.adm.loads.get c).aboard + reservedFor s c + 1))) t ∧
        t.adm =
          { s.adm with
            lanes := s.adm.lanes.map fun o => if o.id = l.id then { o with lapsed := false } else o
            reservations :=
              s.adm.reservations ++ [⟨l.id, l.platform, c, ⟨s.now, s.now + s.params.passTmo * 1000⟩⟩] } ∧
        KeepsBut [.adm] s t) ∧
    (laneEnabled s l.id = false →
      ∃ t, exec (.admitPerson (gateStation l.id.gate) (.fields r)) s = .next t ∧
        Replied .admitPerson (gateStation l.id.gate) (.refused .laneFault) .nothing t ∧ KeepsBut [] s t) ∧
    (laneEnabled s l.id = true → (reservationOf s l.id).isSome = true →
      ∃ t, exec (.admitPerson (gateStation l.id.gate) (.fields r)) s = .next t ∧
        Replied .admitPerson (gateStation l.id.gate) (.refused .busy) .nothing t ∧ KeepsBut [] s t) ∧
    (laneEnabled s l.id = true → reservationOf s l.id = none →
      (boundCar s l.platform = none ∨ admissionOpen s (berthOf l.platform) = false) →
      ∃ t, exec (.admitPerson (gateStation l.id.gate) (.fields r)) s = .next t ∧
        Replied .admitPerson (gateStation l.id.gate) (.refused .closed) .nothing t ∧ KeepsBut [] s t) ∧
    (∀ c, laneEnabled s l.id = true → reservationOf s l.id = none → boundCar s l.platform = some c →
      admissionOpen s (berthOf l.platform) = true → hasRoom s c = false →
      ∃ t, exec (.admitPerson (gateStation l.id.gate) (.fields r)) s = .next t ∧
        Replied .admitPerson (gateStation l.id.gate) (.refused .full) (.full c) t ∧ KeepsBut [] s t)) ∧
  (∀ (st : Station) (r : LaneRef) (why : Reason) (s : State), Heard .admitPerson st s → LaneRefusal s st r .entry why →
    ∃ t, exec (.admitPerson st (.fields r)) s = .next t ∧ Replied .admitPerson st (.refused why) .nothing t ∧ KeepsBut [] s t)

/-- O39. PASSED of a configured ENTRY lane of the requester's own station: with a reservation open the entry goes, one
more person is aboard its car and the lane's lapses are 0, and where it was the last entry in CLOSING the trip enters
DOORS, and where every door is LOCKED SETTLE with it, and with a SETTLE_T of 0 RELEASE; with none and the lapsed mark
set the mark goes and the person is counted at the lane's platform; with neither the person is counted there, the lane
goes to FAULT, and LANE_FAULT is pending for the station and CON. The reply carries the kind and the place: the car
bound to the platform, aboard while its aboard count and reservations are below CAPACITY and else uncounted, or with
no car bound the platform. A lane that is not configured is refused BAD_VALUE, another station's NOT_YOURS, an EXIT
lane BAD_VALUE. Nothing else changes. Where a person through a lane laid on an alight platform is counted is the
model's choice (log 41). Rests on: section 7.4 (07_gates_admission_and_car_load.md); section 7.5
(07_gates_admission_and_car_load.md); section 5.6 (05_trip_requests_and_the_trip.md); section 7.3
(07_gates_admission_and_car_load.md); section 1.3 (01_line_description_and_configuration.md). -/
def Obligations.PassageCounted : Prop :=
  (∀ (r : LaneRef) (l : Lane) (s : State), s.pins.resetLow = false → namedLane s r = some l → l.kind = .entry →
    (∀ e, reservationOf s l.id = some e → isClosing s.trc.state = false ∨ othersWait s l.id = true →
      ∃ t, exec (.passed (gateStation l.id.gate) (.fields r)) s = .next t ∧
        Replied .passed (gateStation l.id.gate) .ok (.passage .reserved (.aboard e.car)) t ∧
        t.adm.reservations = s.adm.reservations.filter (fun x => x.lane ≠ l.id) ∧
        CountedAtPlace (.aboard e.car) s t ∧
        t.adm.lanes = s.adm.lanes.map (fun o => if o.id = l.id then { o with lapses := 0 } else o) ∧
        t.adm.releaseMark = s.adm.releaseMark ∧ KeepsBut [.adm] s t) ∧
    (∀ k e, s.trc.state = .closing k → s.adm.reservations = [e] → e.lane = l.id →
      ∃ t, exec (.passed (gateStation l.id.gate) (.fields r)) s = .next t ∧
        Replied .passed (gateStation l.id.gate) .ok (.passage .reserved (.aboard e.car)) t ∧
        CountedAtPlace (.aboard e.car) s t ∧
        t.adm.lanes = s.adm.lanes.map (fun o => if o.id = l.id then { o with lapses := 0 } else o) ∧
        ClosingEnds s t) ∧
    (reservationOf s l.id = none → laneLapsed s l.id = true →
      ∃ t, exec (.passed (gateStation l.id.gate) (.fields r)) s = .next t ∧
        Replied .passed (gateStation l.id.gate) .ok (.passage .late (countPlace s l.platform)) t ∧
        t.adm.reservations = s.adm.reservations ∧ CountedAtPlace (countPlace s l.platform) s t ∧
        t.adm.lanes = s.adm.lanes.map (fun o => if o.id = l.id then { o with lapsed := false } else o) ∧
        t.adm.releaseMark = s.adm.releaseMark ∧ KeepsBut [.adm] s t) ∧
    (reservationOf s l.id = none → laneLapsed s l.id = false →
      ∃ t, exec (.passed (gateStation l.id.gate) (.fields r)) s = .next t ∧
        Replied .passed (gateStation l.id.gate) .ok (.passage .unauthorised (countPlace s l.platform)) t ∧
        t.adm.reservations = s.adm.reservations ∧ CountedAtPlace (countPlace s l.platform) s t ∧
        t.adm.lanes = s.adm.lanes.map (fun o => if o.id = l.id then { o with state := .fault } else o) ∧
        t.adm.releaseMark = s.adm.releaseMark ∧
        isPending (t.niu.notices.get (gateStation l.id.gate)) .laneFault = true ∧
        isPending (t.niu.notices.get .con) .laneFault = true ∧ KeepsBut [.adm, .notices] s t)) ∧
  (∀ (st : Station) (r : LaneRef) (why : Reason) (s : State), Heard .passed st s → LaneRefusal s st r .entry why →
    ∃ t, exec (.passed st (.fields r)) s = .next t ∧ Replied .passed st (.refused why) .nothing t ∧ KeepsBut [] s t) ∧
  ∀ (s : State) (pf : Platform), PersonCountedAt s pf (countPlace s pf)

/-- O40. ABANDONED of an ENTRY lane with a reservation open takes the entry away and makes the lane's lapses 0, and
without one is refused NO_RESERVATION. LAPSE, not overtaken (log 47), of a lane with a reservation open takes the
entry away, sets the lapsed mark and counts the lapse, and puts the lane into FAULT at the third in a row; the clock
stands no earlier than the entry's expiry (log 2). While other entries are open, and out of CLOSING, nothing else
changes but the notices of a lane put into FAULT. Where the last entry ends in CLOSING by either, the trip enters
DOORS with the door close timer running, and where every door is LOCKED SETTLE with it, the counts frozen and the
derating formed, and with a SETTLE_T of 0 RELEASE. A LAPSE of a lane without an entry changes nothing (log 2). An
ABANDONED of a lane that is not configured is refused BAD_VALUE, of another station's NOT_YOURS, of an EXIT lane
BAD_VALUE. Rests on: section 7.5 (07_gates_admission_and_car_load.md); section 5.6 (05_trip_requests_and_the_trip.md);
section 7.3 (07_gates_admission_and_car_load.md); section 6.4 (06_door_release.md). -/
def Obligations.ReservationsEnd : Prop :=
  (∀ (r : LaneRef) (l : Lane) (s : State), s.pins.resetLow = false → namedLane s r = some l → l.kind = .entry →
    ((reservationOf s l.id).isSome = true → isClosing s.trc.state = false ∨ othersWait s l.id = true →
      ∃ t, exec (.abandoned (gateStation l.id.gate) (.fields r)) s = .next t ∧
        Replied .abandoned (gateStation l.id.gate) .ok .nothing t ∧
        t.adm =
          { s.adm with
            lanes := s.adm.lanes.map fun o => if o.id = l.id then { o with lapses := 0 } else o
            reservations := s.adm.reservations.filter fun x => x.lane ≠ l.id } ∧
        KeepsBut [.adm] s t) ∧
    (reservationOf s l.id = none →
      ∃ t, exec (.abandoned (gateStation l.id.gate) (.fields r)) s = .next t ∧
        Replied .abandoned (gateStation l.id.gate) (.refused .noReservation) .nothing t ∧ KeepsBut [] s t) ∧
    (∀ k e, s.trc.state = .closing k → s.adm.reservations = [e] → e.lane = l.id →
      ∃ t, exec (.abandoned (gateStation l.id.gate) (.fields r)) s = .next t ∧
        Replied .abandoned (gateStation l.id.gate) .ok .nothing t ∧ t.adm.loads = s.adm.loads ∧
        t.adm.lanes = s.adm.lanes.map (fun o => if o.id = l.id then { o with lapses := 0 } else o) ∧
        ClosingEnds s t)) ∧
  (∀ (id : LaneId) (e : Reservation) (s : State), s.pins.resetLow = false → reservationOf s id = some e →
    isClosing s.trc.state = false ∨ othersWait s id = true →
    isOvertaken s (.lapse id) = false →
    ∃ t, exec (.lapse id) s = .next t ∧ t.now = max s.now e.timer.due ∧
      t.adm =
        { s.adm with
          lanes := s.adm.lanes.map fun o =>
            if o.id = id then
              { o with
                lapsed := true, lapses := min 3 (o.lapses + 1)
                state := if min 3 (o.lapses + 1) = 3 then .fault else o.state }
            else o
          reservations := s.adm.reservations.filter fun x => x.lane ≠ id } ∧
      (∀ o, laneOpAt s id = some o → 2 ≤ o.lapses →
        isPending (t.niu.notices.get (gateStation id.gate)) .laneFault = true ∧
        isPending (t.niu.notices.get .con) .laneFault = true) ∧
      (∀ o, laneOpAt s id = some o → o.lapses < 2 → KeepsBut [.adm, .now] s t) ∧
      KeepsBut [.adm, .now, .notices] s t) ∧
  (∀ (id : LaneId) (e : Reservation) (k : Stop) (s : State), s.pins.resetLow = false → s.trc.state = .closing k →
    s.adm.reservations = [e] → e.lane = id →
    isOvertaken s (.lapse id) = false →
    ∃ t, exec (.lapse id) s = .next t ∧ t.now = max s.now e.timer.due ∧ t.adm.loads = s.adm.loads ∧
      t.adm.lanes = s.adm.lanes.map (fun o =>
        if o.id = id then
          { o with
            lapsed := true, lapses := min 3 (o.lapses + 1)
            state := if min 3 (o.lapses + 1) = 3 then .fault else o.state }
        else o) ∧ ClosingEnds s t) ∧
  (∀ (id : LaneId) (s : State), s.pins.resetLow = false → reservationOf s id = none →
    ∃ t, exec (.lapse id) s = .next t ∧ KeepsBut [] s t) ∧
  (∀ (st : Station) (r : LaneRef) (why : Reason) (s : State), Heard .abandoned st s → LaneRefusal s st r .entry why →
    ∃ t, exec (.abandoned st (.fields r)) s = .next t ∧ Replied .abandoned st (.refused why) .nothing t ∧ KeepsBut [] s t)

/-- O41. EXITED of an EXIT lane whose platform's alighting window is open lowers the bound car's aboard count, not below
0, and carries the car and the count; otherwise it changes nothing. ENABLE LANE makes a configured lane ENABLED
without marks or lapses; DISABLE LANE makes it DISABLED and ends its reservation with the lapsed mark set; where that
was the last entry in CLOSING the trip enters DOORS, and where every door is LOCKED SETTLE with it, and with a
SETTLE_T of 0 RELEASE. ADJUST LOAD with no trip in flight sets the car's aboard count to the value, kept in 0 up to
CAPACITY less its reservations, and is refused WRONG_STATE with a trip in flight. CLEAR ALARM clears the car's latch
and its mirror unless protected. EXITED of another station's lane is refused NOT_YOURS, and of an ENTRY lane
BAD_VALUE; so is by each a lane that is not configured and a car that is not listed. Nothing else changes. Rests on:
section 7.6 (07_gates_admission_and_car_load.md); section 7.8 (07_gates_admission_and_car_load.md); section 7.7
(07_gates_admission_and_car_load.md); section 7.3 (07_gates_admission_and_car_load.md); section 7.5
(07_gates_admission_and_car_load.md); section 5.6 (05_trip_requests_and_the_trip.md). -/
def Obligations.ExitsLanesAndLoads : Prop :=
  (∀ (r : LaneRef) (l : Lane) (s : State), s.pins.resetLow = false → namedLane s r = some l → l.kind = .exit →
    (∀ c, alightingOpen s (berthOf l.platform) = true → boundCar s l.platform = some c →
      ∃ t, exec (.exited (gateStation l.id.gate) (.fields r)) s = .next t ∧
        Replied .exited (gateStation l.id.gate) .ok (.exit (some (c, (s.adm.loads.get c).aboard - 1))) t ∧
        t.adm =
          { s.adm with
            loads := s.adm.loads.set c { s.adm.loads.get c with aboard := (s.adm.loads.get c).aboard - 1 } } ∧
        KeepsBut [.adm] s t) ∧
    (alightingOpen s (berthOf l.platform) = false →
      ∃ t, exec (.exited (gateStation l.id.gate) (.fields r)) s = .next t ∧
        Replied .exited (gateStation l.id.gate) .ok (.exit none) t ∧ KeepsBut [] s t)) ∧
  (∀ (r : LaneRef) (l : Lane) (s : State), s.pins.resetLow = false → namedLane s r = some l →
    (∃ t, exec (.enableLane .con (.fields r)) s = .next t ∧ Replied .enableLane .con .ok .nothing t ∧
      t.adm =
        { s.adm with
          lanes := s.adm.lanes.map fun o =>
            if o.id = l.id then { o with state := .enabled, lapsed := false, lapses := 0 } else o } ∧
      KeepsBut [.adm] s t) ∧
    (∀ k e, s.trc.state = .closing k → s.adm.reservations = [e] → e.lane = l.id →
      ∃ t, exec (.disableLane .con (.fields r)) s = .next t ∧ Replied .disableLane .con .ok .nothing t ∧
        t.adm.loads = s.adm.loads ∧
        t.adm.lanes = s.adm.lanes.map (fun o => if o.id = l.id then { o with state := .disabled, lapsed := true } else o) ∧
        ClosingEnds s t) ∧
    (isClosing s.trc.state = false ∨ reservationOf s l.id = none ∨ othersWait s l.id = true →
      ∃ t, exec (.disableLane .con (.fields r)) s = .next t ∧ Replied .disableLane .con .ok .nothing t ∧
        t.adm =
          { s.adm with
            lanes := s.adm.lanes.map fun o =>
              if o.id = l.id then
                { o with state := .disabled, lapsed := o.lapsed || (reservationOf s l.id).isSome }
              else o
            reservations := s.adm.reservations.filter fun x => x.lane ≠ l.id } ∧
        KeepsBut [.adm] s t)) ∧
  (∀ (c : Car) (v : Int) (s : State), s.pins.resetLow = false →
    (inFlight s.trc.state = false →
      ∃ t, exec (.adjustLoad .con (.fields (.listed c, v))) s = .next t ∧
        Replied .adjustLoad .con
          (if (clampNat 0 (s.params.capacity - reservedFor s c) v : Int) = v then .ok else .clamped)
          (.aboard (clampNat 0 (s.params.capacity - reservedFor s c) v)) t ∧
        t.adm =
          { s.adm with
            loads := s.adm.loads.set c
              { s.adm.loads.get c with aboard := clampNat 0 (s.params.capacity - reservedFor s c) v } } ∧
        KeepsBut [.adm] s t) ∧
    (inFlight s.trc.state = true →
      ∃ t, exec (.adjustLoad .con (.fields (.listed c, v))) s = .next t ∧
        Replied .adjustLoad .con (.refused .wrongState) .nothing t ∧ KeepsBut [] s t)) ∧
  (∀ (c : Car) (s : State), s.pins.resetLow = false →
    (flagProtection s = false →
      ∃ t, exec (.clearAlarm .con (.fields (.listed c))) s = .next t ∧ Replied .clearAlarm .con .ok .nothing t ∧
        t.cru = s.cru.set c { s.cru.get c with latch := false } ∧
        t.adm = { s.adm with loads := s.adm.loads.set c { s.adm.loads.get c with alarmMirror := false } } ∧
        KeepsBut [.cru, .adm] s t) ∧
    (flagProtection s = true →
      ∃ t, exec (.clearAlarm .con (.fields (.listed c))) s = .next t ∧
        Replied .clearAlarm .con (.refused .flagProtected) .nothing t ∧ KeepsBut [] s t)) ∧
  (∀ (st : Station) (r : LaneRef) (why : Reason) (s : State), Heard .exited st s → LaneRefusal s st r .exit why →
    ∃ t, exec (.exited st (.fields r)) s = .next t ∧ Replied .exited st (.refused why) .nothing t ∧ KeepsBut [] s t) ∧
  (∀ (r : LaneRef) (s : State), s.pins.resetLow = false → namedLane s r = none →
    (∃ t, exec (.enableLane .con (.fields r)) s = .next t ∧
      Replied .enableLane .con (.refused .badValue) .nothing t ∧ KeepsBut [] s t) ∧
    (∃ t, exec (.disableLane .con (.fields r)) s = .next t ∧
      Replied .disableLane .con (.refused .badValue) .nothing t ∧ KeepsBut [] s t)) ∧
  (∀ (code : Nat) (v : Int) (s : State), s.pins.resetLow = false →
    (∃ t, exec (.adjustLoad .con (.fields (.unlisted code, v))) s = .next t ∧
      Replied .adjustLoad .con (.refused .badValue) .nothing t ∧ KeepsBut [] s t) ∧
    (∃ t, exec (.clearAlarm .con (.fields (.unlisted code))) s = .next t ∧
      Replied .clearAlarm .con (.refused .badValue) .nothing t ∧ KeepsBut [] s t))

/-- O42. CLEAR UNCOUNTED is refused NOT_YOURS from any station but CON. From CON, in every trip state, a target other than
a car and a board platform is refused BAD_VALUE; under flag protection a listed target is refused PROTECTED and
nothing changes; otherwise the target's uncounted count becomes 0, the reply is OK, and nothing else changes. Rules:
R139. -/
def Obligations.ClearUncountedRule : Prop :=
  (∀ (st : Station) (p : Payload (Coded UncountedTarget)) (s : State), s.pins.resetLow = false → st ≠ .con →
    ∃ t, exec (.clearUncounted st p) s = .next t ∧
      Replied .clearUncounted st (.refused .notYours) .nothing t ∧ KeepsBut [] s t) ∧
  (∀ (code : Nat) (s : State), s.pins.resetLow = false →
    ∃ t, exec (.clearUncounted .con (.fields (.unlisted code))) s = .next t ∧
      Replied .clearUncounted .con (.refused .badValue) .nothing t ∧ KeepsBut [] s t) ∧
  (∀ (target : UncountedTarget) (s : State), s.pins.resetLow = false → flagProtection s = true →
    ∃ t, exec (.clearUncounted .con (.fields (.listed target))) s = .next t ∧
      Replied .clearUncounted .con (.refused .flagProtected) .nothing t ∧ KeepsBut [] s t) ∧
  (∀ (c : Car) (s : State), s.pins.resetLow = false → flagProtection s = false →
    ∃ t, exec (.clearUncounted .con (.fields (.listed (.car c)))) s = .next t ∧
      Replied .clearUncounted .con .ok .nothing t ∧
      t.adm = { s.adm with loads := s.adm.loads.set c { s.adm.loads.get c with uncounted := 0 } } ∧
      KeepsBut [.adm] s t) ∧
  (∀ (b : Berth) (s : State), s.pins.resetLow = false → flagProtection s = false →
    ∃ t, exec (.clearUncounted .con (.fields (.listed (.board b)))) s = .next t ∧
      Replied .clearUncounted .con .ok .nothing t ∧
      t.adm = { s.adm with uncounted := s.adm.uncounted.set b 0 } ∧ KeepsBut [.adm] s t)

/-- O43. On a CLOSED line at a stop with every check of OPEN passing: the line is IN_SERVICE, the trip state DWELL at the
stop with MIN_DWELL running and not elapsed, the reservation list empty, the door releases gone, the admission release
mark set exactly for an ALIGHT_LEAD of 0 and the dwell phase and lead timer to match; LINE_STATE is pending for every
master, and each board platform that becomes bound hands its uncounted count to its car; the reply is OK with the
stop. A line that is not CLOSED is refused WRONG_STATE; the first check of the table that fails is refused
CAUSE_PRESENT with its item; a refused OPEN changes nothing. A report is judged fresh as it is read (log 6). Rests on:
section 8.2 (08_line_states_and_inspection.md); section 5.6 (05_trip_requests_and_the_trip.md); section 6.3
(06_door_release.md); section 8.1 (08_line_states_and_inspection.md); section 7.7
(07_gates_admission_and_car_load.md); section 1.2 (01_line_description_and_configuration.md). -/
def Obligations.OpenLineRequest : Prop :=
  (∀ (k : Stop) (s : State), s.pins.resetLow = false → s.lsu.line = .closed → openCheck s = none → stopHere s = some k →
    ∃ t, exec (.openLine .con (.fields ())) s = .next t ∧ Replied .openLine .con .ok (.opened k .inService) t ∧
      t.lsu = { s.lsu with line := .inService } ∧ t.trc.state = .dwell k ∧ t.trc.elapsed = false ∧
      t.trc.minDwell = some ⟨s.now, s.now + s.params.minDwell * 1000⟩ ∧
      t.trc.slot0 = s.trc.slot0 ∧ t.trc.slot1 = s.trc.slot1 ∧ t.trc.trip = s.trc.trip ∧
      t.adm.reservations = [] ∧ t.dri.evac = ⟨false, false⟩ ∧ t.dri.maint = ⟨⟨false, false⟩, ⟨false, false⟩⟩ ∧
      t.adm.releaseMark = decide (s.params.alightLead = 0) ∧
      t.dri.phase = (if s.params.alightLead = 0 then .boarding else .alighting) ∧
      t.dri.leadTimer =
        (if s.params.alightLead = 0 then none else some ⟨s.now, s.now + s.params.alightLead * 1000⟩) ∧
      LineStateHanded .closed .inService s t ∧ Transferred k s t ∧
      KeepsBut [.psu, .clc, .brs, .trc, .dri, .adm, .lsu, .notices] s t) ∧
  (∀ s : State, s.pins.resetLow = false → s.lsu.line ≠ .closed →
    ∃ t, exec (.openLine .con (.fields ())) s = .next t ∧ Replied .openLine .con (.refused .wrongState) .nothing t ∧
      KeepsBut [] s t) ∧
  (∀ (why : SubReason) (s : State), s.pins.resetLow = false → s.lsu.line = .closed → openCheck s = some why →
    ∃ t, exec (.openLine .con (.fields ())) s = .next t ∧
      Replied .openLine .con (.refused (.causePresent why)) (.causePresent why) t ∧ KeepsBut [] s t) ∧
  (∀ s : State, FirstFailure 2 8 (OpenHolds s) (OpenReason s) (openCheck s) ∧ ∀ k, stopHere s = some k → AtStop s k)

/-- O44. CLOSE in service, and INSPECTION LEAVE in inspection, with no trip in flight and, for CLOSE, no reservation,
leave the line CLOSED with trip state NONE and both slots EMPTY. INSPECTION ENTER on a committed store, with no trip
in flight and no reservation in service, leaves the line in INSPECTION with the effective mode INSPECTION, both slots
EMPTY, and the trip state DWELL at the stop it is trusted to be at, else STOPPED_ON_LINE; a board platform that
becomes bound there hands its uncounted count to its car. After each LINE_STATE is pending for every master, and
ADMISSION_CLOSED, with the platforms whose windows closed, for their gate station. Wrong line states are refused
WRONG_STATE, a trip in flight or an open reservation BUSY, an uncommitted store CAUSE_PRESENT; a refusal changes
nothing. Rests on: section 8.3 (08_line_states_and_inspection.md); section 8.4 (08_line_states_and_inspection.md);
section 8.1 (08_line_states_and_inspection.md); section 7.7 (07_gates_admission_and_car_load.md); section 7.2
(07_gates_admission_and_car_load.md); section 10.1 (10_notices_incidents_and_reset_causes.md). -/
def Obligations.CloseAndInspection : Prop :=
  (∀ s : State, s.pins.resetLow = false → s.lsu.line = .inService → inFlight s.trc.state = false →
    s.adm.reservations = [] →
    ∃ t, exec (.closeLine .con (.fields ())) s = .next t ∧ Replied .closeLine .con .ok .nothing t ∧
      t.lsu = { s.lsu with line := .closed } ∧ t.trc.state = .none ∧ t.trc.slot0 = .empty ∧ t.trc.slot1 = .empty ∧
      LineStateHanded .inService .closed s t ∧ WindowsHanded s t ∧
      KeepsBut [.psu, .clc, .brs, .trc, .dri, .adm, .lsu, .notices] s t) ∧
  (∀ s : State, s.pins.resetLow = false → s.lsu.line = .inspection → inFlight s.trc.state = false →
    ∃ t, exec (.inspectionLeave .con (.fields ())) s = .next t ∧ Replied .inspectionLeave .con .ok .nothing t ∧
      t.lsu = { s.lsu with line := .closed } ∧ t.trc.state = .none ∧ t.trc.slot0 = .empty ∧ t.trc.slot1 = .empty ∧
      LineStateHanded .inspection .closed s t ∧
      KeepsBut [.psu, .clc, .brs, .trc, .dri, .adm, .lsu, .notices] s t) ∧
  (∀ s : State, s.pins.resetLow = false → s.lsu.line ≠ .inspection → s.cfg.committed = true →
    (s.lsu.line = .inService → inFlight s.trc.state = false ∧ s.adm.reservations = []) →
    ∃ t, exec (.inspectionEnter .con (.fields ())) s = .next t ∧
      Replied .inspectionEnter .con .ok (.tripState (restState s)) t ∧
      t.lsu = { s.lsu with line := .inspection } ∧ t.trc.state = restState s ∧ t.trc.effMode = .inspection ∧
      t.trc.slot0 = .empty ∧ t.trc.slot1 = .empty ∧ t.adm.reservations = [] ∧
      LineStateHanded s.lsu.line .inspection s t ∧ WindowsHanded s t ∧ (∀ k, restState s = .dwell k → Transferred k s t) ∧
      KeepsBut [.psu, .clc, .brs, .trc, .dri, .adm, .lsu, .notices] s t) ∧
  (∀ s : State, s.pins.resetLow = false →
    (s.lsu.line ≠ .inService →
      ∃ t, exec (.closeLine .con (.fields ())) s = .next t ∧ Replied .closeLine .con (.refused .wrongState) .nothing t ∧
        KeepsBut [] s t) ∧
    (s.lsu.line ≠ .inspection →
      ∃ t, exec (.inspectionLeave .con (.fields ())) s = .next t ∧
        Replied .inspectionLeave .con (.refused .wrongState) .nothing t ∧ KeepsBut [] s t) ∧
    (s.lsu.line = .inspection →
      ∃ t, exec (.inspectionEnter .con (.fields ())) s = .next t ∧
        Replied .inspectionEnter .con (.refused .wrongState) .nothing t ∧ KeepsBut [] s t) ∧
    (s.lsu.line ≠ .inspection → s.cfg.committed = false →
      ∃ t, exec (.inspectionEnter .con (.fields ())) s = .next t ∧
        Replied .inspectionEnter .con (.refused (.causePresent .uncommitted)) (.causePresent .uncommitted) t ∧
        KeepsBut [] s t) ∧
    (s.lsu.line = .inService → inFlight s.trc.state = true →
      ∃ t, exec (.closeLine .con (.fields ())) s = .next t ∧ Replied .closeLine .con (.refused .busy) .nothing t ∧
        KeepsBut [] s t) ∧
    (s.lsu.line = .inService → inFlight s.trc.state = false → s.adm.reservations ≠ [] →
      ∃ t, exec (.closeLine .con (.fields ())) s = .next t ∧
        Replied .closeLine .con (.refused .busy) (.entries s.adm.reservations.length) t ∧ KeepsBut [] s t) ∧
    (s.lsu.line = .inspection → inFlight s.trc.state = true →
      ∃ t, exec (.inspectionLeave .con (.fields ())) s = .next t ∧
        Replied .inspectionLeave .con (.refused .busy) .nothing t ∧ KeepsBut [] s t) ∧
    (s.lsu.line = .inService → s.cfg.committed = true → inFlight s.trc.state = true →
      ∃ t, exec (.inspectionEnter .con (.fields ())) s = .next t ∧
        Replied .inspectionEnter .con (.refused .busy) .nothing t ∧ KeepsBut [] s t) ∧
    (s.lsu.line = .inService → s.cfg.committed = true → inFlight s.trc.state = false → s.adm.reservations ≠ [] →
      ∃ t, exec (.inspectionEnter .con (.fields ())) s = .next t ∧
        Replied .inspectionEnter .con (.refused .busy) (.entries s.adm.reservations.length) t ∧ KeepsBut [] s t))

/-- O45. SET REFERENCE of a stop that exists, in CLOSED or INSPECTION with no trip in flight and standstill confirmed: P
is the stop's position, kept within 2,000 cm beyond the terminals, the state REFERENCED, no marker expected, and the
reply OK with both. It is refused WRONG_STATE, BAD_VALUE and MOVING in that order. SET CLEAR IN INSPECTION on a CLOSED
line sets the setting and carries it, and on any other line is refused WRONG_STATE; a value that is not listed is
refused BAD_VALUE on a CLOSED line and WRONG_STATE on any other, which is the model's choice (log 36). Nothing else
changes. Rests on: section 2.2 (02_position_speed_and_car_reports.md); section 8.5 (08_line_states_and_inspection.md). -/
def Obligations.ReferenceAndProtectionSettings : Prop :=
  (∀ (k : Stop) (s : State), s.pins.resetLow = false → (s.lsu.line = .closed ∨ s.lsu.line = .inspection) →
    inFlight s.trc.state = false → stopExists s.params k = true → s.psu.still = true →
    ∃ t, exec (.setReference .con (.fields (.listed k))) s = .next t ∧
      Replied .setReference .con .ok (.reference (pos t) .referenced) t ∧
      pos t = max (-2000 : Int) (min ((s.params.trackLen : Int) + 2000) (stopPos s.params k)) ∧
      t.psu =
        { s.psu with
          pRef := stopPos s.params k, countRef := s.psu.count, ref := .referenced, expected := ⟨none, none⟩ } ∧
      KeepsBut [.psu] s t) ∧
  (∀ (k : Coded Stop) (s : State), s.pins.resetLow = false →
    (¬ (s.lsu.line = .closed ∨ s.lsu.line = .inspection) ∨ inFlight s.trc.state = true →
      ∃ t, exec (.setReference .con (.fields k)) s = .next t ∧
        Replied .setReference .con (.refused .wrongState) .nothing t ∧ KeepsBut [] s t) ∧
    ((s.lsu.line = .closed ∨ s.lsu.line = .inspection) → inFlight s.trc.state = false →
      (∀ stop, k = .listed stop → stopExists s.params stop = false) →
      ∃ t, exec (.setReference .con (.fields k)) s = .next t ∧
        Replied .setReference .con (.refused .badValue) .nothing t ∧ KeepsBut [] s t) ∧
    (∀ stop, (s.lsu.line = .closed ∨ s.lsu.line = .inspection) → inFlight s.trc.state = false → k = .listed stop →
      stopExists s.params stop = true → s.psu.still = false →
      ∃ t, exec (.setReference .con (.fields k)) s = .next t ∧
        Replied .setReference .con (.refused .moving) .nothing t ∧ KeepsBut [] s t)) ∧
  (∀ (on : Bool) (s : State), s.pins.resetLow = false →
    (s.lsu.line = .closed →
      ∃ t, exec (.setClearInInspection .con (.fields (.listed on))) s = .next t ∧
        Replied .setClearInInspection .con .ok (.setting on) t ∧
        t.lsu = { s.lsu with clearInInspection := on } ∧ KeepsBut [.lsu] s t) ∧
    (s.lsu.line ≠ .closed →
      ∃ t, exec (.setClearInInspection .con (.fields (.listed on))) s = .next t ∧
        Replied .setClearInInspection .con (.refused .wrongState) .nothing t ∧ KeepsBut [] s t)) ∧
  (∀ (code : Nat) (s : State), s.pins.resetLow = false →
    ∃ t, exec (.setClearInInspection .con (.fields (.unlisted code))) s = .next t ∧
      Replied .setClearInInspection .con (.refused (if s.lsu.line = .closed then .badValue else .wrongState)) .nothing t ∧
      KeepsBut [] s t)

/-- O46. For every command and every state: if the line state after the command differs from the one before it, the
command is one of the four console requests on the line state, or a reset after which the line is CLOSED. Rests on:
section 8.1 (08_line_states_and_inspection.md); section 8.6 (08_line_states_and_inspection.md). -/
def Obligations.LineStateChangesByRequest : Prop :=
  ∀ (c : Instr) (s t : State), exec c s = .next t → t.lsu.line ≠ s.lsu.line →
    c = .openLine .con (.fields ()) ∨ c = .closeLine .con (.fields ()) ∨ c = .inspectionEnter .con (.fields ()) ∨
    c = .inspectionLeave .con (.fields ()) ∨ (isReset c = true ∧ t.lsu.line = .closed)

/-- O47. ENCODER EDGE of an UP_A edge adds one to the 32-bit encoder count and of a DOWN_A edge takes one off, wrapping;
nothing else that is held changes, and P is the reference position plus the counts since it, in whole centimetres
rounded down and kept within 2,000 cm beyond the terminals. Rests on: section 2.1
(02_position_speed_and_car_reports.md). -/
def Obligations.EncoderEdgeCounts : Prop :=
  ∀ (dir : TripDir) (s : State), s.pins.resetLow = false →
    ∃ t, exec (.encoderEdge dir) s = .next t ∧
      t.psu = { s.psu with count := match dir with | .upA => s.psu.count + 1 | .downA => s.psu.count - 1 } ∧
      pos t =
        max (-2000 : Int) (min ((s.params.trackLen : Int) + 2000)
          (s.psu.pRef + (t.psu.count - s.psu.countRef).toInt * s.params.kEnc / 65536)) ∧
      KeepsBut [.psu] s t

/-- O48. A SPEED SAMPLE that no reset has overtaken (log 47): the clock stands no earlier than the timer's expiry (log 2);
the rope speed is the absolute count difference times K_ENC over the period, rounded down and at most 4,095 cm/s;
v_eval is the greatest of it and the speeds of the reports then fresh; the rope direction follows the difference, and
the travel direction too where it is not 0; the present count is held where standstill is confirmed and where a trip
leaves its moving states at standstill, in which RELEASE to ARRIVING and BRAKING are one group (log 25); d is the
distance to the target, a negative one taken as 0; the still-sample count goes up by one to at most 50 while v_eval is
at most VSTILL, else to 0, and standstill is confirmed at N_STILL and lost above VSTILL. With a committed store and no
trip moving, C is VCREEP; with an uncommitted store C stays. Each motion monitor whose condition holds is disarmed
and, where it was armed, its cause is in the set with P, v_eval and the trip state; otherwise it is armed. While
REFERENCED and moving in a steady direction, a car more than MK_MISS past its expected marker has missed it: the next
one beyond is expected, and MARKER_MISSED is raised in a moving NORMAL or REDUCED trip, and told as FAULT out of
flight and in an INSPECTION trip. With no stage, a trip in RUNNING goes to ARRIVING at a d of at most STOP_ZONE, and
one in ARRIVING completes at confirmed standstill within ALIGN_TOL of its target: DWELL at the destination, a new
dwell, outcome DONE, the slot freed, uncounted counts handed to the cars that become bound, and TRIP_DONE pending for
its owner. That the sample that brings ARRIVING does not complete is the model's choice (log 12). The store, the
reports, the line state and the pins stay. Rests on: section 2.4 (02_position_speed_and_car_reports.md); section 2.5
(02_position_speed_and_car_reports.md); section 3.2 (03_the_speed_ceiling.md); section 2.6
(02_position_speed_and_car_reports.md); section 2.3 (02_position_speed_and_car_reports.md); section 5.6
(05_trip_requests_and_the_trip.md); section 7.7 (07_gates_admission_and_car_load.md). -/
def Obligations.SpeedSampleReads : Prop :=
  ∀ s : State, s.pins.resetLow = false → isOvertaken s .speedSample = false →
    ∃ t, exec .speedSample s = .next t ∧ t.now = max s.now s.psu.sampleTimer.due ∧
      t.psu.sampleTimer = ⟨t.now, t.now + s.params.ts⟩ ∧
      t.psu.count = s.psu.count ∧ t.psu.countPrev = s.psu.count ∧
      t.psu.vRope =
        min 4095 ((s.psu.count - s.psu.countPrev).toInt.natAbs * s.params.kEnc * 1000 /
          (65536 * (s.psu.sampleTimer.due - s.psu.sampleTimer.start))) ∧
      t.psu.vEval =
        max t.psu.vRope (max (if isFresh (advanceTo s.psu.sampleTimer.due s) .a then s.cru.a.poll.speed else 0)
          (if isFresh (advanceTo s.psu.sampleTimer.due s) .b then s.cru.b.poll.speed else 0)) ∧
      t.psu.ropeDir = dirOf (s.psu.count - s.psu.countPrev).toInt ∧
      t.psu.travelDir = (if s.psu.count = s.psu.countPrev then s.psu.travelDir else t.psu.ropeDir) ∧
      t.psu.heldCount =
        (if t.psu.still = true ∧ (s.psu.still = false ∨ (isMoving s.trc.state = true ∧ isMoving t.trc.state = false)) then
          s.psu.count
        else s.psu.heldCount) ∧
      t.psu.stillCount = (if t.psu.vEval ≤ s.params.vstill then min 50 (s.psu.stillCount + 1) else 0) ∧
      t.psu.still =
        (decide (t.psu.vEval ≤ s.params.vstill) && (s.psu.still || decide (s.params.nStill ≤ t.psu.stillCount))) ∧
      (s.cfg.committed = true → isMoving s.trc.state = false → t.clc.c = s.params.vcreep) ∧
      (s.cfg.committed = false → t.clc.c = s.clc.c) ∧
      (∀ dir tpos, s.cfg.committed = true → isMoving s.trc.state = true → s.trc.trip.direction = some dir →
        s.trc.trip.tpos = some tpos → isMoving t.trc.state = true →
        t.clc.d = some (match dir with
          | .upA => ((tpos : Int) - pos s).toNat
          | .downA => (pos s - tpos).toNat)) ∧
      KeepsBut [.now, .psu, .clc, .brs, .trc, .dri, .adm, .notices, .incidents] s t ∧
      (∀ dir furthest, s.trc.trip.direction = some dir → s.psu.furthest = some furthest →
        Monitored .rollback [] s.psu.armed.rollback t.psu.armed.rollback
          (isPowered s.trc.state = true ∧ s.params.rollbackTol < fallenBack s dir furthest) s t) ∧
      (isMoving s.trc.state = false →
        Monitored .unintendedMotion [] s.psu.armed.unintended t.psu.armed.unintended
          (s.params.creepTol < drifted s t.psu.heldCount) s t) ∧
      (isMoving s.trc.state = true → t.psu.armed.unintended = true) ∧
      Monitored .overtravel [.rollback, .unintendedMotion] s.psu.armed.overtravel t.psu.armed.overtravel
        (s.psu.ref = .referenced ∧
          (pos s < -(s.params.ovtTol : Int) ∨ (s.params.trackLen + s.params.ovtTol : Int) < pos s)) s t ∧
      (s.trc.trip.direction ≠ none → s.trc.trip.tpos ≠ none →
        Monitored .overshoot [.rollback, .unintendedMotion, .overtravel] s.psu.armed.overshoot t.psu.armed.overshoot
          (s.psu.ref = .referenced ∧ isMoving s.trc.state = true ∧ Overshot s) s t) ∧
      (∀ c e dir, s.psu.ref = .referenced → s.psu.still = false → t.psu.still = false →
        s.psu.travelDir = some dir → t.psu.travelDir = some dir → s.psu.expected.get c = some e →
        MissChecked c e dir s t) ∧
      (s.trc.state = .running → s.cfg.committed = true → s.trc.trip.direction ≠ none → s.trc.trip.tpos ≠ none →
        t.brs.stage = .none → ∃ d, t.clc.d = some d ∧
          t.trc.state = (if d ≤ s.params.stopZone then .arriving else .running)) ∧
      (∀ k tpos, s.trc.state = .arriving → s.trc.trip.destination = some k → s.trc.trip.tpos = some tpos →
        t.brs.stage = .none →
        (t.psu.still = true ∧ s.psu.ref ≠ .unreferenced ∧ (pos s - tpos).natAbs ≤ s.params.alignTol →
          t.trc.state = .dwell k ∧ t.trc.trip.outcome = .done ∧ t.trc.elapsed = false ∧
            t.trc.minDwell = some ⟨t.now, t.now + s.params.minDwell * 1000⟩ ∧
            t.trc.slot0 = freed false s.trc.slot0 ∧ t.trc.slot1 = freed false s.trc.slot1 ∧
            t.psu.mismatch = ⟨0, 0⟩ ∧ Transferred k s t ∧
            HandedOwner .tripDone (.done s.trc.trip.number s.trc.trip.destination t.trc.trip.peak) s t) ∧
        (¬ (t.psu.still = true ∧ s.psu.ref ≠ .unreferenced ∧ (pos s - tpos).natAbs ≤ s.params.alignTol) →
          t.trc.state = .arriving))

/-- O49. From a state whose stage is what its causes call for, after a SPEED SAMPLE that is not overtaken (log 47) with
v_eval above E the cause OVERSPEED_EMERGENCY is in the set and the stage is EMERGENCY. With the warning armed and
v_eval above W1, OVERSPEED_WARN is pending for DRV and the warning is disarmed; with it disarmed and v_eval above C it
stays disarmed; with v_eval at most C, and C at most W1, it is armed after the sample. The overspeed count goes up by
one to at most 2 while v_eval is above S, else to 0, and at its second sample in a row OVERSPEED_SERVICE is in the
set; each of the two causes has v_eval, its threshold and C as detail where it was not there before. Under a SERVICE
stage with the effectiveness monitor active, off standstill and SB_GRACE after its start, a v_eval above the monitor's
limit leaves the stage EMERGENCY, and SB_INEFFECTIVE in the set with v0, v_eval, the limit and the time, unless
another EMERGENCY cause was raised first. The sample that confirms standstill ends the monitor. Rests on: section 4.3
(04_brake_supervision.md); section 4.7 (04_brake_supervision.md). -/
def Obligations.OverspeedAtOnce : Prop :=
  ∀ s t : State, StageInv s → s.pins.resetLow = false → isOvertaken s .speedSample = false →
    exec .speedSample s = .next t →
    (t.clc.e < t.psu.vEval → hasCause t .overspeedEmergency = true ∧ t.brs.stage = .emergency) ∧
    (s.brs.warnArmed = true → t.clc.w1 < t.psu.vEval →
      t.brs.warnArmed = false ∧ isPending (t.niu.notices.get .drv) .overspeedWarn = true) ∧
    (s.brs.warnArmed = false → t.clc.c < t.psu.vEval → t.brs.warnArmed = false) ∧
    (t.psu.vEval ≤ t.clc.c → t.clc.c ≤ t.clc.w1 → t.brs.warnArmed = true) ∧
    (t.brs.overspeedCount = if t.clc.s < t.psu.vEval then min 2 (s.brs.overspeedCount + 1) else 0) ∧
    (t.clc.s < t.psu.vEval → s.brs.overspeedCount = 1 →
      RaisedWith .overspeedService (.overspeed t.psu.vEval t.clc.s t.clc.c) s t) ∧
    (t.clc.e < t.psu.vEval → RaisedWith .overspeedEmergency (.overspeed t.psu.vEval t.clc.e t.clc.c) s t) ∧
    (∀ m, s.brs.effectiveness = some m → s.brs.stage = .service → t.psu.still = false →
      s.params.sbGrace ≤ t.now - m.t0 →
      max s.params.vcreep (m.v0 - s.params.aFloor * (t.now - m.t0) / 2000) < t.psu.vEval →
      t.brs.stage = .emergency ∧
        ((∀ h ∈ t.brs.causes, h.cause ≠ .sbIneffective → h.cause.stage = .service) →
          ⟨.sbIneffective, .ineffective m.v0 t.psu.vEval
            (max s.params.vcreep (m.v0 - s.params.aFloor * (t.now - m.t0) / 2000)) (t.now - m.t0)⟩ ∈ t.brs.causes)) ∧
    (s.psu.still = false → t.psu.still = true → t.brs.effectiveness = none)

/-- O50. From a committed store that passes its checks, with every parameter in its range: after a SPEED SAMPLE that is
not overtaken (log 47) the ceiling is at least VCREEP and at most VMAX; in a moving trip of mode INSPECTION it is at
most VINSP, and in one of mode REDUCED at most VRED, all as stored at the sample. In a moving trip on the PROFILE
basis it is the least of the segment limit at P, the look-ahead terms, the braking curve, the mode's cap and the
drive's reduction, but not below VCREEP; on the CAP basis the lesser of VINSP and the drive's reduction, but not below
VCREEP; and the trip's peak speed and least margin take the sample. In every other trip state it is VCREEP, with no
distance to go. W1, S and E are the ceiling with K_WARN, K_SRV and K_EM 128ths of it, rounded down, E at most VABS; C
is at most W1, W1 at most S, S below E. Rests on: section 3.2 (03_the_speed_ceiling.md); section 3.5
(03_the_speed_ceiling.md); section 3.6 (03_the_speed_ceiling.md); section 3.7 (03_the_speed_ceiling.md); section 3.8
(03_the_speed_ceiling.md); section 3.9 (03_the_speed_ceiling.md). -/
def Obligations.CeilingStaysInBounds : Prop :=
  ∀ s t : State, s.pins.resetLow = false → s.cfg.committed = true → commitFailure s = none → ParamInv s →
    isOvertaken s .speedSample = false →
    exec .speedSample s = .next t →
    (s.params.vcreep ≤ t.clc.c ∧ t.clc.c ≤ s.params.vmax ∧
      (isMoving s.trc.state = true → s.trc.trip.mode = some .inspection → t.clc.c ≤ s.params.vinsp) ∧
      (isMoving s.trc.state = true → s.trc.trip.mode = some .reduced → t.clc.c ≤ s.params.vred)) ∧
    (∀ mode dir tpos r, isMoving s.trc.state = true → s.clc.basis = some .profile → s.trc.trip.mode = some mode →
      s.trc.trip.direction = some dir → s.trc.trip.tpos = some tpos → s.trc.trip.derating = some r →
      (∃ x, CeilingTerm s mode dir r.aEff tpos x ∧ t.clc.c = max s.params.vcreep x) ∧
        ∀ x, CeilingTerm s mode dir r.aEff tpos x → t.clc.c ≤ max s.params.vcreep x) ∧
    (isMoving s.trc.state = true → s.clc.basis = some .cap →
      t.clc.c = max s.params.vcreep (min s.params.vinsp (s.clc.vdrv.getD s.params.vmax))) ∧
    (isMoving s.trc.state = true →
      t.trc.trip.peak = some (max (s.trc.trip.peak.getD 0) t.psu.vEval) ∧
        t.trc.trip.margin =
          some (match s.trc.trip.margin with
            | none => (t.clc.c : Int) - t.psu.vEval
            | some m => min m ((t.clc.c : Int) - t.psu.vEval))) ∧
    (isMoving s.trc.state = false → t.clc.c = s.params.vcreep ∧ t.clc.d = none) ∧
    (t.clc.w1 = t.clc.c + t.clc.c * s.params.kWarn / 128 ∧ t.clc.s = t.clc.c + t.clc.c * s.params.kSrv / 128 ∧
      t.clc.e = min s.params.vabs (t.clc.c + t.clc.c * s.params.kEm / 128) ∧
      t.clc.c ≤ t.clc.w1 ∧ t.clc.w1 ≤ t.clc.s ∧ t.clc.s < t.clc.e)

/-- O51. A CAR POLL of a car unit whose seven bytes are in range and name no unknown marker: that car's record holds its
fields, fresh, taken now, with the alarm latch set where it was or the poll reports the alarm; the other car's record
stays, and the reply is OK with the poll reply contents: the car's two permits, the track brake demand, the line and
trip states, the target stop and the ceiling. A report is judged fresh as it is read (log 6). Out of flight, with no
marker, stop request or alarm, only that record and, of the brakes, the outputs and their apply timers change, and not
these where they stand as they should. A marker pass sets P and the reference and advances, misses or clears the
expected markers. With a trip in flight a poll that disagrees with the rope counts up to 3, one that agrees makes the
count 0, and the third in a row raises SPEED_MISMATCH; where the trip ends by the poll, both counts are 0. In RELEASE,
RUNNING and ARRIVING, with no marker and no mismatch raised, a side not LOCKED raises DOOR_OPEN, the left one first
(log 10). In DOORS with the stage NONE, no marker, no stop request and no mismatch raised, a poll after which both
reports are fresh and every side is LOCKED takes the trip to SETTLE, with the counts frozen and the derating formed,
or with a SETTLE_T of 0 to RELEASE; any other leaves it in DOORS. A stop request raises its cause. An alarm with the
latch clear sets the car's mirror and is pending as PASSENGER_ALARM for DRV and CON; out of flight and otherwise
quiet, with the list not full, its incident is appended; with the latch set it changes nothing more. Bytes out of
range or a marker the table does not hold are refused BAD_VALUE with the poll reply contents, and nothing changes.
Rests on: section 2.8 (02_position_speed_and_car_reports.md); section 9.6 (09_the_line_bus.md); section 2.2
(02_position_speed_and_car_reports.md); section 2.3 (02_position_speed_and_car_reports.md); section 2.7
(02_position_speed_and_car_reports.md); section 6.5 (06_door_release.md); section 10.2
(10_notices_incidents_and_reset_causes.md); section 4.8 (04_brake_supervision.md); section 5.6
(05_trip_requests_and_the_trip.md); section 3.3 (03_the_speed_ceiling.md); section 6.2 (06_door_release.md); section
4.9 (04_brake_supervision.md). -/
def Obligations.CarPollTaken : Prop :=
  (∀ (st : Station) (b0 b1 b2 b3 b4 b5 b6 : Byte) (p : Poll) (s : State), Heard .carPoll st s →
    pollOf b0 b1 b2 b3 b4 b5 b6 = some p → markerKnown s p = true →
    ∃ t, exec (.carPoll st [b0, b1, b2, b3, b4, b5, b6]) s = .next t ∧
      Replied .carPoll st .ok (.poll (pollReply t (carOf st))) t ∧
      t.cru = s.cru.set (carOf st)
        { poll := p, fresh := true, takenAt := s.now, latch := (s.cru.get (carOf st)).latch || p.alarm } ∧
      (p.stopReq = .stop → hasCause t .stopRequest = true) ∧
      (p.stopReq = .estop → hasCause t .estopRequest = true) ∧
      (inFlight s.trc.state = false → p.marker = none → p.stopReq = .none → p.alarm = false →
        t.brs =
          { s.brs with
            drivePermit := t.brs.drivePermit, sbHoldoff := t.brs.sbHoldoff, ebHoldoff := t.brs.ebHoldoff
            sbApply := t.brs.sbApply, ebApply := t.brs.ebApply } ∧
        (OutputInv s → t.brs = s.brs) ∧ KeepsBut [.cru, .brs] s t) ∧
      (∀ m, p.marker = some m → MarkerPassed (carOf st) m s t) ∧
      (inFlight s.trc.state = true →
        (Disagrees s (carOf st) p → s.psu.mismatch.get (carOf st) = 2 →
          RaisedWith .speedMismatch (.mismatch (carOf st) p.speed s.psu.vRope) s t) ∧
        (inFlight t.trc.state = true →
          (Disagrees s (carOf st) p →
            t.psu.mismatch = s.psu.mismatch.set (carOf st) (min 3 (s.psu.mismatch.get (carOf st) + 1))) ∧
          (¬ Disagrees s (carOf st) p → t.psu.mismatch = s.psu.mismatch.set (carOf st) 0)) ∧
        (inFlight t.trc.state = false → t.psu.mismatch = ⟨0, 0⟩)) ∧
      (isPowered s.trc.state = true → p.marker = none →
        ¬ (Disagrees s (carOf st) p ∧ s.psu.mismatch.get (carOf st) = 2) →
        (p.left ≠ .locked → RaisedWith .doorOpen (.door (carOf st) .left p.left) s t) ∧
        (p.left = .locked → p.right ≠ .locked → RaisedWith .doorOpen (.door (carOf st) .right p.right) s t)) ∧
      (s.trc.state = .doors → s.brs.stage = .none → p.marker = none → p.stopReq = .none →
        ¬ (Disagrees s (carOf st) p ∧ s.psu.mismatch.get (carOf st) = 2) →
        (allLocked t = true → SettleEntered s t) ∧
        (allLocked t = false → t.trc = s.trc ∧ t.dri = s.dri)) ∧
      (p.alarm = true → (s.cru.get (carOf st)).latch = false →
        (t.adm.loads.get (carOf st)).alarmMirror = true ∧
          isPending (t.niu.notices.get .drv) .passengerAlarm = true ∧
          isPending (t.niu.notices.get .con) .passengerAlarm = true) ∧
      (inFlight s.trc.state = false → p.marker = none → p.stopReq = .none → p.alarm = true →
        ((s.cru.get (carOf st)).latch = true → KeepsBut [.cru, .brs] s t) ∧
        ((s.cru.get (carOf st)).latch = false → s.niu.incidents.length < 16 →
          t.niu.incidents =
            s.niu.incidents ++
              [{ seq := s.niu.seq, cause := .passengerAlarm (carOf st), stage := s.brs.stage
                 tripNumber := s.trc.trip.number, tripState := s.trc.state, p := pos s, v := s.psu.vEval, c := s.clc.c
                 aboardA := s.adm.loads.a.aboard, aboardB := s.adm.loads.b.aboard, read := false, acked := false }] ∧
          t.niu.seq = (s.niu.seq + 1) % 65536 ∧
          isPending (t.niu.notices.get .con) .incidentCaptured = true ∧
          KeepsBut [.cru, .brs, .adm, .notices, .incidents] s t)) ∧
      KeepsBut [.cru, .psu, .clc, .brs, .trc, .dri, .adm, .notices, .incidents] s t) ∧
  (∀ (st : Station) (b0 b1 b2 b3 b4 b5 b6 : Byte) (s : State), Heard .carPoll st s →
    (∀ p, pollOf b0 b1 b2 b3 b4 b5 b6 = some p → markerKnown s p = false) →
    ∃ t, exec (.carPoll st [b0, b1, b2, b3, b4, b5, b6]) s = .next t ∧
      Replied .carPoll st (.refused .badValue) (.poll (pollReply s (carOf st))) t ∧ KeepsBut [] s t) ∧
  (∀ (s : State) (car : Car),
    ((pollReply s car).left = true ↔ ReleasePermitted s car .left) ∧
    ((pollReply s car).right = true ↔ ReleasePermitted s car .right) ∧
    ((pollReply s car).track = true ↔ s.brs.stage = .emergency ∧ ∃ h ∈ s.brs.causes,
      h.cause ∈ [Cause.overspeedEmergency, .sbIneffective, .ebFail, .rollback, .unintendedMotion]) ∧
    (pollReply s car).line = s.lsu.line ∧ (pollReply s car).ts = s.trc.state ∧ (pollReply s car).ceiling = s.clc.c ∧
    (inFlight s.trc.state = true → (pollReply s car).target = s.trc.trip.destination) ∧
    (∀ k, s.trc.state = .dwell k → (pollReply s car).target = some k) ∧
    (s.trc.state = .none ∨ s.trc.state = .stoppedOnLine → (pollReply s car).target = none))

/-- O52. POWER ON RESET leaves the store, the ceiling, the door interlock, the admission unit, the line state, the line
bus port and the notice unit as at power-on, the trip controller, the reports, the position and the brakes in their
reset states. The release of RESET_N does the same but keeps the incident list and its counters and adds PIN to the
reset causes. An accepted RESET PART adds CONSOLE, keeps also the store and the configured lanes, each ENABLED,
withdraws the drive's reduction, the basis and the distance to go, and makes the ceiling VCREEP with its thresholds
where the store is committed, and otherwise leaves them; every selection and continuation point is LINE and every
fresh mark set; it replies OK with the attention mark clear; it is refused WRONG_STATE on a line not CLOSED and MOVING
without confirmed standstill. SUPPLY LOW, SUPPLY RESTORED and a held RESET_N change their own pins, and a held one
drops the reply: while either is low every output pin is off and no attention line is driven. What input levels a
reset finds is the model's choice (log 16), and so is that queue and clock pass through a reset (log 31), that a low
supply does nothing more (log 15), and what a held pin, a release without one and a power-on do to pins and supply
(log 14). Rests on: section 10.4 (10_notices_incidents_and_reset_causes.md); section 10.3
(10_notices_incidents_and_reset_causes.md); section 9.11 (09_the_line_bus.md); section 9.10 (09_the_line_bus.md);
section 4.12 (04_brake_supervision.md); section 5.7 (05_trip_requests_and_the_trip.md); section 9.9
(09_the_line_bus.md); section 3.10 (03_the_speed_ceiling.md). -/
def Obligations.ResetsAndSupply : Prop :=
  (∀ s : State, ∃ t, exec .powerOnReset s = .next t ∧ AfterReset s t ∧
    t.cfg = State.reset.cfg ∧ t.clc = State.reset.clc ∧ t.adm = State.reset.adm ∧ t.lbp = State.reset.lbp ∧
    t.niu = State.reset.niu ∧
    t.pins = { s.pins with dispatchLine := ⟨s.pins.dispatchIn.level, s.now⟩, supplyLow := false }) ∧
  (∀ (c : Instr) (s : State), c = .pinReset true ∨ c = .resetPinReleased →
    ∃ t, exec c s = .next t ∧ AfterReset s t ∧
      t.cfg = State.reset.cfg ∧ t.clc = State.reset.clc ∧ t.adm = State.reset.adm ∧ t.lbp = State.reset.lbp ∧
      t.niu.notices = State.reset.niu.notices ∧ t.niu.incidents = s.niu.incidents ∧
      t.niu.overflow = s.niu.overflow ∧ t.niu.seq = s.niu.seq ∧
      t.niu.resetCauses = { s.niu.resetCauses with pin := true } ∧
      t.pins = { s.pins with dispatchLine := ⟨s.pins.dispatchIn.level, s.now⟩, resetLow := false }) ∧
  (∀ s : State, s.pins.resetLow = false → s.lsu.line = .closed → s.psu.still = true →
    ∃ t, exec (.resetPart .con (.fields ())) s = .next t ∧ Replied .resetPart .con .ok .nothing t ∧
      attention t .con = false ∧ AfterReset s t ∧ t.cfg = s.cfg ∧
      t.adm.lanes =
        s.cfg.lanes.map (fun l => { id := l.id, state := .enabled, lapsed := false, lapses := 0 }) ∧
      t.adm = { State.reset.adm with lanes := t.adm.lanes } ∧
      (s.cfg.committed = true →
        t.clc =
          { c := s.params.vcreep
            w1 := s.params.vcreep + s.params.vcreep * s.params.kWarn / 128
            s := s.params.vcreep + s.params.vcreep * s.params.kSrv / 128
            e := min s.params.vabs (s.params.vcreep + s.params.vcreep * s.params.kEm / 128)
            vdrv := none, basis := none, d := none }) ∧
      (s.cfg.committed = false → t.clc = { s.clc with vdrv := none, basis := none, d := none }) ∧
      (∀ other, t.lbp.selection.get other = [.line] ∧ t.lbp.continuation.get other = some .line ∧
        ∀ k, k ∈ t.lbp.fresh.get other) ∧
      t.niu.notices = State.reset.niu.notices ∧ t.niu.incidents = s.niu.incidents ∧
      t.niu.overflow = s.niu.overflow ∧ t.niu.seq = s.niu.seq ∧
      t.niu.resetCauses = { s.niu.resetCauses with console := true } ∧
      t.pins = { s.pins with dispatchLine := ⟨s.pins.dispatchIn.level, s.now⟩ }) ∧
  (∀ s : State, s.pins.resetLow = false →
    (s.lsu.line ≠ .closed →
      ∃ t, exec (.resetPart .con (.fields ())) s = .next t ∧ Replied .resetPart .con (.refused .wrongState) .nothing t ∧
        KeepsBut [] s t) ∧
    (s.lsu.line = .closed → s.psu.still = false →
      ∃ t, exec (.resetPart .con (.fields ())) s = .next t ∧ Replied .resetPart .con (.refused .moving) .nothing t ∧
        KeepsBut [] s t)) ∧
  (∀ s : State,
    exec .supplyLow s = .next { s with pins := { s.pins with supplyLow := true } } ∧
    exec .supplyRestored s = .next { s with pins := { s.pins with supplyLow := false } } ∧
    exec (.pinReset false) s =
      .next { s with pins := { s.pins with resetLow := true }, lbp := { s.lbp with reply := none } }) ∧
  (∀ s : State, s.pins.resetLow = true ∨ s.pins.supplyLow = true →
    outputPins s = { drivePermit := false, sbHoldoff := false, ebHoldoff := false } ∧ ∀ st, attentionLine s st = false)

/-- O53. From every state in which the stage is what its causes call for, the outputs are what R64 gives, the trip state
is NONE exactly on a CLOSED line, exactly one slot is IN_FLIGHT while a trip is in flight, no stage stands from
CLOSING to ARRIVING and one stands in BRAKING, the timers run only where their rules let them, and the door releases
stand only where theirs do, every step gives such a state. That the held DRIVE_PERMIT stays on until CAR_REPORT_STALE
is taken, and R64's outputs are what the fresh fields call for, is the model's choice (log 6). Rests on: section 4.1
(04_brake_supervision.md); section 4.2 (04_brake_supervision.md); section 5.1 (05_trip_requests_and_the_trip.md);
section 5.6 (05_trip_requests_and_the_trip.md); section 6.7 (06_door_release.md); section 6.8 (06_door_release.md);
section 8.1 (08_line_states_and_inspection.md). -/
def Obligations.EveryStepKeepsRunSafe : Prop :=
  ∀ s t : State, RunSafe s → step s = .next t → RunSafe t

/-- O54. From every state in which the tables are in order and within their sizes, every parameter is in its range, the
reservations stand only in service for the car bound to their platform and at most one to a lane, a committed store
has no car over CAPACITY and passes the nine checks, and 10 is at most C, C at most W1, W1 at most S and S below E,
every step gives such a state. Rests on: section 1.4 (01_line_description_and_configuration.md); section 1.5
(01_line_description_and_configuration.md); section 1.6 (01_line_description_and_configuration.md); section 1.7
(01_line_description_and_configuration.md); section 1.9 (01_line_description_and_configuration.md); section 7.3
(07_gates_admission_and_car_load.md); section 7.7 (07_gates_admission_and_car_load.md); section 3.8
(03_the_speed_ceiling.md). -/
def Obligations.EveryStepKeepsStoreSafe : Prop :=
  ∀ s t : State, StoreSafe s → step s = .next t → StoreSafe t

/-- O55. From every state whose outputs stand as the stage, the trip state and the car reports call for, every step gives
such a state; and in such a state the drive permit is held on only in RUNNING or ARRIVING, with the stage NONE, both
records marked fresh and all four door sides LOCKED, and its pin is on only where both reports are fresh as well when
judged then. That the held permit stays on until CAR_REPORT_STALE is taken, while the pin drops at once, is the
model's choice (log 6). Rests on: section 4.2 (04_brake_supervision.md); section 2.8
(02_position_speed_and_car_reports.md). -/
def Obligations.EveryStepKeepsOutputs : Prop :=
  (∀ s t : State, OutputInv s → step s = .next t → OutputInv t) ∧ ∀ s : State, OutputInv s → DrivePermitLaw s

/-- O56. From every state in which the saturating counts, the incident list and its counters are within their limits,
every master's continuation point is one of its selected kinds, and each car's alarm mirror equals its latch, every
step gives such a state. Rests on: section 10.2 (10_notices_incidents_and_reset_causes.md); section 9.9
(09_the_line_bus.md); section 7.7 (07_gates_admission_and_car_load.md); section 2.5
(02_position_speed_and_car_reports.md). -/
def Obligations.EveryStepKeepsRecords : Prop :=
  ∀ s t : State, CountInv s ∧ IncidentInv s ∧ SelectionInv s ∧ MirrorInv s → step s = .next t →
    CountInv t ∧ IncidentInv t ∧ SelectionInv t ∧ MirrorInv t

/-- O57. The state right after power-on reset is safe as a running line and as a store, and its notices, counts, incident
list, selections and alarm mirrors are in order. Rests on: section 10.4 (10_notices_incidents_and_reset_causes.md);
section 4.12 (04_brake_supervision.md); section 5.7 (05_trip_requests_and_the_trip.md). -/
def Obligations.ResetMeetsTheInvariants : Prop :=
  RunSafe State.reset ∧ StoreSafe State.reset ∧ LatchInv State.reset ∧ CountInv State.reset ∧ IncidentInv State.reset ∧
    SelectionInv State.reset ∧ MirrorInv State.reset

/-- O58. For every well-formed request command: its frame, with head, length, payload and check, stuffed onto the wire and
received by the line bus port, is read as that same command, with every field at every value a frame can carry. The
payload codes the spec leaves open are the model's (log 17), and so is the stuff bit after a run that ends the frame
(log 28). Rests on: section 9.1 (09_the_line_bus.md); section 9.3 (09_the_line_bus.md); section 9.4
(09_the_line_bus.md); section 9.6 (09_the_line_bus.md); section 9.7 (09_the_line_bus.md). -/
def Obligations.CommandSurvivesTheWire : Prop :=
  ∀ (c : Instr) (f : RequestFrame), wellFormed c = true → frameOf c = some f → commandOnWire (requestWire f) = c

/-- O59. For every list of bits: unstuffing what stuffing gives is the list again, found clean; and the stuffed bits hold
no six equal bits in a row. The stuff bit after a run that ends the frame is the model's choice (log 28). Rests on:
section 9.1 (09_the_line_bus.md). -/
def Obligations.StuffingIsTransparent : Prop :=
  ∀ bits : List Bool, unstuff (stuff bits) = (bits, true) ∧
    ∀ (b : Bool) (before after : List Bool), stuff bits ≠ before ++ List.replicate 6 b ++ after

/-- O60. For every list of heads: a head reads back as sent to its last bit exactly where it is among them and no other
has a lower value, the value of a head being class times 1,024 plus station times 128 plus code. Rests on: section 9.2
(09_the_line_bus.md). -/
def Obligations.ArbitrationLeavesTheLeastHead : Prop :=
  ∀ (hs : List Head) (h : Head), h ∈ arbitrate hs ↔ h ∈ hs ∧ ∀ g ∈ hs, headValue h ≤ headValue g
end

