-- ==== Sys2Proof/Laws/State.lean ====
section
/-! SUPPORT. What a change of one block leaves and changes: one lemma per field per update of the state, all by `rfl`,
and reading after writing for the values kept per car, side, station, berth and platform. -/

namespace Sys2Proof.Machine

variable (s : State)

/-! `onCfg` -/

@[simp] theorem State.onCfg_cfg (g : Cfg → Cfg) : (s.onCfg g).cfg = g s.cfg := rfl
@[simp] theorem State.onCfg_cru (g : Cfg → Cfg) : (s.onCfg g).cru = s.cru := rfl
@[simp] theorem State.onCfg_psu (g : Cfg → Cfg) : (s.onCfg g).psu = s.psu := rfl
@[simp] theorem State.onCfg_clc (g : Cfg → Cfg) : (s.onCfg g).clc = s.clc := rfl
@[simp] theorem State.onCfg_brs (g : Cfg → Cfg) : (s.onCfg g).brs = s.brs := rfl
@[simp] theorem State.onCfg_trc (g : Cfg → Cfg) : (s.onCfg g).trc = s.trc := rfl
@[simp] theorem State.onCfg_dri (g : Cfg → Cfg) : (s.onCfg g).dri = s.dri := rfl
@[simp] theorem State.onCfg_adm (g : Cfg → Cfg) : (s.onCfg g).adm = s.adm := rfl
@[simp] theorem State.onCfg_lsu (g : Cfg → Cfg) : (s.onCfg g).lsu = s.lsu := rfl
@[simp] theorem State.onCfg_lbp (g : Cfg → Cfg) : (s.onCfg g).lbp = s.lbp := rfl
@[simp] theorem State.onCfg_niu (g : Cfg → Cfg) : (s.onCfg g).niu = s.niu := rfl
@[simp] theorem State.onCfg_pins (g : Cfg → Cfg) : (s.onCfg g).pins = s.pins := rfl
@[simp] theorem State.onCfg_now (g : Cfg → Cfg) : (s.onCfg g).now = s.now := rfl
@[simp] theorem State.onCfg_pending (g : Cfg → Cfg) : (s.onCfg g).pending = s.pending := rfl
@[simp] theorem State.onCfg_overtaken (g : Cfg → Cfg) : (s.onCfg g).overtaken = s.overtaken := rfl

/-! `onCru` -/

@[simp] theorem State.onCru_cfg (g : Cru → Cru) : (s.onCru g).cfg = s.cfg := rfl
@[simp] theorem State.onCru_cru (g : Cru → Cru) : (s.onCru g).cru = g s.cru := rfl
@[simp] theorem State.onCru_psu (g : Cru → Cru) : (s.onCru g).psu = s.psu := rfl
@[simp] theorem State.onCru_clc (g : Cru → Cru) : (s.onCru g).clc = s.clc := rfl
@[simp] theorem State.onCru_brs (g : Cru → Cru) : (s.onCru g).brs = s.brs := rfl
@[simp] theorem State.onCru_trc (g : Cru → Cru) : (s.onCru g).trc = s.trc := rfl
@[simp] theorem State.onCru_dri (g : Cru → Cru) : (s.onCru g).dri = s.dri := rfl
@[simp] theorem State.onCru_adm (g : Cru → Cru) : (s.onCru g).adm = s.adm := rfl
@[simp] theorem State.onCru_lsu (g : Cru → Cru) : (s.onCru g).lsu = s.lsu := rfl
@[simp] theorem State.onCru_lbp (g : Cru → Cru) : (s.onCru g).lbp = s.lbp := rfl
@[simp] theorem State.onCru_niu (g : Cru → Cru) : (s.onCru g).niu = s.niu := rfl
@[simp] theorem State.onCru_pins (g : Cru → Cru) : (s.onCru g).pins = s.pins := rfl
@[simp] theorem State.onCru_now (g : Cru → Cru) : (s.onCru g).now = s.now := rfl
@[simp] theorem State.onCru_pending (g : Cru → Cru) : (s.onCru g).pending = s.pending := rfl
@[simp] theorem State.onCru_overtaken (g : Cru → Cru) : (s.onCru g).overtaken = s.overtaken := rfl

/-! `onPsu` -/

@[simp] theorem State.onPsu_cfg (g : Psu → Psu) : (s.onPsu g).cfg = s.cfg := rfl
@[simp] theorem State.onPsu_cru (g : Psu → Psu) : (s.onPsu g).cru = s.cru := rfl
@[simp] theorem State.onPsu_psu (g : Psu → Psu) : (s.onPsu g).psu = g s.psu := rfl
@[simp] theorem State.onPsu_clc (g : Psu → Psu) : (s.onPsu g).clc = s.clc := rfl
@[simp] theorem State.onPsu_brs (g : Psu → Psu) : (s.onPsu g).brs = s.brs := rfl
@[simp] theorem State.onPsu_trc (g : Psu → Psu) : (s.onPsu g).trc = s.trc := rfl
@[simp] theorem State.onPsu_dri (g : Psu → Psu) : (s.onPsu g).dri = s.dri := rfl
@[simp] theorem State.onPsu_adm (g : Psu → Psu) : (s.onPsu g).adm = s.adm := rfl
@[simp] theorem State.onPsu_lsu (g : Psu → Psu) : (s.onPsu g).lsu = s.lsu := rfl
@[simp] theorem State.onPsu_lbp (g : Psu → Psu) : (s.onPsu g).lbp = s.lbp := rfl
@[simp] theorem State.onPsu_niu (g : Psu → Psu) : (s.onPsu g).niu = s.niu := rfl
@[simp] theorem State.onPsu_pins (g : Psu → Psu) : (s.onPsu g).pins = s.pins := rfl
@[simp] theorem State.onPsu_now (g : Psu → Psu) : (s.onPsu g).now = s.now := rfl
@[simp] theorem State.onPsu_pending (g : Psu → Psu) : (s.onPsu g).pending = s.pending := rfl
@[simp] theorem State.onPsu_overtaken (g : Psu → Psu) : (s.onPsu g).overtaken = s.overtaken := rfl

/-! `onClc` -/

@[simp] theorem State.onClc_cfg (g : Clc → Clc) : (s.onClc g).cfg = s.cfg := rfl
@[simp] theorem State.onClc_cru (g : Clc → Clc) : (s.onClc g).cru = s.cru := rfl
@[simp] theorem State.onClc_psu (g : Clc → Clc) : (s.onClc g).psu = s.psu := rfl
@[simp] theorem State.onClc_clc (g : Clc → Clc) : (s.onClc g).clc = g s.clc := rfl
@[simp] theorem State.onClc_brs (g : Clc → Clc) : (s.onClc g).brs = s.brs := rfl
@[simp] theorem State.onClc_trc (g : Clc → Clc) : (s.onClc g).trc = s.trc := rfl
@[simp] theorem State.onClc_dri (g : Clc → Clc) : (s.onClc g).dri = s.dri := rfl
@[simp] theorem State.onClc_adm (g : Clc → Clc) : (s.onClc g).adm = s.adm := rfl
@[simp] theorem State.onClc_lsu (g : Clc → Clc) : (s.onClc g).lsu = s.lsu := rfl
@[simp] theorem State.onClc_lbp (g : Clc → Clc) : (s.onClc g).lbp = s.lbp := rfl
@[simp] theorem State.onClc_niu (g : Clc → Clc) : (s.onClc g).niu = s.niu := rfl
@[simp] theorem State.onClc_pins (g : Clc → Clc) : (s.onClc g).pins = s.pins := rfl
@[simp] theorem State.onClc_now (g : Clc → Clc) : (s.onClc g).now = s.now := rfl
@[simp] theorem State.onClc_pending (g : Clc → Clc) : (s.onClc g).pending = s.pending := rfl
@[simp] theorem State.onClc_overtaken (g : Clc → Clc) : (s.onClc g).overtaken = s.overtaken := rfl

/-! `onBrs` -/

@[simp] theorem State.onBrs_cfg (g : Brs → Brs) : (s.onBrs g).cfg = s.cfg := rfl
@[simp] theorem State.onBrs_cru (g : Brs → Brs) : (s.onBrs g).cru = s.cru := rfl
@[simp] theorem State.onBrs_psu (g : Brs → Brs) : (s.onBrs g).psu = s.psu := rfl
@[simp] theorem State.onBrs_clc (g : Brs → Brs) : (s.onBrs g).clc = s.clc := rfl
@[simp] theorem State.onBrs_brs (g : Brs → Brs) : (s.onBrs g).brs = g s.brs := rfl
@[simp] theorem State.onBrs_trc (g : Brs → Brs) : (s.onBrs g).trc = s.trc := rfl
@[simp] theorem State.onBrs_dri (g : Brs → Brs) : (s.onBrs g).dri = s.dri := rfl
@[simp] theorem State.onBrs_adm (g : Brs → Brs) : (s.onBrs g).adm = s.adm := rfl
@[simp] theorem State.onBrs_lsu (g : Brs → Brs) : (s.onBrs g).lsu = s.lsu := rfl
@[simp] theorem State.onBrs_lbp (g : Brs → Brs) : (s.onBrs g).lbp = s.lbp := rfl
@[simp] theorem State.onBrs_niu (g : Brs → Brs) : (s.onBrs g).niu = s.niu := rfl
@[simp] theorem State.onBrs_pins (g : Brs → Brs) : (s.onBrs g).pins = s.pins := rfl
@[simp] theorem State.onBrs_now (g : Brs → Brs) : (s.onBrs g).now = s.now := rfl
@[simp] theorem State.onBrs_pending (g : Brs → Brs) : (s.onBrs g).pending = s.pending := rfl
@[simp] theorem State.onBrs_overtaken (g : Brs → Brs) : (s.onBrs g).overtaken = s.overtaken := rfl

/-! `onTrc` -/

@[simp] theorem State.onTrc_cfg (g : Trc → Trc) : (s.onTrc g).cfg = s.cfg := rfl
@[simp] theorem State.onTrc_cru (g : Trc → Trc) : (s.onTrc g).cru = s.cru := rfl
@[simp] theorem State.onTrc_psu (g : Trc → Trc) : (s.onTrc g).psu = s.psu := rfl
@[simp] theorem State.onTrc_clc (g : Trc → Trc) : (s.onTrc g).clc = s.clc := rfl
@[simp] theorem State.onTrc_brs (g : Trc → Trc) : (s.onTrc g).brs = s.brs := rfl
@[simp] theorem State.onTrc_trc (g : Trc → Trc) : (s.onTrc g).trc = g s.trc := rfl
@[simp] theorem State.onTrc_dri (g : Trc → Trc) : (s.onTrc g).dri = s.dri := rfl
@[simp] theorem State.onTrc_adm (g : Trc → Trc) : (s.onTrc g).adm = s.adm := rfl
@[simp] theorem State.onTrc_lsu (g : Trc → Trc) : (s.onTrc g).lsu = s.lsu := rfl
@[simp] theorem State.onTrc_lbp (g : Trc → Trc) : (s.onTrc g).lbp = s.lbp := rfl
@[simp] theorem State.onTrc_niu (g : Trc → Trc) : (s.onTrc g).niu = s.niu := rfl
@[simp] theorem State.onTrc_pins (g : Trc → Trc) : (s.onTrc g).pins = s.pins := rfl
@[simp] theorem State.onTrc_now (g : Trc → Trc) : (s.onTrc g).now = s.now := rfl
@[simp] theorem State.onTrc_pending (g : Trc → Trc) : (s.onTrc g).pending = s.pending := rfl
@[simp] theorem State.onTrc_overtaken (g : Trc → Trc) : (s.onTrc g).overtaken = s.overtaken := rfl

/-! `onDri` -/

@[simp] theorem State.onDri_cfg (g : Dri → Dri) : (s.onDri g).cfg = s.cfg := rfl
@[simp] theorem State.onDri_cru (g : Dri → Dri) : (s.onDri g).cru = s.cru := rfl
@[simp] theorem State.onDri_psu (g : Dri → Dri) : (s.onDri g).psu = s.psu := rfl
@[simp] theorem State.onDri_clc (g : Dri → Dri) : (s.onDri g).clc = s.clc := rfl
@[simp] theorem State.onDri_brs (g : Dri → Dri) : (s.onDri g).brs = s.brs := rfl
@[simp] theorem State.onDri_trc (g : Dri → Dri) : (s.onDri g).trc = s.trc := rfl
@[simp] theorem State.onDri_dri (g : Dri → Dri) : (s.onDri g).dri = g s.dri := rfl
@[simp] theorem State.onDri_adm (g : Dri → Dri) : (s.onDri g).adm = s.adm := rfl
@[simp] theorem State.onDri_lsu (g : Dri → Dri) : (s.onDri g).lsu = s.lsu := rfl
@[simp] theorem State.onDri_lbp (g : Dri → Dri) : (s.onDri g).lbp = s.lbp := rfl
@[simp] theorem State.onDri_niu (g : Dri → Dri) : (s.onDri g).niu = s.niu := rfl
@[simp] theorem State.onDri_pins (g : Dri → Dri) : (s.onDri g).pins = s.pins := rfl
@[simp] theorem State.onDri_now (g : Dri → Dri) : (s.onDri g).now = s.now := rfl
@[simp] theorem State.onDri_pending (g : Dri → Dri) : (s.onDri g).pending = s.pending := rfl
@[simp] theorem State.onDri_overtaken (g : Dri → Dri) : (s.onDri g).overtaken = s.overtaken := rfl

/-! `onAdm` -/

@[simp] theorem State.onAdm_cfg (g : Adm → Adm) : (s.onAdm g).cfg = s.cfg := rfl
@[simp] theorem State.onAdm_cru (g : Adm → Adm) : (s.onAdm g).cru = s.cru := rfl
@[simp] theorem State.onAdm_psu (g : Adm → Adm) : (s.onAdm g).psu = s.psu := rfl
@[simp] theorem State.onAdm_clc (g : Adm → Adm) : (s.onAdm g).clc = s.clc := rfl
@[simp] theorem State.onAdm_brs (g : Adm → Adm) : (s.onAdm g).brs = s.brs := rfl
@[simp] theorem State.onAdm_trc (g : Adm → Adm) : (s.onAdm g).trc = s.trc := rfl
@[simp] theorem State.onAdm_dri (g : Adm → Adm) : (s.onAdm g).dri = s.dri := rfl
@[simp] theorem State.onAdm_adm (g : Adm → Adm) : (s.onAdm g).adm = g s.adm := rfl
@[simp] theorem State.onAdm_lsu (g : Adm → Adm) : (s.onAdm g).lsu = s.lsu := rfl
@[simp] theorem State.onAdm_lbp (g : Adm → Adm) : (s.onAdm g).lbp = s.lbp := rfl
@[simp] theorem State.onAdm_niu (g : Adm → Adm) : (s.onAdm g).niu = s.niu := rfl
@[simp] theorem State.onAdm_pins (g : Adm → Adm) : (s.onAdm g).pins = s.pins := rfl
@[simp] theorem State.onAdm_now (g : Adm → Adm) : (s.onAdm g).now = s.now := rfl
@[simp] theorem State.onAdm_pending (g : Adm → Adm) : (s.onAdm g).pending = s.pending := rfl
@[simp] theorem State.onAdm_overtaken (g : Adm → Adm) : (s.onAdm g).overtaken = s.overtaken := rfl

/-! `onLsu` -/

@[simp] theorem State.onLsu_cfg (g : Lsu → Lsu) : (s.onLsu g).cfg = s.cfg := rfl
@[simp] theorem State.onLsu_cru (g : Lsu → Lsu) : (s.onLsu g).cru = s.cru := rfl
@[simp] theorem State.onLsu_psu (g : Lsu → Lsu) : (s.onLsu g).psu = s.psu := rfl
@[simp] theorem State.onLsu_clc (g : Lsu → Lsu) : (s.onLsu g).clc = s.clc := rfl
@[simp] theorem State.onLsu_brs (g : Lsu → Lsu) : (s.onLsu g).brs = s.brs := rfl
@[simp] theorem State.onLsu_trc (g : Lsu → Lsu) : (s.onLsu g).trc = s.trc := rfl
@[simp] theorem State.onLsu_dri (g : Lsu → Lsu) : (s.onLsu g).dri = s.dri := rfl
@[simp] theorem State.onLsu_adm (g : Lsu → Lsu) : (s.onLsu g).adm = s.adm := rfl
@[simp] theorem State.onLsu_lsu (g : Lsu → Lsu) : (s.onLsu g).lsu = g s.lsu := rfl
@[simp] theorem State.onLsu_lbp (g : Lsu → Lsu) : (s.onLsu g).lbp = s.lbp := rfl
@[simp] theorem State.onLsu_niu (g : Lsu → Lsu) : (s.onLsu g).niu = s.niu := rfl
@[simp] theorem State.onLsu_pins (g : Lsu → Lsu) : (s.onLsu g).pins = s.pins := rfl
@[simp] theorem State.onLsu_now (g : Lsu → Lsu) : (s.onLsu g).now = s.now := rfl
@[simp] theorem State.onLsu_pending (g : Lsu → Lsu) : (s.onLsu g).pending = s.pending := rfl
@[simp] theorem State.onLsu_overtaken (g : Lsu → Lsu) : (s.onLsu g).overtaken = s.overtaken := rfl

/-! `onLbp` -/

@[simp] theorem State.onLbp_cfg (g : Lbp → Lbp) : (s.onLbp g).cfg = s.cfg := rfl
@[simp] theorem State.onLbp_cru (g : Lbp → Lbp) : (s.onLbp g).cru = s.cru := rfl
@[simp] theorem State.onLbp_psu (g : Lbp → Lbp) : (s.onLbp g).psu = s.psu := rfl
@[simp] theorem State.onLbp_clc (g : Lbp → Lbp) : (s.onLbp g).clc = s.clc := rfl
@[simp] theorem State.onLbp_brs (g : Lbp → Lbp) : (s.onLbp g).brs = s.brs := rfl
@[simp] theorem State.onLbp_trc (g : Lbp → Lbp) : (s.onLbp g).trc = s.trc := rfl
@[simp] theorem State.onLbp_dri (g : Lbp → Lbp) : (s.onLbp g).dri = s.dri := rfl
@[simp] theorem State.onLbp_adm (g : Lbp → Lbp) : (s.onLbp g).adm = s.adm := rfl
@[simp] theorem State.onLbp_lsu (g : Lbp → Lbp) : (s.onLbp g).lsu = s.lsu := rfl
@[simp] theorem State.onLbp_lbp (g : Lbp → Lbp) : (s.onLbp g).lbp = g s.lbp := rfl
@[simp] theorem State.onLbp_niu (g : Lbp → Lbp) : (s.onLbp g).niu = s.niu := rfl
@[simp] theorem State.onLbp_pins (g : Lbp → Lbp) : (s.onLbp g).pins = s.pins := rfl
@[simp] theorem State.onLbp_now (g : Lbp → Lbp) : (s.onLbp g).now = s.now := rfl
@[simp] theorem State.onLbp_pending (g : Lbp → Lbp) : (s.onLbp g).pending = s.pending := rfl
@[simp] theorem State.onLbp_overtaken (g : Lbp → Lbp) : (s.onLbp g).overtaken = s.overtaken := rfl

/-! `onNiu` -/

@[simp] theorem State.onNiu_cfg (g : Niu → Niu) : (s.onNiu g).cfg = s.cfg := rfl
@[simp] theorem State.onNiu_cru (g : Niu → Niu) : (s.onNiu g).cru = s.cru := rfl
@[simp] theorem State.onNiu_psu (g : Niu → Niu) : (s.onNiu g).psu = s.psu := rfl
@[simp] theorem State.onNiu_clc (g : Niu → Niu) : (s.onNiu g).clc = s.clc := rfl
@[simp] theorem State.onNiu_brs (g : Niu → Niu) : (s.onNiu g).brs = s.brs := rfl
@[simp] theorem State.onNiu_trc (g : Niu → Niu) : (s.onNiu g).trc = s.trc := rfl
@[simp] theorem State.onNiu_dri (g : Niu → Niu) : (s.onNiu g).dri = s.dri := rfl
@[simp] theorem State.onNiu_adm (g : Niu → Niu) : (s.onNiu g).adm = s.adm := rfl
@[simp] theorem State.onNiu_lsu (g : Niu → Niu) : (s.onNiu g).lsu = s.lsu := rfl
@[simp] theorem State.onNiu_lbp (g : Niu → Niu) : (s.onNiu g).lbp = s.lbp := rfl
@[simp] theorem State.onNiu_niu (g : Niu → Niu) : (s.onNiu g).niu = g s.niu := rfl
@[simp] theorem State.onNiu_pins (g : Niu → Niu) : (s.onNiu g).pins = s.pins := rfl
@[simp] theorem State.onNiu_now (g : Niu → Niu) : (s.onNiu g).now = s.now := rfl
@[simp] theorem State.onNiu_pending (g : Niu → Niu) : (s.onNiu g).pending = s.pending := rfl
@[simp] theorem State.onNiu_overtaken (g : Niu → Niu) : (s.onNiu g).overtaken = s.overtaken := rfl

/-! `onPins` -/

@[simp] theorem State.onPins_cfg (g : Pins → Pins) : (s.onPins g).cfg = s.cfg := rfl
@[simp] theorem State.onPins_cru (g : Pins → Pins) : (s.onPins g).cru = s.cru := rfl
@[simp] theorem State.onPins_psu (g : Pins → Pins) : (s.onPins g).psu = s.psu := rfl
@[simp] theorem State.onPins_clc (g : Pins → Pins) : (s.onPins g).clc = s.clc := rfl
@[simp] theorem State.onPins_brs (g : Pins → Pins) : (s.onPins g).brs = s.brs := rfl
@[simp] theorem State.onPins_trc (g : Pins → Pins) : (s.onPins g).trc = s.trc := rfl
@[simp] theorem State.onPins_dri (g : Pins → Pins) : (s.onPins g).dri = s.dri := rfl
@[simp] theorem State.onPins_adm (g : Pins → Pins) : (s.onPins g).adm = s.adm := rfl
@[simp] theorem State.onPins_lsu (g : Pins → Pins) : (s.onPins g).lsu = s.lsu := rfl
@[simp] theorem State.onPins_lbp (g : Pins → Pins) : (s.onPins g).lbp = s.lbp := rfl
@[simp] theorem State.onPins_niu (g : Pins → Pins) : (s.onPins g).niu = s.niu := rfl
@[simp] theorem State.onPins_pins (g : Pins → Pins) : (s.onPins g).pins = g s.pins := rfl
@[simp] theorem State.onPins_now (g : Pins → Pins) : (s.onPins g).now = s.now := rfl
@[simp] theorem State.onPins_pending (g : Pins → Pins) : (s.onPins g).pending = s.pending := rfl
@[simp] theorem State.onPins_overtaken (g : Pins → Pins) : (s.onPins g).overtaken = s.overtaken := rfl

/-! `onTrip` -/

@[simp] theorem State.onTrip_cfg (g : TripRecord → TripRecord) : (s.onTrip g).cfg = s.cfg := rfl
@[simp] theorem State.onTrip_cru (g : TripRecord → TripRecord) : (s.onTrip g).cru = s.cru := rfl
@[simp] theorem State.onTrip_psu (g : TripRecord → TripRecord) : (s.onTrip g).psu = s.psu := rfl
@[simp] theorem State.onTrip_clc (g : TripRecord → TripRecord) : (s.onTrip g).clc = s.clc := rfl
@[simp] theorem State.onTrip_brs (g : TripRecord → TripRecord) : (s.onTrip g).brs = s.brs := rfl
@[simp] theorem State.onTrip_trc (g : TripRecord → TripRecord) : (s.onTrip g).trc = { s.trc with trip := g s.trc.trip } := rfl
@[simp] theorem State.onTrip_dri (g : TripRecord → TripRecord) : (s.onTrip g).dri = s.dri := rfl
@[simp] theorem State.onTrip_adm (g : TripRecord → TripRecord) : (s.onTrip g).adm = s.adm := rfl
@[simp] theorem State.onTrip_lsu (g : TripRecord → TripRecord) : (s.onTrip g).lsu = s.lsu := rfl
@[simp] theorem State.onTrip_lbp (g : TripRecord → TripRecord) : (s.onTrip g).lbp = s.lbp := rfl
@[simp] theorem State.onTrip_niu (g : TripRecord → TripRecord) : (s.onTrip g).niu = s.niu := rfl
@[simp] theorem State.onTrip_pins (g : TripRecord → TripRecord) : (s.onTrip g).pins = s.pins := rfl
@[simp] theorem State.onTrip_now (g : TripRecord → TripRecord) : (s.onTrip g).now = s.now := rfl
@[simp] theorem State.onTrip_pending (g : TripRecord → TripRecord) : (s.onTrip g).pending = s.pending := rfl
@[simp] theorem State.onTrip_overtaken (g : TripRecord → TripRecord) : (s.onTrip g).overtaken = s.overtaken := rfl

/-! `advanceTo` -/

@[simp] theorem advanceTo_cfg (t : Nat) : (advanceTo t s).cfg = s.cfg := rfl
@[simp] theorem advanceTo_cru (t : Nat) : (advanceTo t s).cru = s.cru := rfl
@[simp] theorem advanceTo_psu (t : Nat) : (advanceTo t s).psu = s.psu := rfl
@[simp] theorem advanceTo_clc (t : Nat) : (advanceTo t s).clc = s.clc := rfl
@[simp] theorem advanceTo_brs (t : Nat) : (advanceTo t s).brs = s.brs := rfl
@[simp] theorem advanceTo_trc (t : Nat) : (advanceTo t s).trc = s.trc := rfl
@[simp] theorem advanceTo_dri (t : Nat) : (advanceTo t s).dri = s.dri := rfl
@[simp] theorem advanceTo_adm (t : Nat) : (advanceTo t s).adm = s.adm := rfl
@[simp] theorem advanceTo_lsu (t : Nat) : (advanceTo t s).lsu = s.lsu := rfl
@[simp] theorem advanceTo_lbp (t : Nat) : (advanceTo t s).lbp = s.lbp := rfl
@[simp] theorem advanceTo_niu (t : Nat) : (advanceTo t s).niu = s.niu := rfl
@[simp] theorem advanceTo_pins (t : Nat) : (advanceTo t s).pins = s.pins := rfl
@[simp] theorem advanceTo_now (t : Nat) : (advanceTo t s).now = max s.now t := rfl
@[simp] theorem advanceTo_pending (t : Nat) : (advanceTo t s).pending = s.pending := rfl
@[simp] theorem advanceTo_overtaken (t : Nat) : (advanceTo t s).overtaken = s.overtaken := rfl

/-! `markOvertaken` and `takenUp` -/

@[simp] theorem markOvertaken_cfg (before : State) : (markOvertaken before s).cfg = s.cfg := rfl
@[simp] theorem markOvertaken_cru (before : State) : (markOvertaken before s).cru = s.cru := rfl
@[simp] theorem markOvertaken_psu (before : State) : (markOvertaken before s).psu = s.psu := rfl
@[simp] theorem markOvertaken_clc (before : State) : (markOvertaken before s).clc = s.clc := rfl
@[simp] theorem markOvertaken_brs (before : State) : (markOvertaken before s).brs = s.brs := rfl
@[simp] theorem markOvertaken_trc (before : State) : (markOvertaken before s).trc = s.trc := rfl
@[simp] theorem markOvertaken_dri (before : State) : (markOvertaken before s).dri = s.dri := rfl
@[simp] theorem markOvertaken_adm (before : State) : (markOvertaken before s).adm = s.adm := rfl
@[simp] theorem markOvertaken_lsu (before : State) : (markOvertaken before s).lsu = s.lsu := rfl
@[simp] theorem markOvertaken_lbp (before : State) : (markOvertaken before s).lbp = s.lbp := rfl
@[simp] theorem markOvertaken_niu (before : State) : (markOvertaken before s).niu = s.niu := rfl
@[simp] theorem markOvertaken_pins (before : State) : (markOvertaken before s).pins = s.pins := rfl
@[simp] theorem markOvertaken_now (before : State) : (markOvertaken before s).now = s.now := rfl
@[simp] theorem markOvertaken_pending (before : State) : (markOvertaken before s).pending = s.pending := rfl

@[simp] theorem takenUp_cfg (i : Instr) : (takenUp i s).cfg = s.cfg := rfl
@[simp] theorem takenUp_cru (i : Instr) : (takenUp i s).cru = s.cru := rfl
@[simp] theorem takenUp_psu (i : Instr) : (takenUp i s).psu = s.psu := rfl
@[simp] theorem takenUp_clc (i : Instr) : (takenUp i s).clc = s.clc := rfl
@[simp] theorem takenUp_brs (i : Instr) : (takenUp i s).brs = s.brs := rfl
@[simp] theorem takenUp_trc (i : Instr) : (takenUp i s).trc = s.trc := rfl
@[simp] theorem takenUp_dri (i : Instr) : (takenUp i s).dri = s.dri := rfl
@[simp] theorem takenUp_adm (i : Instr) : (takenUp i s).adm = s.adm := rfl
@[simp] theorem takenUp_lsu (i : Instr) : (takenUp i s).lsu = s.lsu := rfl
@[simp] theorem takenUp_lbp (i : Instr) : (takenUp i s).lbp = s.lbp := rfl
@[simp] theorem takenUp_niu (i : Instr) : (takenUp i s).niu = s.niu := rfl
@[simp] theorem takenUp_pins (i : Instr) : (takenUp i s).pins = s.pins := rfl
@[simp] theorem takenUp_now (i : Instr) : (takenUp i s).now = s.now := rfl
@[simp] theorem takenUp_pending (i : Instr) : (takenUp i s).pending = s.pending := rfl

/-- Which timed events have been overtaken after a command, at the time at which it was taken. -/
theorem mem_markOvertaken (before : State) (o : Overtaken) :
    o ∈ (markOvertaken before s).overtaken ↔
      (o ∈ s.overtaken ∧ o.time = before.now) ∨
        (o.time = before.now ∧ o.event ∈ dueTimed before ∧ o.event ∉ dueTimed s) := by
  obtain ⟨i, n⟩ := o
  simp only [markOvertaken, List.mem_append, List.mem_filter, List.mem_map, decide_eq_true_eq, Overtaken.mk.injEq]
  refine or_congr .rfl ⟨?_, fun ⟨hn, hi⟩ => ⟨i, hi, rfl, hn.symm⟩⟩
  rintro ⟨j, hj, rfl, rfl⟩
  exact ⟨rfl, hj⟩

/-- An event that has been taken has not been overtaken. -/
@[simp] theorem isOvertaken_takenUp (i : Instr) : isOvertaken (takenUp i s) i = false := by
  simp [isOvertaken, takenUp]

/-! The stored parameters -/

theorem State.params_eq : s.params = s.cfg.params := rfl

/-! Values kept one by one -/

@[simp] theorem PerCar.get_set_self {α : Type} (p : PerCar α) (c : Car) (v : α) : (p.set c v).get c = v := by
  cases c <;> rfl

theorem PerCar.get_set_other {α : Type} (p : PerCar α) {c d : Car} (v : α) (h : d ≠ c) : (p.set c v).get d = p.get d := by
  cases c <;> cases d <;> first | rfl | exact absurd rfl h

@[simp] theorem PerSide.get_set_self {α : Type} (p : PerSide α) (c : Side) (v : α) : (p.set c v).get c = v := by
  cases c <;> rfl

theorem PerSide.get_set_other {α : Type} (p : PerSide α) {c d : Side} (v : α) (h : d ≠ c) : (p.set c v).get d = p.get d := by
  cases c <;> cases d <;> first | rfl | exact absurd rfl h

@[simp] theorem PerBerth.get_set_self {α : Type} (p : PerBerth α) (c : Berth) (v : α) : (p.set c v).get c = v := by
  cases c <;> rfl

theorem PerBerth.get_set_other {α : Type} (p : PerBerth α) {c d : Berth} (v : α) (h : d ≠ c) :
    (p.set c v).get d = p.get d := by
  cases c <;> cases d <;> first | rfl | exact absurd rfl h

@[simp] theorem PerStation.get_set_self {α : Type} (p : PerStation α) (c : Station) (v : α) : (p.set c v).get c = v := by
  cases c <;> rfl

theorem PerStation.get_set_other {α : Type} (p : PerStation α) {c d : Station} (v : α) (h : d ≠ c) :
    (p.set c v).get d = p.get d := by
  cases c <;> cases d <;> first | rfl | exact absurd rfl h

@[simp] theorem PerStation.get_map {α β : Type} (f : α → β) (p : PerStation α) (c : Station) :
    (p.map f).get c = f (p.get c) := by
  cases c <;> rfl

@[simp] theorem PerStation.get_all {α : Type} (v : α) (c : Station) : (PerStation.all v).get c = v := by
  cases c <;> rfl

@[simp] theorem PerPlatform.get_set_self {α : Type} (p : PerPlatform α) (c : Platform) (v : α) :
    (p.set c v).get c = v := by
  cases c <;> rfl

theorem PerPlatform.get_set_other {α : Type} (p : PerPlatform α) {c d : Platform} (v : α) (h : d ≠ c) :
    (p.set c v).get d = p.get d := by
  cases c <;> cases d <;> first | rfl | exact absurd rfl h

/-- `ext` for one value per station, by what each station reads. -/
theorem PerStation.ext_get {α : Type} {p q : PerStation α} (h : ∀ st, p.get st = q.get st) : p = q := by
  cases p; cases q
  have a := h .drv; have b := h .carA; have c := h .carB; have d := h .gateBot
  have e := h .gateMid; have f := h .gateTop; have g := h .con
  simp only [PerStation.get] at a b c d e f g
  subst a b c d e f g
  rfl

end Sys2Proof.Machine
end

