-- ==== Sys2Proof/Laws/Frames.lean ====
section
/-! SUPPORT. What each shared operation leaves alone: one lemma per operation, a conjunction of one equation for each
field it keeps whole, and for a field it changes, for each part of that field it keeps. All are simp lemmas, so a proof
about a step reads a kept field through any chain of operations without unfolding one. -/

namespace Sys2Proof.Machine

@[simp] theorem handTo_frame (k : NoticeKind) (d : NoticeDetail) (st : Station) (s : State) :
    (handTo k d st s).cfg = s.cfg ∧ (handTo k d st s).cru = s.cru ∧ (handTo k d st s).psu = s.psu ∧
    (handTo k d st s).clc = s.clc ∧ (handTo k d st s).brs = s.brs ∧ (handTo k d st s).trc = s.trc ∧
    (handTo k d st s).dri = s.dri ∧ (handTo k d st s).adm = s.adm ∧ (handTo k d st s).lsu = s.lsu ∧
    (handTo k d st s).lbp = s.lbp ∧ (handTo k d st s).pins = s.pins ∧ (handTo k d st s).now = s.now ∧
    (handTo k d st s).pending = s.pending ∧ (handTo k d st s).niu.incidents = s.niu.incidents ∧
    (handTo k d st s).niu.overflow = s.niu.overflow ∧ (handTo k d st s).niu.seq = s.niu.seq ∧
    (handTo k d st s).niu.resetCauses = s.niu.resetCauses := by
  and_intros <;>
    (unfold handTo; (try dsimp only); (repeat' split) <;> (try simp) <;> (try with_reducible rfl))

@[simp] theorem hand_frame (k : NoticeKind) (d : NoticeDetail) (sts : List Station) (s : State) :
    (hand k d sts s).cfg = s.cfg ∧ (hand k d sts s).cru = s.cru ∧ (hand k d sts s).psu = s.psu ∧
    (hand k d sts s).clc = s.clc ∧ (hand k d sts s).brs = s.brs ∧ (hand k d sts s).trc = s.trc ∧
    (hand k d sts s).dri = s.dri ∧ (hand k d sts s).adm = s.adm ∧ (hand k d sts s).lsu = s.lsu ∧
    (hand k d sts s).lbp = s.lbp ∧ (hand k d sts s).pins = s.pins ∧ (hand k d sts s).now = s.now ∧
    (hand k d sts s).pending = s.pending ∧ (hand k d sts s).niu.incidents = s.niu.incidents ∧
    (hand k d sts s).niu.overflow = s.niu.overflow ∧ (hand k d sts s).niu.seq = s.niu.seq ∧
    (hand k d sts s).niu.resetCauses = s.niu.resetCauses := by
  refine ⟨?_, ?_, ?_, ?_, ?_, ?_, ?_, ?_, ?_, ?_, ?_, ?_, ?_, ?_, ?_, ?_, ?_⟩ <;> induction sts generalizing s with
  | nil => rfl
  | cons a l ih => exact (ih _).trans (by simp)

@[simp] theorem handAll_frame (k : NoticeKind) (d : NoticeDetail) (s : State) :
    (handAll k d s).cfg = s.cfg ∧ (handAll k d s).cru = s.cru ∧ (handAll k d s).psu = s.psu ∧
    (handAll k d s).clc = s.clc ∧ (handAll k d s).brs = s.brs ∧ (handAll k d s).trc = s.trc ∧
    (handAll k d s).dri = s.dri ∧ (handAll k d s).adm = s.adm ∧ (handAll k d s).lsu = s.lsu ∧
    (handAll k d s).lbp = s.lbp ∧ (handAll k d s).pins = s.pins ∧ (handAll k d s).now = s.now ∧
    (handAll k d s).pending = s.pending ∧ (handAll k d s).niu.incidents = s.niu.incidents ∧
    (handAll k d s).niu.overflow = s.niu.overflow ∧ (handAll k d s).niu.seq = s.niu.seq ∧
    (handAll k d s).niu.resetCauses = s.niu.resetCauses := by
  and_intros <;>
    (unfold handAll; (try dsimp only); (repeat' split) <;> (try simp) <;> (try with_reducible rfl))

@[simp] theorem latchAll_frame (s : State) :
    (latchAll s).cfg = s.cfg ∧ (latchAll s).cru = s.cru ∧ (latchAll s).psu = s.psu ∧ (latchAll s).clc = s.clc ∧
    (latchAll s).brs = s.brs ∧ (latchAll s).trc = s.trc ∧ (latchAll s).dri = s.dri ∧ (latchAll s).adm = s.adm ∧
    (latchAll s).lsu = s.lsu ∧ (latchAll s).lbp = s.lbp ∧ (latchAll s).pins = s.pins ∧ (latchAll s).now = s.now ∧
    (latchAll s).pending = s.pending ∧ (latchAll s).niu.incidents = s.niu.incidents ∧
    (latchAll s).niu.overflow = s.niu.overflow ∧ (latchAll s).niu.seq = s.niu.seq ∧
    (latchAll s).niu.resetCauses = s.niu.resetCauses := by
  and_intros <;>
    (unfold latchAll; (try dsimp only); (repeat' split) <;> (try simp) <;> (try with_reducible rfl))

@[simp] theorem markChanged_frame (before after : State) :
    (markChanged before after).cfg = after.cfg ∧ (markChanged before after).cru = after.cru ∧
    (markChanged before after).psu = after.psu ∧ (markChanged before after).clc = after.clc ∧
    (markChanged before after).brs = after.brs ∧ (markChanged before after).trc = after.trc ∧
    (markChanged before after).dri = after.dri ∧ (markChanged before after).adm = after.adm ∧
    (markChanged before after).lsu = after.lsu ∧ (markChanged before after).niu = after.niu ∧
    (markChanged before after).pins = after.pins ∧ (markChanged before after).now = after.now ∧
    (markChanged before after).pending = after.pending ∧
    (markChanged before after).lbp.selection = after.lbp.selection ∧
    (markChanged before after).lbp.continuation = after.lbp.continuation ∧
    (markChanged before after).lbp.reply = after.lbp.reply := by
  and_intros <;>
    (unfold markChanged; (try dsimp only); (repeat' split) <;> (try simp) <;> (try with_reducible rfl))

@[simp] theorem finish_frame (before after : State) :
    (finish before after).cfg = after.cfg ∧ (finish before after).cru = after.cru ∧
    (finish before after).psu = after.psu ∧ (finish before after).clc = after.clc ∧
    (finish before after).brs = after.brs ∧ (finish before after).trc = after.trc ∧
    (finish before after).dri = after.dri ∧ (finish before after).adm = after.adm ∧
    (finish before after).lsu = after.lsu ∧ (finish before after).pins = after.pins ∧
    (finish before after).now = after.now ∧ (finish before after).pending = after.pending ∧
    (finish before after).lbp.selection = after.lbp.selection ∧
    (finish before after).lbp.continuation = after.lbp.continuation ∧
    (finish before after).lbp.reply = after.lbp.reply ∧ (finish before after).niu.incidents = after.niu.incidents ∧
    (finish before after).niu.overflow = after.niu.overflow ∧ (finish before after).niu.seq = after.niu.seq ∧
    (finish before after).niu.resetCauses = after.niu.resetCauses := by
  and_intros <;>
    (unfold finish; (try dsimp only); (repeat' split) <;> (try simp) <;> (try with_reducible rfl))

@[simp] theorem updateOutputs_frame (s : State) :
    (updateOutputs s).cfg = s.cfg ∧ (updateOutputs s).cru = s.cru ∧ (updateOutputs s).psu = s.psu ∧
    (updateOutputs s).clc = s.clc ∧ (updateOutputs s).trc = s.trc ∧ (updateOutputs s).dri = s.dri ∧
    (updateOutputs s).adm = s.adm ∧ (updateOutputs s).lsu = s.lsu ∧ (updateOutputs s).lbp = s.lbp ∧
    (updateOutputs s).niu = s.niu ∧ (updateOutputs s).pins = s.pins ∧ (updateOutputs s).now = s.now ∧
    (updateOutputs s).pending = s.pending ∧ (updateOutputs s).brs.stage = s.brs.stage ∧
    (updateOutputs s).brs.causes = s.brs.causes ∧ (updateOutputs s).brs.sbFb = s.brs.sbFb ∧
    (updateOutputs s).brs.ebFb = s.brs.ebFb ∧ (updateOutputs s).brs.lastRefresh = s.brs.lastRefresh ∧
    (updateOutputs s).brs.overspeedCount = s.brs.overspeedCount ∧ (updateOutputs s).brs.warnArmed = s.brs.warnArmed ∧
    (updateOutputs s).brs.refreshTimer = s.brs.refreshTimer ∧ (updateOutputs s).brs.releaseWait = s.brs.releaseWait ∧
    (updateOutputs s).brs.effectiveness = s.brs.effectiveness := by
  and_intros <;>
    (unfold updateOutputs; (try dsimp only); (repeat' split) <;> (try simp) <;> (try with_reducible rfl))

@[simp] theorem noteGate_frame (before after : State) (g : Gate) (s : State) :
    (noteGate before after g s).cfg = s.cfg ∧ (noteGate before after g s).cru = s.cru ∧
    (noteGate before after g s).psu = s.psu ∧ (noteGate before after g s).clc = s.clc ∧
    (noteGate before after g s).brs = s.brs ∧ (noteGate before after g s).trc = s.trc ∧
    (noteGate before after g s).dri = s.dri ∧ (noteGate before after g s).adm = s.adm ∧
    (noteGate before after g s).lsu = s.lsu ∧ (noteGate before after g s).lbp = s.lbp ∧
    (noteGate before after g s).pins = s.pins ∧ (noteGate before after g s).now = s.now ∧
    (noteGate before after g s).pending = s.pending ∧ (noteGate before after g s).niu.incidents = s.niu.incidents ∧
    (noteGate before after g s).niu.overflow = s.niu.overflow ∧ (noteGate before after g s).niu.seq = s.niu.seq ∧
    (noteGate before after g s).niu.resetCauses = s.niu.resetCauses := by
  and_intros <;>
    (unfold noteGate; (try dsimp only); (repeat' split) <;> (try simp) <;> (try with_reducible rfl))

@[simp] theorem noteWindows_frame (before after : State) :
    (noteWindows before after).cfg = after.cfg ∧ (noteWindows before after).cru = after.cru ∧
    (noteWindows before after).psu = after.psu ∧ (noteWindows before after).clc = after.clc ∧
    (noteWindows before after).brs = after.brs ∧ (noteWindows before after).trc = after.trc ∧
    (noteWindows before after).dri = after.dri ∧ (noteWindows before after).adm = after.adm ∧
    (noteWindows before after).lsu = after.lsu ∧ (noteWindows before after).lbp = after.lbp ∧
    (noteWindows before after).pins = after.pins ∧ (noteWindows before after).now = after.now ∧
    (noteWindows before after).pending = after.pending ∧
    (noteWindows before after).niu.incidents = after.niu.incidents ∧
    (noteWindows before after).niu.overflow = after.niu.overflow ∧
    (noteWindows before after).niu.seq = after.niu.seq ∧
    (noteWindows before after).niu.resetCauses = after.niu.resetCauses := by
  unfold noteWindows allGates
  simp

@[simp] theorem setReleaseMark_frame (v : Bool) (s : State) :
    (setReleaseMark v s).cfg = s.cfg ∧ (setReleaseMark v s).cru = s.cru ∧ (setReleaseMark v s).psu = s.psu ∧
    (setReleaseMark v s).clc = s.clc ∧ (setReleaseMark v s).brs = s.brs ∧ (setReleaseMark v s).trc = s.trc ∧
    (setReleaseMark v s).dri = s.dri ∧ (setReleaseMark v s).lsu = s.lsu ∧ (setReleaseMark v s).lbp = s.lbp ∧
    (setReleaseMark v s).pins = s.pins ∧ (setReleaseMark v s).now = s.now ∧ (setReleaseMark v s).pending = s.pending ∧
    (setReleaseMark v s).adm.lanes = s.adm.lanes ∧ (setReleaseMark v s).adm.reservations = s.adm.reservations ∧
    (setReleaseMark v s).adm.loads = s.adm.loads ∧ (setReleaseMark v s).adm.uncounted = s.adm.uncounted ∧
    (setReleaseMark v s).niu.incidents = s.niu.incidents ∧ (setReleaseMark v s).niu.overflow = s.niu.overflow ∧
    (setReleaseMark v s).niu.seq = s.niu.seq ∧ (setReleaseMark v s).niu.resetCauses = s.niu.resetCauses := by
  and_intros <;>
    (unfold setReleaseMark; (try dsimp only); (repeat' split) <;> (try simp) <;> (try with_reducible rfl))

@[simp] theorem trcOnTrip_frame (new : TripState) (s : State) :
    (trcOnTrip new s).cfg = s.cfg ∧ (trcOnTrip new s).cru = s.cru ∧ (trcOnTrip new s).psu = s.psu ∧
    (trcOnTrip new s).clc = s.clc ∧ (trcOnTrip new s).brs = s.brs ∧ (trcOnTrip new s).dri = s.dri ∧
    (trcOnTrip new s).adm = s.adm ∧ (trcOnTrip new s).lsu = s.lsu ∧ (trcOnTrip new s).lbp = s.lbp ∧
    (trcOnTrip new s).niu = s.niu ∧ (trcOnTrip new s).pins = s.pins ∧ (trcOnTrip new s).now = s.now ∧
    (trcOnTrip new s).pending = s.pending ∧ (trcOnTrip new s).trc.slot0 = s.trc.slot0 ∧
    (trcOnTrip new s).trc.slot1 = s.trc.slot1 ∧ (trcOnTrip new s).trc.drvMode = s.trc.drvMode ∧
    (trcOnTrip new s).trc.conMode = s.trc.conMode ∧ (trcOnTrip new s).trc.effMode = s.trc.effMode ∧
    (trcOnTrip new s).trc.trip = s.trc.trip ∧ (trcOnTrip new s).trc.frozen = s.trc.frozen ∧
    (trcOnTrip new s).trc.debounced = s.trc.debounced ∧ (trcOnTrip new s).trc.elapsed = s.trc.elapsed := by
  and_intros <;>
    (unfold trcOnTrip; (try dsimp only); (repeat' split) <;> (try simp) <;> (try with_reducible rfl))

@[simp] theorem brsOnTrip_frame (new : TripState) (s : State) :
    (brsOnTrip new s).cfg = s.cfg ∧ (brsOnTrip new s).cru = s.cru ∧ (brsOnTrip new s).psu = s.psu ∧
    (brsOnTrip new s).clc = s.clc ∧ (brsOnTrip new s).trc = s.trc ∧ (brsOnTrip new s).dri = s.dri ∧
    (brsOnTrip new s).adm = s.adm ∧ (brsOnTrip new s).lsu = s.lsu ∧ (brsOnTrip new s).lbp = s.lbp ∧
    (brsOnTrip new s).niu = s.niu ∧ (brsOnTrip new s).pins = s.pins ∧ (brsOnTrip new s).now = s.now ∧
    (brsOnTrip new s).pending = s.pending ∧ (brsOnTrip new s).brs.stage = s.brs.stage ∧
    (brsOnTrip new s).brs.causes = s.brs.causes ∧ (brsOnTrip new s).brs.sbFb = s.brs.sbFb ∧
    (brsOnTrip new s).brs.ebFb = s.brs.ebFb ∧ (brsOnTrip new s).brs.lastRefresh = s.brs.lastRefresh ∧
    (brsOnTrip new s).brs.overspeedCount = s.brs.overspeedCount ∧ (brsOnTrip new s).brs.warnArmed = s.brs.warnArmed ∧
    (brsOnTrip new s).brs.effectiveness = s.brs.effectiveness := by
  and_intros <;>
    (unfold brsOnTrip; (try dsimp only); (repeat' split) <;> (try simp) <;> (try with_reducible rfl))

@[simp] theorem psuOnTrip_frame (old new : TripState) (s : State) :
    (psuOnTrip old new s).cfg = s.cfg ∧ (psuOnTrip old new s).cru = s.cru ∧ (psuOnTrip old new s).clc = s.clc ∧
    (psuOnTrip old new s).brs = s.brs ∧ (psuOnTrip old new s).trc = s.trc ∧ (psuOnTrip old new s).dri = s.dri ∧
    (psuOnTrip old new s).adm = s.adm ∧ (psuOnTrip old new s).lsu = s.lsu ∧ (psuOnTrip old new s).lbp = s.lbp ∧
    (psuOnTrip old new s).niu = s.niu ∧ (psuOnTrip old new s).pins = s.pins ∧ (psuOnTrip old new s).now = s.now ∧
    (psuOnTrip old new s).pending = s.pending ∧ (psuOnTrip old new s).psu.count = s.psu.count ∧
    (psuOnTrip old new s).psu.countPrev = s.psu.countPrev ∧ (psuOnTrip old new s).psu.pRef = s.psu.pRef ∧
    (psuOnTrip old new s).psu.countRef = s.psu.countRef ∧ (psuOnTrip old new s).psu.ref = s.psu.ref ∧
    (psuOnTrip old new s).psu.expected = s.psu.expected ∧ (psuOnTrip old new s).psu.sampleTimer = s.psu.sampleTimer ∧
    (psuOnTrip old new s).psu.vEval = s.psu.vEval ∧ (psuOnTrip old new s).psu.vRope = s.psu.vRope ∧
    (psuOnTrip old new s).psu.ropeDir = s.psu.ropeDir ∧ (psuOnTrip old new s).psu.travelDir = s.psu.travelDir ∧
    (psuOnTrip old new s).psu.stillCount = s.psu.stillCount ∧ (psuOnTrip old new s).psu.still = s.psu.still ∧
    (psuOnTrip old new s).psu.mismatch = s.psu.mismatch ∧ (psuOnTrip old new s).psu.armed = s.psu.armed := by
  and_intros <;>
    (unfold psuOnTrip; (try dsimp only); (repeat' split) <;> (try simp) <;> (try with_reducible rfl))

@[simp] theorem clcOnTrip_frame (new : TripState) (s : State) :
    (clcOnTrip new s).cfg = s.cfg ∧ (clcOnTrip new s).cru = s.cru ∧ (clcOnTrip new s).psu = s.psu ∧
    (clcOnTrip new s).brs = s.brs ∧ (clcOnTrip new s).dri = s.dri ∧ (clcOnTrip new s).adm = s.adm ∧
    (clcOnTrip new s).lsu = s.lsu ∧ (clcOnTrip new s).lbp = s.lbp ∧ (clcOnTrip new s).niu = s.niu ∧
    (clcOnTrip new s).pins = s.pins ∧ (clcOnTrip new s).now = s.now ∧ (clcOnTrip new s).pending = s.pending ∧
    (clcOnTrip new s).clc.c = s.clc.c ∧ (clcOnTrip new s).clc.w1 = s.clc.w1 ∧ (clcOnTrip new s).clc.s = s.clc.s ∧
    (clcOnTrip new s).clc.e = s.clc.e ∧ (clcOnTrip new s).clc.vdrv = s.clc.vdrv ∧
    (clcOnTrip new s).trc.state = s.trc.state ∧ (clcOnTrip new s).trc.slot0 = s.trc.slot0 ∧
    (clcOnTrip new s).trc.slot1 = s.trc.slot1 ∧ (clcOnTrip new s).trc.drvMode = s.trc.drvMode ∧
    (clcOnTrip new s).trc.conMode = s.trc.conMode ∧ (clcOnTrip new s).trc.effMode = s.trc.effMode ∧
    (clcOnTrip new s).trc.trip.number = s.trc.trip.number ∧ (clcOnTrip new s).trc.trip.origin = s.trc.trip.origin ∧
    (clcOnTrip new s).trc.trip.destination = s.trc.trip.destination ∧
    (clcOnTrip new s).trc.trip.direction = s.trc.trip.direction ∧
    (clcOnTrip new s).trc.trip.owner = s.trc.trip.owner ∧ (clcOnTrip new s).trc.trip.lastDir = s.trc.trip.lastDir ∧
    (clcOnTrip new s).trc.frozen = s.trc.frozen ∧ (clcOnTrip new s).trc.debounced = s.trc.debounced ∧
    (clcOnTrip new s).trc.minDwell = s.trc.minDwell ∧ (clcOnTrip new s).trc.elapsed = s.trc.elapsed ∧
    (clcOnTrip new s).trc.settleTimer = s.trc.settleTimer := by
  and_intros <;>
    (unfold clcOnTrip; (try dsimp only); (repeat' split) <;> (try simp) <;> (try with_reducible rfl))

@[simp] theorem driOnTrip_frame (new : TripState) (s : State) :
    (driOnTrip new s).cfg = s.cfg ∧ (driOnTrip new s).cru = s.cru ∧ (driOnTrip new s).psu = s.psu ∧
    (driOnTrip new s).clc = s.clc ∧ (driOnTrip new s).brs = s.brs ∧ (driOnTrip new s).trc = s.trc ∧
    (driOnTrip new s).adm = s.adm ∧ (driOnTrip new s).lsu = s.lsu ∧ (driOnTrip new s).lbp = s.lbp ∧
    (driOnTrip new s).niu = s.niu ∧ (driOnTrip new s).pins = s.pins ∧ (driOnTrip new s).now = s.now ∧
    (driOnTrip new s).pending = s.pending ∧ (driOnTrip new s).dri.evac = s.dri.evac ∧
    (driOnTrip new s).dri.maint = s.dri.maint := by
  and_intros <;>
    (unfold driOnTrip; (try dsimp only); (repeat' split) <;> (try simp) <;> (try with_reducible rfl))

@[simp] theorem admOnTrip_frame (old new : TripState) (s : State) :
    (admOnTrip old new s).cfg = s.cfg ∧ (admOnTrip old new s).cru = s.cru ∧ (admOnTrip old new s).psu = s.psu ∧
    (admOnTrip old new s).clc = s.clc ∧ (admOnTrip old new s).brs = s.brs ∧ (admOnTrip old new s).trc = s.trc ∧
    (admOnTrip old new s).dri = s.dri ∧ (admOnTrip old new s).lsu = s.lsu ∧ (admOnTrip old new s).lbp = s.lbp ∧
    (admOnTrip old new s).niu = s.niu ∧ (admOnTrip old new s).pins = s.pins ∧ (admOnTrip old new s).now = s.now ∧
    (admOnTrip old new s).pending = s.pending := by
  and_intros <;>
    (unfold admOnTrip; (try dsimp only); (repeat' split) <;> (try simp) <;> (try with_reducible rfl))

@[simp] theorem setTripState_frame (new : TripState) (s : State) :
    (setTripState new s).cfg = s.cfg ∧ (setTripState new s).cru = s.cru ∧ (setTripState new s).lsu = s.lsu ∧
    (setTripState new s).lbp = s.lbp ∧ (setTripState new s).pins = s.pins ∧ (setTripState new s).now = s.now ∧
    (setTripState new s).pending = s.pending ∧ (setTripState new s).psu.count = s.psu.count ∧
    (setTripState new s).psu.countPrev = s.psu.countPrev ∧ (setTripState new s).psu.pRef = s.psu.pRef ∧
    (setTripState new s).psu.countRef = s.psu.countRef ∧ (setTripState new s).psu.ref = s.psu.ref ∧
    (setTripState new s).psu.expected = s.psu.expected ∧ (setTripState new s).psu.sampleTimer = s.psu.sampleTimer ∧
    (setTripState new s).psu.vEval = s.psu.vEval ∧ (setTripState new s).psu.vRope = s.psu.vRope ∧
    (setTripState new s).psu.ropeDir = s.psu.ropeDir ∧ (setTripState new s).psu.travelDir = s.psu.travelDir ∧
    (setTripState new s).psu.stillCount = s.psu.stillCount ∧ (setTripState new s).psu.still = s.psu.still ∧
    (setTripState new s).psu.mismatch = s.psu.mismatch ∧ (setTripState new s).psu.armed = s.psu.armed ∧
    (setTripState new s).clc.c = s.clc.c ∧ (setTripState new s).clc.w1 = s.clc.w1 ∧
    (setTripState new s).clc.s = s.clc.s ∧ (setTripState new s).clc.e = s.clc.e ∧
    (setTripState new s).clc.vdrv = s.clc.vdrv ∧ (setTripState new s).brs.stage = s.brs.stage ∧
    (setTripState new s).brs.causes = s.brs.causes ∧ (setTripState new s).brs.sbFb = s.brs.sbFb ∧
    (setTripState new s).brs.ebFb = s.brs.ebFb ∧ (setTripState new s).brs.lastRefresh = s.brs.lastRefresh ∧
    (setTripState new s).brs.overspeedCount = s.brs.overspeedCount ∧
    (setTripState new s).brs.warnArmed = s.brs.warnArmed ∧
    (setTripState new s).brs.effectiveness = s.brs.effectiveness ∧ (setTripState new s).trc.slot0 = s.trc.slot0 ∧
    (setTripState new s).trc.slot1 = s.trc.slot1 ∧ (setTripState new s).trc.drvMode = s.trc.drvMode ∧
    (setTripState new s).trc.conMode = s.trc.conMode ∧ (setTripState new s).trc.effMode = s.trc.effMode ∧
    (setTripState new s).trc.trip.number = s.trc.trip.number ∧
    (setTripState new s).trc.trip.origin = s.trc.trip.origin ∧
    (setTripState new s).trc.trip.destination = s.trc.trip.destination ∧
    (setTripState new s).trc.trip.direction = s.trc.trip.direction ∧
    (setTripState new s).trc.trip.owner = s.trc.trip.owner ∧
    (setTripState new s).trc.trip.lastDir = s.trc.trip.lastDir ∧ (setTripState new s).trc.frozen = s.trc.frozen ∧
    (setTripState new s).trc.debounced = s.trc.debounced ∧ (setTripState new s).trc.elapsed = s.trc.elapsed ∧
    (setTripState new s).dri.evac = s.dri.evac ∧ (setTripState new s).dri.maint = s.dri.maint ∧
    (setTripState new s).niu.incidents = s.niu.incidents ∧ (setTripState new s).niu.overflow = s.niu.overflow ∧
    (setTripState new s).niu.seq = s.niu.seq ∧ (setTripState new s).niu.resetCauses = s.niu.resetCauses := by
  and_intros <;>
    (unfold setTripState; (try dsimp only); (repeat' split) <;> (try simp) <;> (try with_reducible rfl))

@[simp] theorem driNewDwell_frame (s : State) :
    (driNewDwell s).cfg = s.cfg ∧ (driNewDwell s).cru = s.cru ∧ (driNewDwell s).psu = s.psu ∧
    (driNewDwell s).clc = s.clc ∧ (driNewDwell s).brs = s.brs ∧ (driNewDwell s).trc = s.trc ∧
    (driNewDwell s).adm = s.adm ∧ (driNewDwell s).lsu = s.lsu ∧ (driNewDwell s).lbp = s.lbp ∧
    (driNewDwell s).niu = s.niu ∧ (driNewDwell s).pins = s.pins ∧ (driNewDwell s).now = s.now ∧
    (driNewDwell s).pending = s.pending ∧ (driNewDwell s).dri.evac = s.dri.evac ∧
    (driNewDwell s).dri.maint = s.dri.maint ∧ (driNewDwell s).dri.doorTimer = s.dri.doorTimer := by
  and_intros <;>
    (unfold driNewDwell; (try dsimp only); (repeat' split) <;> (try simp) <;> (try with_reducible rfl))

@[simp] theorem newDwell_frame (k : Stop) (s : State) :
    (newDwell k s).cfg = s.cfg ∧ (newDwell k s).cru = s.cru ∧ (newDwell k s).lsu = s.lsu ∧
    (newDwell k s).lbp = s.lbp ∧ (newDwell k s).pins = s.pins ∧ (newDwell k s).now = s.now ∧
    (newDwell k s).pending = s.pending ∧ (newDwell k s).psu.count = s.psu.count ∧
    (newDwell k s).psu.countPrev = s.psu.countPrev ∧ (newDwell k s).psu.pRef = s.psu.pRef ∧
    (newDwell k s).psu.countRef = s.psu.countRef ∧ (newDwell k s).psu.ref = s.psu.ref ∧
    (newDwell k s).psu.expected = s.psu.expected ∧ (newDwell k s).psu.sampleTimer = s.psu.sampleTimer ∧
    (newDwell k s).psu.vEval = s.psu.vEval ∧ (newDwell k s).psu.vRope = s.psu.vRope ∧
    (newDwell k s).psu.ropeDir = s.psu.ropeDir ∧ (newDwell k s).psu.travelDir = s.psu.travelDir ∧
    (newDwell k s).psu.stillCount = s.psu.stillCount ∧ (newDwell k s).psu.still = s.psu.still ∧
    (newDwell k s).psu.mismatch = s.psu.mismatch ∧ (newDwell k s).psu.armed = s.psu.armed ∧
    (newDwell k s).clc.c = s.clc.c ∧ (newDwell k s).clc.w1 = s.clc.w1 ∧ (newDwell k s).clc.s = s.clc.s ∧
    (newDwell k s).clc.e = s.clc.e ∧ (newDwell k s).clc.vdrv = s.clc.vdrv ∧ (newDwell k s).brs.stage = s.brs.stage ∧
    (newDwell k s).brs.causes = s.brs.causes ∧ (newDwell k s).brs.sbFb = s.brs.sbFb ∧
    (newDwell k s).brs.ebFb = s.brs.ebFb ∧ (newDwell k s).brs.lastRefresh = s.brs.lastRefresh ∧
    (newDwell k s).brs.overspeedCount = s.brs.overspeedCount ∧ (newDwell k s).brs.warnArmed = s.brs.warnArmed ∧
    (newDwell k s).brs.effectiveness = s.brs.effectiveness ∧ (newDwell k s).trc.slot0 = s.trc.slot0 ∧
    (newDwell k s).trc.slot1 = s.trc.slot1 ∧ (newDwell k s).trc.drvMode = s.trc.drvMode ∧
    (newDwell k s).trc.conMode = s.trc.conMode ∧ (newDwell k s).trc.effMode = s.trc.effMode ∧
    (newDwell k s).trc.trip.number = s.trc.trip.number ∧ (newDwell k s).trc.trip.origin = s.trc.trip.origin ∧
    (newDwell k s).trc.trip.destination = s.trc.trip.destination ∧
    (newDwell k s).trc.trip.direction = s.trc.trip.direction ∧ (newDwell k s).trc.trip.owner = s.trc.trip.owner ∧
    (newDwell k s).trc.trip.lastDir = s.trc.trip.lastDir ∧ (newDwell k s).trc.frozen = s.trc.frozen ∧
    (newDwell k s).trc.debounced = s.trc.debounced ∧ (newDwell k s).dri.evac = s.dri.evac ∧
    (newDwell k s).dri.maint = s.dri.maint ∧ (newDwell k s).niu.incidents = s.niu.incidents ∧
    (newDwell k s).niu.overflow = s.niu.overflow ∧ (newDwell k s).niu.seq = s.niu.seq ∧
    (newDwell k s).niu.resetCauses = s.niu.resetCauses := by
  and_intros <;>
    (unfold newDwell; (try dsimp only); (repeat' split) <;> (try simp) <;> (try with_reducible rfl))

@[simp] theorem resumedDwell_frame (k : Stop) (s : State) :
    (resumedDwell k s).cfg = s.cfg ∧ (resumedDwell k s).cru = s.cru ∧ (resumedDwell k s).lsu = s.lsu ∧
    (resumedDwell k s).lbp = s.lbp ∧ (resumedDwell k s).pins = s.pins ∧ (resumedDwell k s).now = s.now ∧
    (resumedDwell k s).pending = s.pending ∧ (resumedDwell k s).psu.count = s.psu.count ∧
    (resumedDwell k s).psu.countPrev = s.psu.countPrev ∧ (resumedDwell k s).psu.pRef = s.psu.pRef ∧
    (resumedDwell k s).psu.countRef = s.psu.countRef ∧ (resumedDwell k s).psu.ref = s.psu.ref ∧
    (resumedDwell k s).psu.expected = s.psu.expected ∧ (resumedDwell k s).psu.sampleTimer = s.psu.sampleTimer ∧
    (resumedDwell k s).psu.vEval = s.psu.vEval ∧ (resumedDwell k s).psu.vRope = s.psu.vRope ∧
    (resumedDwell k s).psu.ropeDir = s.psu.ropeDir ∧ (resumedDwell k s).psu.travelDir = s.psu.travelDir ∧
    (resumedDwell k s).psu.stillCount = s.psu.stillCount ∧ (resumedDwell k s).psu.still = s.psu.still ∧
    (resumedDwell k s).psu.mismatch = s.psu.mismatch ∧ (resumedDwell k s).psu.armed = s.psu.armed ∧
    (resumedDwell k s).clc.c = s.clc.c ∧ (resumedDwell k s).clc.w1 = s.clc.w1 ∧ (resumedDwell k s).clc.s = s.clc.s ∧
    (resumedDwell k s).clc.e = s.clc.e ∧ (resumedDwell k s).clc.vdrv = s.clc.vdrv ∧
    (resumedDwell k s).brs.stage = s.brs.stage ∧ (resumedDwell k s).brs.causes = s.brs.causes ∧
    (resumedDwell k s).brs.sbFb = s.brs.sbFb ∧ (resumedDwell k s).brs.ebFb = s.brs.ebFb ∧
    (resumedDwell k s).brs.lastRefresh = s.brs.lastRefresh ∧
    (resumedDwell k s).brs.overspeedCount = s.brs.overspeedCount ∧
    (resumedDwell k s).brs.warnArmed = s.brs.warnArmed ∧ (resumedDwell k s).brs.effectiveness = s.brs.effectiveness ∧
    (resumedDwell k s).trc.slot0 = s.trc.slot0 ∧ (resumedDwell k s).trc.slot1 = s.trc.slot1 ∧
    (resumedDwell k s).trc.drvMode = s.trc.drvMode ∧ (resumedDwell k s).trc.conMode = s.trc.conMode ∧
    (resumedDwell k s).trc.effMode = s.trc.effMode ∧ (resumedDwell k s).trc.trip.number = s.trc.trip.number ∧
    (resumedDwell k s).trc.trip.origin = s.trc.trip.origin ∧
    (resumedDwell k s).trc.trip.destination = s.trc.trip.destination ∧
    (resumedDwell k s).trc.trip.direction = s.trc.trip.direction ∧
    (resumedDwell k s).trc.trip.owner = s.trc.trip.owner ∧ (resumedDwell k s).trc.trip.lastDir = s.trc.trip.lastDir ∧
    (resumedDwell k s).trc.frozen = s.trc.frozen ∧ (resumedDwell k s).trc.debounced = s.trc.debounced ∧
    (resumedDwell k s).trc.elapsed = s.trc.elapsed ∧ (resumedDwell k s).dri.evac = s.dri.evac ∧
    (resumedDwell k s).dri.maint = s.dri.maint ∧ (resumedDwell k s).niu.incidents = s.niu.incidents ∧
    (resumedDwell k s).niu.overflow = s.niu.overflow ∧ (resumedDwell k s).niu.seq = s.niu.seq ∧
    (resumedDwell k s).niu.resetCauses = s.niu.resetCauses := by
  and_intros <;>
    (unfold resumedDwell; (try dsimp only); (repeat' split) <;> (try simp) <;> (try with_reducible rfl))

@[simp] theorem placeIncident_frame (cause : IncidentCause) (kept : List Incident) (s : State) :
    (placeIncident cause kept s).cfg = s.cfg ∧ (placeIncident cause kept s).cru = s.cru ∧
    (placeIncident cause kept s).psu = s.psu ∧ (placeIncident cause kept s).clc = s.clc ∧
    (placeIncident cause kept s).brs = s.brs ∧ (placeIncident cause kept s).trc = s.trc ∧
    (placeIncident cause kept s).dri = s.dri ∧ (placeIncident cause kept s).adm = s.adm ∧
    (placeIncident cause kept s).lsu = s.lsu ∧ (placeIncident cause kept s).lbp = s.lbp ∧
    (placeIncident cause kept s).pins = s.pins ∧ (placeIncident cause kept s).now = s.now ∧
    (placeIncident cause kept s).pending = s.pending ∧ (placeIncident cause kept s).niu.overflow = s.niu.overflow ∧
    (placeIncident cause kept s).niu.resetCauses = s.niu.resetCauses := by
  and_intros <;>
    (unfold placeIncident; (try dsimp only); (repeat' split) <;> (try simp) <;> (try with_reducible rfl))

@[simp] theorem capture_frame (cause : IncidentCause) (s : State) :
    (capture cause s).cfg = s.cfg ∧ (capture cause s).cru = s.cru ∧ (capture cause s).psu = s.psu ∧
    (capture cause s).clc = s.clc ∧ (capture cause s).brs = s.brs ∧ (capture cause s).trc = s.trc ∧
    (capture cause s).dri = s.dri ∧ (capture cause s).adm = s.adm ∧ (capture cause s).lsu = s.lsu ∧
    (capture cause s).lbp = s.lbp ∧ (capture cause s).pins = s.pins ∧ (capture cause s).now = s.now ∧
    (capture cause s).pending = s.pending ∧ (capture cause s).niu.resetCauses = s.niu.resetCauses := by
  and_intros <;>
    (unfold capture; (try dsimp only); (repeat' split) <;> (try simp) <;> (try with_reducible rfl))

@[simp] theorem setSlot_frame (id : SlotId) (v : Slot) (s : State) :
    (setSlot id v s).cfg = s.cfg ∧ (setSlot id v s).cru = s.cru ∧ (setSlot id v s).psu = s.psu ∧
    (setSlot id v s).clc = s.clc ∧ (setSlot id v s).brs = s.brs ∧ (setSlot id v s).dri = s.dri ∧
    (setSlot id v s).adm = s.adm ∧ (setSlot id v s).lsu = s.lsu ∧ (setSlot id v s).lbp = s.lbp ∧
    (setSlot id v s).niu = s.niu ∧ (setSlot id v s).pins = s.pins ∧ (setSlot id v s).now = s.now ∧
    (setSlot id v s).pending = s.pending ∧ (setSlot id v s).trc.state = s.trc.state ∧
    (setSlot id v s).trc.drvMode = s.trc.drvMode ∧ (setSlot id v s).trc.conMode = s.trc.conMode ∧
    (setSlot id v s).trc.effMode = s.trc.effMode ∧ (setSlot id v s).trc.trip = s.trc.trip ∧
    (setSlot id v s).trc.frozen = s.trc.frozen ∧ (setSlot id v s).trc.debounced = s.trc.debounced ∧
    (setSlot id v s).trc.minDwell = s.trc.minDwell ∧ (setSlot id v s).trc.elapsed = s.trc.elapsed ∧
    (setSlot id v s).trc.settleTimer = s.trc.settleTimer := by
  and_intros <;>
    (unfold setSlot; (try dsimp only); (repeat' split) <;> (try simp) <;> (try with_reducible rfl))

@[simp] theorem freeSlots_frame (cancelled : Bool) (s : State) :
    (freeSlots cancelled s).cfg = s.cfg ∧ (freeSlots cancelled s).cru = s.cru ∧ (freeSlots cancelled s).psu = s.psu ∧
    (freeSlots cancelled s).clc = s.clc ∧ (freeSlots cancelled s).brs = s.brs ∧ (freeSlots cancelled s).dri = s.dri ∧
    (freeSlots cancelled s).adm = s.adm ∧ (freeSlots cancelled s).lsu = s.lsu ∧ (freeSlots cancelled s).lbp = s.lbp ∧
    (freeSlots cancelled s).niu = s.niu ∧ (freeSlots cancelled s).pins = s.pins ∧
    (freeSlots cancelled s).now = s.now ∧ (freeSlots cancelled s).pending = s.pending ∧
    (freeSlots cancelled s).trc.state = s.trc.state ∧ (freeSlots cancelled s).trc.drvMode = s.trc.drvMode ∧
    (freeSlots cancelled s).trc.conMode = s.trc.conMode ∧ (freeSlots cancelled s).trc.effMode = s.trc.effMode ∧
    (freeSlots cancelled s).trc.trip = s.trc.trip ∧ (freeSlots cancelled s).trc.frozen = s.trc.frozen ∧
    (freeSlots cancelled s).trc.debounced = s.trc.debounced ∧ (freeSlots cancelled s).trc.minDwell = s.trc.minDwell ∧
    (freeSlots cancelled s).trc.elapsed = s.trc.elapsed ∧ (freeSlots cancelled s).trc.settleTimer = s.trc.settleTimer := by
  and_intros <;>
    (unfold freeSlots; (try dsimp only); (repeat' split) <;> (try simp) <;> (try with_reducible rfl))

@[simp] theorem handOwner_frame (k : NoticeKind) (d : NoticeDetail) (s : State) :
    (handOwner k d s).cfg = s.cfg ∧ (handOwner k d s).cru = s.cru ∧ (handOwner k d s).psu = s.psu ∧
    (handOwner k d s).clc = s.clc ∧ (handOwner k d s).brs = s.brs ∧ (handOwner k d s).trc = s.trc ∧
    (handOwner k d s).dri = s.dri ∧ (handOwner k d s).adm = s.adm ∧ (handOwner k d s).lsu = s.lsu ∧
    (handOwner k d s).lbp = s.lbp ∧ (handOwner k d s).pins = s.pins ∧ (handOwner k d s).now = s.now ∧
    (handOwner k d s).pending = s.pending ∧ (handOwner k d s).niu.incidents = s.niu.incidents ∧
    (handOwner k d s).niu.overflow = s.niu.overflow ∧ (handOwner k d s).niu.seq = s.niu.seq ∧
    (handOwner k d s).niu.resetCauses = s.niu.resetCauses := by
  and_intros <;>
    (unfold handOwner; (try dsimp only); (repeat' split) <;> (try simp) <;> (try with_reducible rfl))

@[simp] theorem zeroMismatch_frame (s : State) :
    (zeroMismatch s).cfg = s.cfg ∧ (zeroMismatch s).cru = s.cru ∧ (zeroMismatch s).clc = s.clc ∧
    (zeroMismatch s).brs = s.brs ∧ (zeroMismatch s).trc = s.trc ∧ (zeroMismatch s).dri = s.dri ∧
    (zeroMismatch s).adm = s.adm ∧ (zeroMismatch s).lsu = s.lsu ∧ (zeroMismatch s).lbp = s.lbp ∧
    (zeroMismatch s).niu = s.niu ∧ (zeroMismatch s).pins = s.pins ∧ (zeroMismatch s).now = s.now ∧
    (zeroMismatch s).pending = s.pending ∧ (zeroMismatch s).psu.count = s.psu.count ∧
    (zeroMismatch s).psu.countPrev = s.psu.countPrev ∧ (zeroMismatch s).psu.pRef = s.psu.pRef ∧
    (zeroMismatch s).psu.countRef = s.psu.countRef ∧ (zeroMismatch s).psu.ref = s.psu.ref ∧
    (zeroMismatch s).psu.expected = s.psu.expected ∧ (zeroMismatch s).psu.sampleTimer = s.psu.sampleTimer ∧
    (zeroMismatch s).psu.vEval = s.psu.vEval ∧ (zeroMismatch s).psu.vRope = s.psu.vRope ∧
    (zeroMismatch s).psu.ropeDir = s.psu.ropeDir ∧ (zeroMismatch s).psu.travelDir = s.psu.travelDir ∧
    (zeroMismatch s).psu.stillCount = s.psu.stillCount ∧ (zeroMismatch s).psu.still = s.psu.still ∧
    (zeroMismatch s).psu.heldCount = s.psu.heldCount ∧ (zeroMismatch s).psu.furthest = s.psu.furthest ∧
    (zeroMismatch s).psu.armed = s.psu.armed := by
  and_intros <;>
    (unfold zeroMismatch; (try dsimp only); (repeat' split) <;> (try simp) <;> (try with_reducible rfl))

@[simp] theorem abortTrip_frame (cause : AbortCause) (s : State) :
    (abortTrip cause s).cfg = s.cfg ∧ (abortTrip cause s).cru = s.cru ∧ (abortTrip cause s).lsu = s.lsu ∧
    (abortTrip cause s).lbp = s.lbp ∧ (abortTrip cause s).pins = s.pins ∧ (abortTrip cause s).now = s.now ∧
    (abortTrip cause s).pending = s.pending ∧ (abortTrip cause s).psu.count = s.psu.count ∧
    (abortTrip cause s).psu.countPrev = s.psu.countPrev ∧ (abortTrip cause s).psu.pRef = s.psu.pRef ∧
    (abortTrip cause s).psu.countRef = s.psu.countRef ∧ (abortTrip cause s).psu.ref = s.psu.ref ∧
    (abortTrip cause s).psu.expected = s.psu.expected ∧ (abortTrip cause s).psu.sampleTimer = s.psu.sampleTimer ∧
    (abortTrip cause s).psu.vEval = s.psu.vEval ∧ (abortTrip cause s).psu.vRope = s.psu.vRope ∧
    (abortTrip cause s).psu.ropeDir = s.psu.ropeDir ∧ (abortTrip cause s).psu.travelDir = s.psu.travelDir ∧
    (abortTrip cause s).psu.stillCount = s.psu.stillCount ∧ (abortTrip cause s).psu.still = s.psu.still ∧
    (abortTrip cause s).psu.armed = s.psu.armed ∧ (abortTrip cause s).clc.c = s.clc.c ∧
    (abortTrip cause s).clc.w1 = s.clc.w1 ∧ (abortTrip cause s).clc.s = s.clc.s ∧
    (abortTrip cause s).clc.e = s.clc.e ∧ (abortTrip cause s).clc.vdrv = s.clc.vdrv ∧
    (abortTrip cause s).brs.stage = s.brs.stage ∧ (abortTrip cause s).brs.causes = s.brs.causes ∧
    (abortTrip cause s).brs.sbFb = s.brs.sbFb ∧ (abortTrip cause s).brs.ebFb = s.brs.ebFb ∧
    (abortTrip cause s).brs.lastRefresh = s.brs.lastRefresh ∧
    (abortTrip cause s).brs.overspeedCount = s.brs.overspeedCount ∧
    (abortTrip cause s).brs.warnArmed = s.brs.warnArmed ∧
    (abortTrip cause s).brs.effectiveness = s.brs.effectiveness ∧ (abortTrip cause s).trc.drvMode = s.trc.drvMode ∧
    (abortTrip cause s).trc.conMode = s.trc.conMode ∧ (abortTrip cause s).trc.effMode = s.trc.effMode ∧
    (abortTrip cause s).trc.trip.number = s.trc.trip.number ∧
    (abortTrip cause s).trc.trip.origin = s.trc.trip.origin ∧
    (abortTrip cause s).trc.trip.destination = s.trc.trip.destination ∧
    (abortTrip cause s).trc.trip.direction = s.trc.trip.direction ∧
    (abortTrip cause s).trc.trip.owner = s.trc.trip.owner ∧
    (abortTrip cause s).trc.trip.lastDir = s.trc.trip.lastDir ∧ (abortTrip cause s).trc.frozen = s.trc.frozen ∧
    (abortTrip cause s).trc.debounced = s.trc.debounced ∧ (abortTrip cause s).trc.elapsed = s.trc.elapsed ∧
    (abortTrip cause s).dri.evac = s.dri.evac ∧ (abortTrip cause s).dri.maint = s.dri.maint ∧
    (abortTrip cause s).niu.incidents = s.niu.incidents ∧ (abortTrip cause s).niu.overflow = s.niu.overflow ∧
    (abortTrip cause s).niu.seq = s.niu.seq ∧ (abortTrip cause s).niu.resetCauses = s.niu.resetCauses := by
  and_intros <;>
    (unfold abortTrip; (try dsimp only); (repeat' split) <;> (try simp) <;> (try with_reducible rfl))

@[simp] theorem refuseTrigger_frame (id : SlotId) (why : TriggerRefusal) (s : State) :
    (refuseTrigger id why s).cfg = s.cfg ∧ (refuseTrigger id why s).cru = s.cru ∧
    (refuseTrigger id why s).psu = s.psu ∧ (refuseTrigger id why s).clc = s.clc ∧
    (refuseTrigger id why s).brs = s.brs ∧ (refuseTrigger id why s).trc = s.trc ∧
    (refuseTrigger id why s).dri = s.dri ∧ (refuseTrigger id why s).adm = s.adm ∧
    (refuseTrigger id why s).lsu = s.lsu ∧ (refuseTrigger id why s).lbp = s.lbp ∧
    (refuseTrigger id why s).pins = s.pins ∧ (refuseTrigger id why s).now = s.now ∧
    (refuseTrigger id why s).pending = s.pending ∧ (refuseTrigger id why s).niu.incidents = s.niu.incidents ∧
    (refuseTrigger id why s).niu.overflow = s.niu.overflow ∧ (refuseTrigger id why s).niu.seq = s.niu.seq ∧
    (refuseTrigger id why s).niu.resetCauses = s.niu.resetCauses := by
  and_intros <;>
    (unfold refuseTrigger; (try dsimp only); (repeat' split) <;> (try simp) <;> (try with_reducible rfl))

@[simp] theorem dropPending_frame (id : SlotId) (r : TripReq) (why : TriggerRefusal) (s : State) :
    (dropPending id r why s).cfg = s.cfg ∧ (dropPending id r why s).cru = s.cru ∧
    (dropPending id r why s).psu = s.psu ∧ (dropPending id r why s).clc = s.clc ∧
    (dropPending id r why s).brs = s.brs ∧ (dropPending id r why s).dri = s.dri ∧
    (dropPending id r why s).adm = s.adm ∧ (dropPending id r why s).lsu = s.lsu ∧
    (dropPending id r why s).lbp = s.lbp ∧ (dropPending id r why s).pins = s.pins ∧
    (dropPending id r why s).now = s.now ∧ (dropPending id r why s).pending = s.pending ∧
    (dropPending id r why s).trc.state = s.trc.state ∧ (dropPending id r why s).trc.drvMode = s.trc.drvMode ∧
    (dropPending id r why s).trc.conMode = s.trc.conMode ∧ (dropPending id r why s).trc.effMode = s.trc.effMode ∧
    (dropPending id r why s).trc.trip = s.trc.trip ∧ (dropPending id r why s).trc.frozen = s.trc.frozen ∧
    (dropPending id r why s).trc.debounced = s.trc.debounced ∧
    (dropPending id r why s).trc.minDwell = s.trc.minDwell ∧ (dropPending id r why s).trc.elapsed = s.trc.elapsed ∧
    (dropPending id r why s).trc.settleTimer = s.trc.settleTimer ∧
    (dropPending id r why s).niu.incidents = s.niu.incidents ∧
    (dropPending id r why s).niu.overflow = s.niu.overflow ∧ (dropPending id r why s).niu.seq = s.niu.seq ∧
    (dropPending id r why s).niu.resetCauses = s.niu.resetCauses := by
  and_intros <;>
    (unfold dropPending; (try dsimp only); (repeat' split) <;> (try simp) <;> (try with_reducible rfl))

@[simp] theorem stopPending_frame (id : SlotId) (s : State) :
    (stopPending id s).cfg = s.cfg ∧ (stopPending id s).cru = s.cru ∧ (stopPending id s).psu = s.psu ∧
    (stopPending id s).clc = s.clc ∧ (stopPending id s).brs = s.brs ∧ (stopPending id s).dri = s.dri ∧
    (stopPending id s).adm = s.adm ∧ (stopPending id s).lsu = s.lsu ∧ (stopPending id s).lbp = s.lbp ∧
    (stopPending id s).pins = s.pins ∧ (stopPending id s).now = s.now ∧ (stopPending id s).pending = s.pending ∧
    (stopPending id s).trc.state = s.trc.state ∧ (stopPending id s).trc.drvMode = s.trc.drvMode ∧
    (stopPending id s).trc.conMode = s.trc.conMode ∧ (stopPending id s).trc.effMode = s.trc.effMode ∧
    (stopPending id s).trc.trip = s.trc.trip ∧ (stopPending id s).trc.frozen = s.trc.frozen ∧
    (stopPending id s).trc.debounced = s.trc.debounced ∧ (stopPending id s).trc.minDwell = s.trc.minDwell ∧
    (stopPending id s).trc.elapsed = s.trc.elapsed ∧ (stopPending id s).trc.settleTimer = s.trc.settleTimer ∧
    (stopPending id s).niu.incidents = s.niu.incidents ∧ (stopPending id s).niu.overflow = s.niu.overflow ∧
    (stopPending id s).niu.seq = s.niu.seq ∧ (stopPending id s).niu.resetCauses = s.niu.resetCauses := by
  and_intros <;>
    (unfold stopPending; (try dsimp only); (repeat' split) <;> (try simp) <;> (try with_reducible rfl))

@[simp] theorem stopPendings_frame (s : State) :
    (stopPendings s).cfg = s.cfg ∧ (stopPendings s).cru = s.cru ∧ (stopPendings s).psu = s.psu ∧
    (stopPendings s).clc = s.clc ∧ (stopPendings s).brs = s.brs ∧ (stopPendings s).dri = s.dri ∧
    (stopPendings s).adm = s.adm ∧ (stopPendings s).lsu = s.lsu ∧ (stopPendings s).lbp = s.lbp ∧
    (stopPendings s).pins = s.pins ∧ (stopPendings s).now = s.now ∧ (stopPendings s).pending = s.pending ∧
    (stopPendings s).trc.state = s.trc.state ∧ (stopPendings s).trc.drvMode = s.trc.drvMode ∧
    (stopPendings s).trc.conMode = s.trc.conMode ∧ (stopPendings s).trc.effMode = s.trc.effMode ∧
    (stopPendings s).trc.trip = s.trc.trip ∧ (stopPendings s).trc.frozen = s.trc.frozen ∧
    (stopPendings s).trc.debounced = s.trc.debounced ∧ (stopPendings s).trc.minDwell = s.trc.minDwell ∧
    (stopPendings s).trc.elapsed = s.trc.elapsed ∧ (stopPendings s).trc.settleTimer = s.trc.settleTimer ∧
    (stopPendings s).niu.incidents = s.niu.incidents ∧ (stopPendings s).niu.overflow = s.niu.overflow ∧
    (stopPendings s).niu.seq = s.niu.seq ∧ (stopPendings s).niu.resetCauses = s.niu.resetCauses := by
  and_intros <;>
    (unfold stopPendings; (try dsimp only); (repeat' split) <;> (try simp) <;> (try with_reducible rfl))

@[simp] theorem refusePending_frame (id : SlotId) (s : State) :
    (refusePending id s).cfg = s.cfg ∧ (refusePending id s).cru = s.cru ∧ (refusePending id s).psu = s.psu ∧
    (refusePending id s).clc = s.clc ∧ (refusePending id s).brs = s.brs ∧ (refusePending id s).dri = s.dri ∧
    (refusePending id s).adm = s.adm ∧ (refusePending id s).lsu = s.lsu ∧ (refusePending id s).lbp = s.lbp ∧
    (refusePending id s).pins = s.pins ∧ (refusePending id s).now = s.now ∧ (refusePending id s).pending = s.pending ∧
    (refusePending id s).trc.state = s.trc.state ∧ (refusePending id s).trc.drvMode = s.trc.drvMode ∧
    (refusePending id s).trc.conMode = s.trc.conMode ∧ (refusePending id s).trc.effMode = s.trc.effMode ∧
    (refusePending id s).trc.trip = s.trc.trip ∧ (refusePending id s).trc.frozen = s.trc.frozen ∧
    (refusePending id s).trc.debounced = s.trc.debounced ∧ (refusePending id s).trc.minDwell = s.trc.minDwell ∧
    (refusePending id s).trc.elapsed = s.trc.elapsed ∧ (refusePending id s).trc.settleTimer = s.trc.settleTimer ∧
    (refusePending id s).niu.incidents = s.niu.incidents ∧ (refusePending id s).niu.overflow = s.niu.overflow ∧
    (refusePending id s).niu.seq = s.niu.seq ∧ (refusePending id s).niu.resetCauses = s.niu.resetCauses := by
  and_intros <;>
    (unfold refusePending; (try dsimp only); (repeat' split) <;> (try simp) <;> (try with_reducible rfl))

@[simp] theorem pendingsUnderStage_frame (s : State) :
    (pendingsUnderStage s).cfg = s.cfg ∧ (pendingsUnderStage s).cru = s.cru ∧ (pendingsUnderStage s).psu = s.psu ∧
    (pendingsUnderStage s).clc = s.clc ∧ (pendingsUnderStage s).brs = s.brs ∧ (pendingsUnderStage s).dri = s.dri ∧
    (pendingsUnderStage s).adm = s.adm ∧ (pendingsUnderStage s).lsu = s.lsu ∧ (pendingsUnderStage s).lbp = s.lbp ∧
    (pendingsUnderStage s).pins = s.pins ∧ (pendingsUnderStage s).now = s.now ∧
    (pendingsUnderStage s).pending = s.pending ∧ (pendingsUnderStage s).trc.state = s.trc.state ∧
    (pendingsUnderStage s).trc.drvMode = s.trc.drvMode ∧ (pendingsUnderStage s).trc.conMode = s.trc.conMode ∧
    (pendingsUnderStage s).trc.effMode = s.trc.effMode ∧ (pendingsUnderStage s).trc.trip = s.trc.trip ∧
    (pendingsUnderStage s).trc.frozen = s.trc.frozen ∧ (pendingsUnderStage s).trc.debounced = s.trc.debounced ∧
    (pendingsUnderStage s).trc.minDwell = s.trc.minDwell ∧ (pendingsUnderStage s).trc.elapsed = s.trc.elapsed ∧
    (pendingsUnderStage s).trc.settleTimer = s.trc.settleTimer ∧
    (pendingsUnderStage s).niu.incidents = s.niu.incidents ∧ (pendingsUnderStage s).niu.overflow = s.niu.overflow ∧
    (pendingsUnderStage s).niu.seq = s.niu.seq ∧ (pendingsUnderStage s).niu.resetCauses = s.niu.resetCauses := by
  and_intros <;>
    (unfold pendingsUnderStage; (try dsimp only); (repeat' split) <;> (try simp) <;> (try with_reducible rfl))

@[simp] theorem withdrawReleases_frame (s : State) :
    (withdrawReleases s).cfg = s.cfg ∧ (withdrawReleases s).cru = s.cru ∧ (withdrawReleases s).psu = s.psu ∧
    (withdrawReleases s).clc = s.clc ∧ (withdrawReleases s).brs = s.brs ∧ (withdrawReleases s).trc = s.trc ∧
    (withdrawReleases s).adm = s.adm ∧ (withdrawReleases s).lsu = s.lsu ∧ (withdrawReleases s).lbp = s.lbp ∧
    (withdrawReleases s).niu = s.niu ∧ (withdrawReleases s).pins = s.pins ∧ (withdrawReleases s).now = s.now ∧
    (withdrawReleases s).pending = s.pending ∧ (withdrawReleases s).dri.phase = s.dri.phase ∧
    (withdrawReleases s).dri.leadTimer = s.dri.leadTimer ∧ (withdrawReleases s).dri.doorTimer = s.dri.doorTimer := by
  and_intros <;>
    (unfold withdrawReleases; (try dsimp only); (repeat' split) <;> (try simp) <;> (try with_reducible rfl))

@[simp] theorem tripOnRise_frame (s : State) :
    (tripOnRise s).cfg = s.cfg ∧ (tripOnRise s).cru = s.cru ∧ (tripOnRise s).lsu = s.lsu ∧
    (tripOnRise s).lbp = s.lbp ∧ (tripOnRise s).pins = s.pins ∧ (tripOnRise s).now = s.now ∧
    (tripOnRise s).pending = s.pending ∧ (tripOnRise s).psu.count = s.psu.count ∧
    (tripOnRise s).psu.countPrev = s.psu.countPrev ∧ (tripOnRise s).psu.pRef = s.psu.pRef ∧
    (tripOnRise s).psu.countRef = s.psu.countRef ∧ (tripOnRise s).psu.ref = s.psu.ref ∧
    (tripOnRise s).psu.expected = s.psu.expected ∧ (tripOnRise s).psu.sampleTimer = s.psu.sampleTimer ∧
    (tripOnRise s).psu.vEval = s.psu.vEval ∧ (tripOnRise s).psu.vRope = s.psu.vRope ∧
    (tripOnRise s).psu.ropeDir = s.psu.ropeDir ∧ (tripOnRise s).psu.travelDir = s.psu.travelDir ∧
    (tripOnRise s).psu.stillCount = s.psu.stillCount ∧ (tripOnRise s).psu.still = s.psu.still ∧
    (tripOnRise s).psu.armed = s.psu.armed ∧ (tripOnRise s).clc.c = s.clc.c ∧ (tripOnRise s).clc.w1 = s.clc.w1 ∧
    (tripOnRise s).clc.s = s.clc.s ∧ (tripOnRise s).clc.e = s.clc.e ∧ (tripOnRise s).clc.vdrv = s.clc.vdrv ∧
    (tripOnRise s).brs.stage = s.brs.stage ∧ (tripOnRise s).brs.causes = s.brs.causes ∧
    (tripOnRise s).brs.sbFb = s.brs.sbFb ∧ (tripOnRise s).brs.ebFb = s.brs.ebFb ∧
    (tripOnRise s).brs.lastRefresh = s.brs.lastRefresh ∧ (tripOnRise s).brs.overspeedCount = s.brs.overspeedCount ∧
    (tripOnRise s).brs.warnArmed = s.brs.warnArmed ∧ (tripOnRise s).brs.effectiveness = s.brs.effectiveness ∧
    (tripOnRise s).trc.drvMode = s.trc.drvMode ∧ (tripOnRise s).trc.conMode = s.trc.conMode ∧
    (tripOnRise s).trc.effMode = s.trc.effMode ∧ (tripOnRise s).trc.trip.number = s.trc.trip.number ∧
    (tripOnRise s).trc.trip.origin = s.trc.trip.origin ∧
    (tripOnRise s).trc.trip.destination = s.trc.trip.destination ∧
    (tripOnRise s).trc.trip.direction = s.trc.trip.direction ∧ (tripOnRise s).trc.trip.owner = s.trc.trip.owner ∧
    (tripOnRise s).trc.trip.lastDir = s.trc.trip.lastDir ∧ (tripOnRise s).trc.frozen = s.trc.frozen ∧
    (tripOnRise s).trc.debounced = s.trc.debounced ∧ (tripOnRise s).trc.elapsed = s.trc.elapsed ∧
    (tripOnRise s).dri.evac = s.dri.evac ∧ (tripOnRise s).dri.maint = s.dri.maint ∧
    (tripOnRise s).niu.incidents = s.niu.incidents ∧ (tripOnRise s).niu.overflow = s.niu.overflow ∧
    (tripOnRise s).niu.seq = s.niu.seq ∧ (tripOnRise s).niu.resetCauses = s.niu.resetCauses := by
  and_intros <;>
    (unfold tripOnRise; (try dsimp only); (repeat' split) <;> (try simp) <;> (try with_reducible rfl))

@[simp] theorem stageRise_frame (old : Stage) (s : State) :
    (stageRise old s).cfg = s.cfg ∧ (stageRise old s).cru = s.cru ∧ (stageRise old s).lsu = s.lsu ∧
    (stageRise old s).lbp = s.lbp ∧ (stageRise old s).pins = s.pins ∧ (stageRise old s).now = s.now ∧
    (stageRise old s).pending = s.pending ∧ (stageRise old s).psu.count = s.psu.count ∧
    (stageRise old s).psu.countPrev = s.psu.countPrev ∧ (stageRise old s).psu.pRef = s.psu.pRef ∧
    (stageRise old s).psu.countRef = s.psu.countRef ∧ (stageRise old s).psu.ref = s.psu.ref ∧
    (stageRise old s).psu.expected = s.psu.expected ∧ (stageRise old s).psu.sampleTimer = s.psu.sampleTimer ∧
    (stageRise old s).psu.vEval = s.psu.vEval ∧ (stageRise old s).psu.vRope = s.psu.vRope ∧
    (stageRise old s).psu.ropeDir = s.psu.ropeDir ∧ (stageRise old s).psu.travelDir = s.psu.travelDir ∧
    (stageRise old s).psu.stillCount = s.psu.stillCount ∧ (stageRise old s).psu.still = s.psu.still ∧
    (stageRise old s).psu.armed = s.psu.armed ∧ (stageRise old s).clc.c = s.clc.c ∧
    (stageRise old s).clc.w1 = s.clc.w1 ∧ (stageRise old s).clc.s = s.clc.s ∧ (stageRise old s).clc.e = s.clc.e ∧
    (stageRise old s).clc.vdrv = s.clc.vdrv ∧ (stageRise old s).brs.stage = s.brs.stage ∧
    (stageRise old s).brs.causes = s.brs.causes ∧ (stageRise old s).brs.sbFb = s.brs.sbFb ∧
    (stageRise old s).brs.ebFb = s.brs.ebFb ∧ (stageRise old s).brs.lastRefresh = s.brs.lastRefresh ∧
    (stageRise old s).brs.overspeedCount = s.brs.overspeedCount ∧ (stageRise old s).brs.warnArmed = s.brs.warnArmed ∧
    (stageRise old s).trc.drvMode = s.trc.drvMode ∧ (stageRise old s).trc.conMode = s.trc.conMode ∧
    (stageRise old s).trc.effMode = s.trc.effMode ∧ (stageRise old s).trc.trip.number = s.trc.trip.number ∧
    (stageRise old s).trc.trip.origin = s.trc.trip.origin ∧
    (stageRise old s).trc.trip.destination = s.trc.trip.destination ∧
    (stageRise old s).trc.trip.direction = s.trc.trip.direction ∧
    (stageRise old s).trc.trip.owner = s.trc.trip.owner ∧ (stageRise old s).trc.trip.lastDir = s.trc.trip.lastDir ∧
    (stageRise old s).trc.frozen = s.trc.frozen ∧ (stageRise old s).trc.debounced = s.trc.debounced ∧
    (stageRise old s).trc.elapsed = s.trc.elapsed ∧ (stageRise old s).niu.incidents = s.niu.incidents ∧
    (stageRise old s).niu.overflow = s.niu.overflow ∧ (stageRise old s).niu.seq = s.niu.seq ∧
    (stageRise old s).niu.resetCauses = s.niu.resetCauses := by
  and_intros <;>
    (unfold stageRise; (try dsimp only); (repeat' split) <;> (try simp) <;> (try with_reducible rfl))

@[simp] theorem noticeOfCause_frame (rises : Bool) (c : Cause) (d : Detail) (s : State) :
    (noticeOfCause rises c d s).cfg = s.cfg ∧ (noticeOfCause rises c d s).cru = s.cru ∧
    (noticeOfCause rises c d s).psu = s.psu ∧ (noticeOfCause rises c d s).clc = s.clc ∧
    (noticeOfCause rises c d s).brs = s.brs ∧ (noticeOfCause rises c d s).trc = s.trc ∧
    (noticeOfCause rises c d s).dri = s.dri ∧ (noticeOfCause rises c d s).adm = s.adm ∧
    (noticeOfCause rises c d s).lsu = s.lsu ∧ (noticeOfCause rises c d s).lbp = s.lbp ∧
    (noticeOfCause rises c d s).pins = s.pins ∧ (noticeOfCause rises c d s).now = s.now ∧
    (noticeOfCause rises c d s).pending = s.pending ∧ (noticeOfCause rises c d s).niu.incidents = s.niu.incidents ∧
    (noticeOfCause rises c d s).niu.overflow = s.niu.overflow ∧ (noticeOfCause rises c d s).niu.seq = s.niu.seq ∧
    (noticeOfCause rises c d s).niu.resetCauses = s.niu.resetCauses := by
  and_intros <;>
    (unfold noticeOfCause; (try dsimp only); (repeat' split) <;> (try simp) <;> (try with_reducible rfl))

@[simp] theorem raiseCause_frame (c : Cause) (d : Detail) (s : State) :
    (raiseCause c d s).cfg = s.cfg ∧ (raiseCause c d s).cru = s.cru ∧ (raiseCause c d s).lsu = s.lsu ∧
    (raiseCause c d s).lbp = s.lbp ∧ (raiseCause c d s).pins = s.pins ∧ (raiseCause c d s).now = s.now ∧
    (raiseCause c d s).pending = s.pending ∧ (raiseCause c d s).psu.count = s.psu.count ∧
    (raiseCause c d s).psu.countPrev = s.psu.countPrev ∧ (raiseCause c d s).psu.pRef = s.psu.pRef ∧
    (raiseCause c d s).psu.countRef = s.psu.countRef ∧ (raiseCause c d s).psu.ref = s.psu.ref ∧
    (raiseCause c d s).psu.expected = s.psu.expected ∧ (raiseCause c d s).psu.sampleTimer = s.psu.sampleTimer ∧
    (raiseCause c d s).psu.vEval = s.psu.vEval ∧ (raiseCause c d s).psu.vRope = s.psu.vRope ∧
    (raiseCause c d s).psu.ropeDir = s.psu.ropeDir ∧ (raiseCause c d s).psu.travelDir = s.psu.travelDir ∧
    (raiseCause c d s).psu.stillCount = s.psu.stillCount ∧ (raiseCause c d s).psu.still = s.psu.still ∧
    (raiseCause c d s).psu.armed = s.psu.armed ∧ (raiseCause c d s).clc.c = s.clc.c ∧
    (raiseCause c d s).clc.w1 = s.clc.w1 ∧ (raiseCause c d s).clc.s = s.clc.s ∧ (raiseCause c d s).clc.e = s.clc.e ∧
    (raiseCause c d s).clc.vdrv = s.clc.vdrv ∧ (raiseCause c d s).trc.drvMode = s.trc.drvMode ∧
    (raiseCause c d s).trc.conMode = s.trc.conMode ∧ (raiseCause c d s).trc.effMode = s.trc.effMode ∧
    (raiseCause c d s).trc.trip.number = s.trc.trip.number ∧ (raiseCause c d s).trc.trip.origin = s.trc.trip.origin ∧
    (raiseCause c d s).trc.trip.destination = s.trc.trip.destination ∧
    (raiseCause c d s).trc.trip.direction = s.trc.trip.direction ∧
    (raiseCause c d s).trc.trip.owner = s.trc.trip.owner ∧ (raiseCause c d s).trc.trip.lastDir = s.trc.trip.lastDir ∧
    (raiseCause c d s).trc.frozen = s.trc.frozen ∧ (raiseCause c d s).trc.debounced = s.trc.debounced ∧
    (raiseCause c d s).trc.elapsed = s.trc.elapsed ∧ (raiseCause c d s).niu.resetCauses = s.niu.resetCauses := by
  and_intros <;>
    (unfold raiseCause; (try dsimp only); (repeat' split) <;> (try simp) <;> (try with_reducible rfl))

@[simp] theorem dragCheck_frame (b : Brake) (fb : Feedback) (s : State) :
    (dragCheck b fb s).cfg = s.cfg ∧ (dragCheck b fb s).cru = s.cru ∧ (dragCheck b fb s).lsu = s.lsu ∧
    (dragCheck b fb s).lbp = s.lbp ∧ (dragCheck b fb s).pins = s.pins ∧ (dragCheck b fb s).now = s.now ∧
    (dragCheck b fb s).pending = s.pending ∧ (dragCheck b fb s).psu.count = s.psu.count ∧
    (dragCheck b fb s).psu.countPrev = s.psu.countPrev ∧ (dragCheck b fb s).psu.pRef = s.psu.pRef ∧
    (dragCheck b fb s).psu.countRef = s.psu.countRef ∧ (dragCheck b fb s).psu.ref = s.psu.ref ∧
    (dragCheck b fb s).psu.expected = s.psu.expected ∧ (dragCheck b fb s).psu.sampleTimer = s.psu.sampleTimer ∧
    (dragCheck b fb s).psu.vEval = s.psu.vEval ∧ (dragCheck b fb s).psu.vRope = s.psu.vRope ∧
    (dragCheck b fb s).psu.ropeDir = s.psu.ropeDir ∧ (dragCheck b fb s).psu.travelDir = s.psu.travelDir ∧
    (dragCheck b fb s).psu.stillCount = s.psu.stillCount ∧ (dragCheck b fb s).psu.still = s.psu.still ∧
    (dragCheck b fb s).psu.armed = s.psu.armed ∧ (dragCheck b fb s).clc.c = s.clc.c ∧
    (dragCheck b fb s).clc.w1 = s.clc.w1 ∧ (dragCheck b fb s).clc.s = s.clc.s ∧ (dragCheck b fb s).clc.e = s.clc.e ∧
    (dragCheck b fb s).clc.vdrv = s.clc.vdrv ∧ (dragCheck b fb s).trc.drvMode = s.trc.drvMode ∧
    (dragCheck b fb s).trc.conMode = s.trc.conMode ∧ (dragCheck b fb s).trc.effMode = s.trc.effMode ∧
    (dragCheck b fb s).trc.trip.number = s.trc.trip.number ∧ (dragCheck b fb s).trc.trip.origin = s.trc.trip.origin ∧
    (dragCheck b fb s).trc.trip.destination = s.trc.trip.destination ∧
    (dragCheck b fb s).trc.trip.direction = s.trc.trip.direction ∧
    (dragCheck b fb s).trc.trip.owner = s.trc.trip.owner ∧ (dragCheck b fb s).trc.trip.lastDir = s.trc.trip.lastDir ∧
    (dragCheck b fb s).trc.frozen = s.trc.frozen ∧ (dragCheck b fb s).trc.debounced = s.trc.debounced ∧
    (dragCheck b fb s).trc.elapsed = s.trc.elapsed ∧ (dragCheck b fb s).niu.resetCauses = s.niu.resetCauses := by
  and_intros <;>
    (unfold dragCheck; (try dsimp only); (repeat' split) <;> (try simp) <;> (try with_reducible rfl))

@[simp] theorem enterRunning_frame (s : State) :
    (enterRunning s).cfg = s.cfg ∧ (enterRunning s).cru = s.cru ∧ (enterRunning s).lsu = s.lsu ∧
    (enterRunning s).lbp = s.lbp ∧ (enterRunning s).pins = s.pins ∧ (enterRunning s).now = s.now ∧
    (enterRunning s).pending = s.pending ∧ (enterRunning s).psu.count = s.psu.count ∧
    (enterRunning s).psu.countPrev = s.psu.countPrev ∧ (enterRunning s).psu.pRef = s.psu.pRef ∧
    (enterRunning s).psu.countRef = s.psu.countRef ∧ (enterRunning s).psu.ref = s.psu.ref ∧
    (enterRunning s).psu.expected = s.psu.expected ∧ (enterRunning s).psu.sampleTimer = s.psu.sampleTimer ∧
    (enterRunning s).psu.vEval = s.psu.vEval ∧ (enterRunning s).psu.vRope = s.psu.vRope ∧
    (enterRunning s).psu.ropeDir = s.psu.ropeDir ∧ (enterRunning s).psu.travelDir = s.psu.travelDir ∧
    (enterRunning s).psu.stillCount = s.psu.stillCount ∧ (enterRunning s).psu.still = s.psu.still ∧
    (enterRunning s).psu.armed = s.psu.armed ∧ (enterRunning s).clc.c = s.clc.c ∧ (enterRunning s).clc.w1 = s.clc.w1 ∧
    (enterRunning s).clc.s = s.clc.s ∧ (enterRunning s).clc.e = s.clc.e ∧ (enterRunning s).clc.vdrv = s.clc.vdrv ∧
    (enterRunning s).trc.drvMode = s.trc.drvMode ∧ (enterRunning s).trc.conMode = s.trc.conMode ∧
    (enterRunning s).trc.effMode = s.trc.effMode ∧ (enterRunning s).trc.trip.number = s.trc.trip.number ∧
    (enterRunning s).trc.trip.origin = s.trc.trip.origin ∧
    (enterRunning s).trc.trip.destination = s.trc.trip.destination ∧
    (enterRunning s).trc.trip.direction = s.trc.trip.direction ∧ (enterRunning s).trc.trip.owner = s.trc.trip.owner ∧
    (enterRunning s).trc.trip.lastDir = s.trc.trip.lastDir ∧ (enterRunning s).trc.frozen = s.trc.frozen ∧
    (enterRunning s).trc.debounced = s.trc.debounced ∧ (enterRunning s).trc.elapsed = s.trc.elapsed ∧
    (enterRunning s).niu.resetCauses = s.niu.resetCauses := by
  and_intros <;>
    (unfold enterRunning; (try dsimp only); (repeat' split) <;> (try simp) <;> (try with_reducible rfl))

@[simp] theorem checkReleased_frame (s : State) :
    (checkReleased s).cfg = s.cfg ∧ (checkReleased s).cru = s.cru ∧ (checkReleased s).lsu = s.lsu ∧
    (checkReleased s).lbp = s.lbp ∧ (checkReleased s).pins = s.pins ∧ (checkReleased s).now = s.now ∧
    (checkReleased s).pending = s.pending ∧ (checkReleased s).psu.count = s.psu.count ∧
    (checkReleased s).psu.countPrev = s.psu.countPrev ∧ (checkReleased s).psu.pRef = s.psu.pRef ∧
    (checkReleased s).psu.countRef = s.psu.countRef ∧ (checkReleased s).psu.ref = s.psu.ref ∧
    (checkReleased s).psu.expected = s.psu.expected ∧ (checkReleased s).psu.sampleTimer = s.psu.sampleTimer ∧
    (checkReleased s).psu.vEval = s.psu.vEval ∧ (checkReleased s).psu.vRope = s.psu.vRope ∧
    (checkReleased s).psu.ropeDir = s.psu.ropeDir ∧ (checkReleased s).psu.travelDir = s.psu.travelDir ∧
    (checkReleased s).psu.stillCount = s.psu.stillCount ∧ (checkReleased s).psu.still = s.psu.still ∧
    (checkReleased s).psu.armed = s.psu.armed ∧ (checkReleased s).clc.c = s.clc.c ∧
    (checkReleased s).clc.w1 = s.clc.w1 ∧ (checkReleased s).clc.s = s.clc.s ∧ (checkReleased s).clc.e = s.clc.e ∧
    (checkReleased s).clc.vdrv = s.clc.vdrv ∧ (checkReleased s).trc.drvMode = s.trc.drvMode ∧
    (checkReleased s).trc.conMode = s.trc.conMode ∧ (checkReleased s).trc.effMode = s.trc.effMode ∧
    (checkReleased s).trc.trip.number = s.trc.trip.number ∧ (checkReleased s).trc.trip.origin = s.trc.trip.origin ∧
    (checkReleased s).trc.trip.destination = s.trc.trip.destination ∧
    (checkReleased s).trc.trip.direction = s.trc.trip.direction ∧
    (checkReleased s).trc.trip.owner = s.trc.trip.owner ∧ (checkReleased s).trc.trip.lastDir = s.trc.trip.lastDir ∧
    (checkReleased s).trc.frozen = s.trc.frozen ∧ (checkReleased s).trc.debounced = s.trc.debounced ∧
    (checkReleased s).trc.elapsed = s.trc.elapsed ∧ (checkReleased s).niu.resetCauses = s.niu.resetCauses := by
  and_intros <;>
    (unfold checkReleased; (try dsimp only); (repeat' split) <;> (try simp) <;> (try with_reducible rfl))

@[simp] theorem silentCheck_frame (c : Car) (s : State) :
    (silentCheck c s).cfg = s.cfg ∧ (silentCheck c s).cru = s.cru ∧ (silentCheck c s).lsu = s.lsu ∧
    (silentCheck c s).lbp = s.lbp ∧ (silentCheck c s).pins = s.pins ∧ (silentCheck c s).now = s.now ∧
    (silentCheck c s).pending = s.pending ∧ (silentCheck c s).psu.count = s.psu.count ∧
    (silentCheck c s).psu.countPrev = s.psu.countPrev ∧ (silentCheck c s).psu.pRef = s.psu.pRef ∧
    (silentCheck c s).psu.countRef = s.psu.countRef ∧ (silentCheck c s).psu.ref = s.psu.ref ∧
    (silentCheck c s).psu.expected = s.psu.expected ∧ (silentCheck c s).psu.sampleTimer = s.psu.sampleTimer ∧
    (silentCheck c s).psu.vEval = s.psu.vEval ∧ (silentCheck c s).psu.vRope = s.psu.vRope ∧
    (silentCheck c s).psu.ropeDir = s.psu.ropeDir ∧ (silentCheck c s).psu.travelDir = s.psu.travelDir ∧
    (silentCheck c s).psu.stillCount = s.psu.stillCount ∧ (silentCheck c s).psu.still = s.psu.still ∧
    (silentCheck c s).psu.armed = s.psu.armed ∧ (silentCheck c s).clc.c = s.clc.c ∧
    (silentCheck c s).clc.w1 = s.clc.w1 ∧ (silentCheck c s).clc.s = s.clc.s ∧ (silentCheck c s).clc.e = s.clc.e ∧
    (silentCheck c s).clc.vdrv = s.clc.vdrv ∧ (silentCheck c s).trc.drvMode = s.trc.drvMode ∧
    (silentCheck c s).trc.conMode = s.trc.conMode ∧ (silentCheck c s).trc.effMode = s.trc.effMode ∧
    (silentCheck c s).trc.trip.number = s.trc.trip.number ∧ (silentCheck c s).trc.trip.origin = s.trc.trip.origin ∧
    (silentCheck c s).trc.trip.destination = s.trc.trip.destination ∧
    (silentCheck c s).trc.trip.direction = s.trc.trip.direction ∧
    (silentCheck c s).trc.trip.owner = s.trc.trip.owner ∧ (silentCheck c s).trc.trip.lastDir = s.trc.trip.lastDir ∧
    (silentCheck c s).trc.frozen = s.trc.frozen ∧ (silentCheck c s).trc.debounced = s.trc.debounced ∧
    (silentCheck c s).trc.elapsed = s.trc.elapsed ∧ (silentCheck c s).niu.resetCauses = s.niu.resetCauses := by
  and_intros <;>
    (unfold silentCheck; (try dsimp only); (repeat' split) <;> (try simp) <;> (try with_reducible rfl))

@[simp] theorem doorCheckSide_frame (c : Car) (d : Side) (s : State) :
    (doorCheckSide c d s).cfg = s.cfg ∧ (doorCheckSide c d s).cru = s.cru ∧ (doorCheckSide c d s).lsu = s.lsu ∧
    (doorCheckSide c d s).lbp = s.lbp ∧ (doorCheckSide c d s).pins = s.pins ∧ (doorCheckSide c d s).now = s.now ∧
    (doorCheckSide c d s).pending = s.pending ∧ (doorCheckSide c d s).psu.count = s.psu.count ∧
    (doorCheckSide c d s).psu.countPrev = s.psu.countPrev ∧ (doorCheckSide c d s).psu.pRef = s.psu.pRef ∧
    (doorCheckSide c d s).psu.countRef = s.psu.countRef ∧ (doorCheckSide c d s).psu.ref = s.psu.ref ∧
    (doorCheckSide c d s).psu.expected = s.psu.expected ∧ (doorCheckSide c d s).psu.sampleTimer = s.psu.sampleTimer ∧
    (doorCheckSide c d s).psu.vEval = s.psu.vEval ∧ (doorCheckSide c d s).psu.vRope = s.psu.vRope ∧
    (doorCheckSide c d s).psu.ropeDir = s.psu.ropeDir ∧ (doorCheckSide c d s).psu.travelDir = s.psu.travelDir ∧
    (doorCheckSide c d s).psu.stillCount = s.psu.stillCount ∧ (doorCheckSide c d s).psu.still = s.psu.still ∧
    (doorCheckSide c d s).psu.armed = s.psu.armed ∧ (doorCheckSide c d s).clc.c = s.clc.c ∧
    (doorCheckSide c d s).clc.w1 = s.clc.w1 ∧ (doorCheckSide c d s).clc.s = s.clc.s ∧
    (doorCheckSide c d s).clc.e = s.clc.e ∧ (doorCheckSide c d s).clc.vdrv = s.clc.vdrv ∧
    (doorCheckSide c d s).trc.drvMode = s.trc.drvMode ∧ (doorCheckSide c d s).trc.conMode = s.trc.conMode ∧
    (doorCheckSide c d s).trc.effMode = s.trc.effMode ∧ (doorCheckSide c d s).trc.trip.number = s.trc.trip.number ∧
    (doorCheckSide c d s).trc.trip.origin = s.trc.trip.origin ∧
    (doorCheckSide c d s).trc.trip.destination = s.trc.trip.destination ∧
    (doorCheckSide c d s).trc.trip.direction = s.trc.trip.direction ∧
    (doorCheckSide c d s).trc.trip.owner = s.trc.trip.owner ∧
    (doorCheckSide c d s).trc.trip.lastDir = s.trc.trip.lastDir ∧ (doorCheckSide c d s).trc.frozen = s.trc.frozen ∧
    (doorCheckSide c d s).trc.debounced = s.trc.debounced ∧ (doorCheckSide c d s).trc.elapsed = s.trc.elapsed ∧
    (doorCheckSide c d s).niu.resetCauses = s.niu.resetCauses := by
  and_intros <;>
    (unfold doorCheckSide; (try dsimp only); (repeat' split) <;> (try simp) <;> (try with_reducible rfl))

@[simp] theorem doorCheck_frame (c : Car) (s : State) :
    (doorCheck c s).cfg = s.cfg ∧ (doorCheck c s).cru = s.cru ∧ (doorCheck c s).lsu = s.lsu ∧
    (doorCheck c s).lbp = s.lbp ∧ (doorCheck c s).pins = s.pins ∧ (doorCheck c s).now = s.now ∧
    (doorCheck c s).pending = s.pending ∧ (doorCheck c s).psu.count = s.psu.count ∧
    (doorCheck c s).psu.countPrev = s.psu.countPrev ∧ (doorCheck c s).psu.pRef = s.psu.pRef ∧
    (doorCheck c s).psu.countRef = s.psu.countRef ∧ (doorCheck c s).psu.ref = s.psu.ref ∧
    (doorCheck c s).psu.expected = s.psu.expected ∧ (doorCheck c s).psu.sampleTimer = s.psu.sampleTimer ∧
    (doorCheck c s).psu.vEval = s.psu.vEval ∧ (doorCheck c s).psu.vRope = s.psu.vRope ∧
    (doorCheck c s).psu.ropeDir = s.psu.ropeDir ∧ (doorCheck c s).psu.travelDir = s.psu.travelDir ∧
    (doorCheck c s).psu.stillCount = s.psu.stillCount ∧ (doorCheck c s).psu.still = s.psu.still ∧
    (doorCheck c s).psu.armed = s.psu.armed ∧ (doorCheck c s).clc.c = s.clc.c ∧ (doorCheck c s).clc.w1 = s.clc.w1 ∧
    (doorCheck c s).clc.s = s.clc.s ∧ (doorCheck c s).clc.e = s.clc.e ∧ (doorCheck c s).clc.vdrv = s.clc.vdrv ∧
    (doorCheck c s).trc.drvMode = s.trc.drvMode ∧ (doorCheck c s).trc.conMode = s.trc.conMode ∧
    (doorCheck c s).trc.effMode = s.trc.effMode ∧ (doorCheck c s).trc.trip.number = s.trc.trip.number ∧
    (doorCheck c s).trc.trip.origin = s.trc.trip.origin ∧
    (doorCheck c s).trc.trip.destination = s.trc.trip.destination ∧
    (doorCheck c s).trc.trip.direction = s.trc.trip.direction ∧ (doorCheck c s).trc.trip.owner = s.trc.trip.owner ∧
    (doorCheck c s).trc.trip.lastDir = s.trc.trip.lastDir ∧ (doorCheck c s).trc.frozen = s.trc.frozen ∧
    (doorCheck c s).trc.debounced = s.trc.debounced ∧ (doorCheck c s).trc.elapsed = s.trc.elapsed ∧
    (doorCheck c s).niu.resetCauses = s.niu.resetCauses := by
  and_intros <;>
    (unfold doorCheck; (try dsimp only); (repeat' split) <;> (try simp) <;> (try with_reducible rfl))

@[simp] theorem enterRelease_frame (s : State) :
    (enterRelease s).cfg = s.cfg ∧ (enterRelease s).cru = s.cru ∧ (enterRelease s).lsu = s.lsu ∧
    (enterRelease s).lbp = s.lbp ∧ (enterRelease s).pins = s.pins ∧ (enterRelease s).now = s.now ∧
    (enterRelease s).pending = s.pending ∧ (enterRelease s).psu.count = s.psu.count ∧
    (enterRelease s).psu.countPrev = s.psu.countPrev ∧ (enterRelease s).psu.pRef = s.psu.pRef ∧
    (enterRelease s).psu.countRef = s.psu.countRef ∧ (enterRelease s).psu.ref = s.psu.ref ∧
    (enterRelease s).psu.expected = s.psu.expected ∧ (enterRelease s).psu.sampleTimer = s.psu.sampleTimer ∧
    (enterRelease s).psu.vEval = s.psu.vEval ∧ (enterRelease s).psu.vRope = s.psu.vRope ∧
    (enterRelease s).psu.ropeDir = s.psu.ropeDir ∧ (enterRelease s).psu.travelDir = s.psu.travelDir ∧
    (enterRelease s).psu.stillCount = s.psu.stillCount ∧ (enterRelease s).psu.still = s.psu.still ∧
    (enterRelease s).psu.armed = s.psu.armed ∧ (enterRelease s).clc.c = s.clc.c ∧ (enterRelease s).clc.w1 = s.clc.w1 ∧
    (enterRelease s).clc.s = s.clc.s ∧ (enterRelease s).clc.e = s.clc.e ∧ (enterRelease s).clc.vdrv = s.clc.vdrv ∧
    (enterRelease s).trc.drvMode = s.trc.drvMode ∧ (enterRelease s).trc.conMode = s.trc.conMode ∧
    (enterRelease s).trc.effMode = s.trc.effMode ∧ (enterRelease s).trc.trip.number = s.trc.trip.number ∧
    (enterRelease s).trc.trip.origin = s.trc.trip.origin ∧
    (enterRelease s).trc.trip.destination = s.trc.trip.destination ∧
    (enterRelease s).trc.trip.direction = s.trc.trip.direction ∧ (enterRelease s).trc.trip.owner = s.trc.trip.owner ∧
    (enterRelease s).trc.trip.lastDir = s.trc.trip.lastDir ∧ (enterRelease s).trc.frozen = s.trc.frozen ∧
    (enterRelease s).trc.debounced = s.trc.debounced ∧ (enterRelease s).trc.elapsed = s.trc.elapsed ∧
    (enterRelease s).niu.resetCauses = s.niu.resetCauses := by
  and_intros <;>
    (unfold enterRelease; (try dsimp only); (repeat' split) <;> (try simp) <;> (try with_reducible rfl))

@[simp] theorem enterSettle_frame (s : State) :
    (enterSettle s).cfg = s.cfg ∧ (enterSettle s).cru = s.cru ∧ (enterSettle s).lsu = s.lsu ∧
    (enterSettle s).lbp = s.lbp ∧ (enterSettle s).pins = s.pins ∧ (enterSettle s).now = s.now ∧
    (enterSettle s).pending = s.pending ∧ (enterSettle s).psu.count = s.psu.count ∧
    (enterSettle s).psu.countPrev = s.psu.countPrev ∧ (enterSettle s).psu.pRef = s.psu.pRef ∧
    (enterSettle s).psu.countRef = s.psu.countRef ∧ (enterSettle s).psu.ref = s.psu.ref ∧
    (enterSettle s).psu.expected = s.psu.expected ∧ (enterSettle s).psu.sampleTimer = s.psu.sampleTimer ∧
    (enterSettle s).psu.vEval = s.psu.vEval ∧ (enterSettle s).psu.vRope = s.psu.vRope ∧
    (enterSettle s).psu.ropeDir = s.psu.ropeDir ∧ (enterSettle s).psu.travelDir = s.psu.travelDir ∧
    (enterSettle s).psu.stillCount = s.psu.stillCount ∧ (enterSettle s).psu.still = s.psu.still ∧
    (enterSettle s).psu.armed = s.psu.armed ∧ (enterSettle s).clc.c = s.clc.c ∧ (enterSettle s).clc.w1 = s.clc.w1 ∧
    (enterSettle s).clc.s = s.clc.s ∧ (enterSettle s).clc.e = s.clc.e ∧ (enterSettle s).clc.vdrv = s.clc.vdrv ∧
    (enterSettle s).trc.drvMode = s.trc.drvMode ∧ (enterSettle s).trc.conMode = s.trc.conMode ∧
    (enterSettle s).trc.effMode = s.trc.effMode ∧ (enterSettle s).trc.trip.number = s.trc.trip.number ∧
    (enterSettle s).trc.trip.origin = s.trc.trip.origin ∧
    (enterSettle s).trc.trip.destination = s.trc.trip.destination ∧
    (enterSettle s).trc.trip.direction = s.trc.trip.direction ∧ (enterSettle s).trc.trip.owner = s.trc.trip.owner ∧
    (enterSettle s).trc.trip.lastDir = s.trc.trip.lastDir ∧ (enterSettle s).trc.debounced = s.trc.debounced ∧
    (enterSettle s).trc.elapsed = s.trc.elapsed ∧ (enterSettle s).niu.resetCauses = s.niu.resetCauses := by
  and_intros <;>
    (unfold enterSettle; (try dsimp only); (repeat' split) <;> (try simp) <;> (try with_reducible rfl))

@[simp] theorem checkDoors_frame (s : State) :
    (checkDoors s).cfg = s.cfg ∧ (checkDoors s).cru = s.cru ∧ (checkDoors s).lsu = s.lsu ∧
    (checkDoors s).lbp = s.lbp ∧ (checkDoors s).pins = s.pins ∧ (checkDoors s).now = s.now ∧
    (checkDoors s).pending = s.pending ∧ (checkDoors s).psu.count = s.psu.count ∧
    (checkDoors s).psu.countPrev = s.psu.countPrev ∧ (checkDoors s).psu.pRef = s.psu.pRef ∧
    (checkDoors s).psu.countRef = s.psu.countRef ∧ (checkDoors s).psu.ref = s.psu.ref ∧
    (checkDoors s).psu.expected = s.psu.expected ∧ (checkDoors s).psu.sampleTimer = s.psu.sampleTimer ∧
    (checkDoors s).psu.vEval = s.psu.vEval ∧ (checkDoors s).psu.vRope = s.psu.vRope ∧
    (checkDoors s).psu.ropeDir = s.psu.ropeDir ∧ (checkDoors s).psu.travelDir = s.psu.travelDir ∧
    (checkDoors s).psu.stillCount = s.psu.stillCount ∧ (checkDoors s).psu.still = s.psu.still ∧
    (checkDoors s).psu.armed = s.psu.armed ∧ (checkDoors s).clc.c = s.clc.c ∧ (checkDoors s).clc.w1 = s.clc.w1 ∧
    (checkDoors s).clc.s = s.clc.s ∧ (checkDoors s).clc.e = s.clc.e ∧ (checkDoors s).clc.vdrv = s.clc.vdrv ∧
    (checkDoors s).trc.drvMode = s.trc.drvMode ∧ (checkDoors s).trc.conMode = s.trc.conMode ∧
    (checkDoors s).trc.effMode = s.trc.effMode ∧ (checkDoors s).trc.trip.number = s.trc.trip.number ∧
    (checkDoors s).trc.trip.origin = s.trc.trip.origin ∧
    (checkDoors s).trc.trip.destination = s.trc.trip.destination ∧
    (checkDoors s).trc.trip.direction = s.trc.trip.direction ∧ (checkDoors s).trc.trip.owner = s.trc.trip.owner ∧
    (checkDoors s).trc.trip.lastDir = s.trc.trip.lastDir ∧ (checkDoors s).trc.debounced = s.trc.debounced ∧
    (checkDoors s).trc.elapsed = s.trc.elapsed ∧ (checkDoors s).niu.resetCauses = s.niu.resetCauses := by
  and_intros <;>
    (unfold checkDoors; (try dsimp only); (repeat' split) <;> (try simp) <;> (try with_reducible rfl))

@[simp] theorem enterDoors_frame (s : State) :
    (enterDoors s).cfg = s.cfg ∧ (enterDoors s).cru = s.cru ∧ (enterDoors s).lsu = s.lsu ∧
    (enterDoors s).lbp = s.lbp ∧ (enterDoors s).pins = s.pins ∧ (enterDoors s).now = s.now ∧
    (enterDoors s).pending = s.pending ∧ (enterDoors s).psu.count = s.psu.count ∧
    (enterDoors s).psu.countPrev = s.psu.countPrev ∧ (enterDoors s).psu.pRef = s.psu.pRef ∧
    (enterDoors s).psu.countRef = s.psu.countRef ∧ (enterDoors s).psu.ref = s.psu.ref ∧
    (enterDoors s).psu.expected = s.psu.expected ∧ (enterDoors s).psu.sampleTimer = s.psu.sampleTimer ∧
    (enterDoors s).psu.vEval = s.psu.vEval ∧ (enterDoors s).psu.vRope = s.psu.vRope ∧
    (enterDoors s).psu.ropeDir = s.psu.ropeDir ∧ (enterDoors s).psu.travelDir = s.psu.travelDir ∧
    (enterDoors s).psu.stillCount = s.psu.stillCount ∧ (enterDoors s).psu.still = s.psu.still ∧
    (enterDoors s).psu.armed = s.psu.armed ∧ (enterDoors s).clc.c = s.clc.c ∧ (enterDoors s).clc.w1 = s.clc.w1 ∧
    (enterDoors s).clc.s = s.clc.s ∧ (enterDoors s).clc.e = s.clc.e ∧ (enterDoors s).clc.vdrv = s.clc.vdrv ∧
    (enterDoors s).trc.drvMode = s.trc.drvMode ∧ (enterDoors s).trc.conMode = s.trc.conMode ∧
    (enterDoors s).trc.effMode = s.trc.effMode ∧ (enterDoors s).trc.trip.number = s.trc.trip.number ∧
    (enterDoors s).trc.trip.origin = s.trc.trip.origin ∧
    (enterDoors s).trc.trip.destination = s.trc.trip.destination ∧
    (enterDoors s).trc.trip.direction = s.trc.trip.direction ∧ (enterDoors s).trc.trip.owner = s.trc.trip.owner ∧
    (enterDoors s).trc.trip.lastDir = s.trc.trip.lastDir ∧ (enterDoors s).trc.debounced = s.trc.debounced ∧
    (enterDoors s).trc.elapsed = s.trc.elapsed ∧ (enterDoors s).niu.resetCauses = s.niu.resetCauses := by
  and_intros <;>
    (unfold enterDoors; (try dsimp only); (repeat' split) <;> (try simp) <;> (try with_reducible rfl))

@[simp] theorem reservationsEmpty_frame (s : State) :
    (reservationsEmpty s).cfg = s.cfg ∧ (reservationsEmpty s).cru = s.cru ∧ (reservationsEmpty s).lsu = s.lsu ∧
    (reservationsEmpty s).lbp = s.lbp ∧ (reservationsEmpty s).pins = s.pins ∧ (reservationsEmpty s).now = s.now ∧
    (reservationsEmpty s).pending = s.pending ∧ (reservationsEmpty s).psu.count = s.psu.count ∧
    (reservationsEmpty s).psu.countPrev = s.psu.countPrev ∧ (reservationsEmpty s).psu.pRef = s.psu.pRef ∧
    (reservationsEmpty s).psu.countRef = s.psu.countRef ∧ (reservationsEmpty s).psu.ref = s.psu.ref ∧
    (reservationsEmpty s).psu.expected = s.psu.expected ∧ (reservationsEmpty s).psu.sampleTimer = s.psu.sampleTimer ∧
    (reservationsEmpty s).psu.vEval = s.psu.vEval ∧ (reservationsEmpty s).psu.vRope = s.psu.vRope ∧
    (reservationsEmpty s).psu.ropeDir = s.psu.ropeDir ∧ (reservationsEmpty s).psu.travelDir = s.psu.travelDir ∧
    (reservationsEmpty s).psu.stillCount = s.psu.stillCount ∧ (reservationsEmpty s).psu.still = s.psu.still ∧
    (reservationsEmpty s).psu.armed = s.psu.armed ∧ (reservationsEmpty s).clc.c = s.clc.c ∧
    (reservationsEmpty s).clc.w1 = s.clc.w1 ∧ (reservationsEmpty s).clc.s = s.clc.s ∧
    (reservationsEmpty s).clc.e = s.clc.e ∧ (reservationsEmpty s).clc.vdrv = s.clc.vdrv ∧
    (reservationsEmpty s).trc.drvMode = s.trc.drvMode ∧ (reservationsEmpty s).trc.conMode = s.trc.conMode ∧
    (reservationsEmpty s).trc.effMode = s.trc.effMode ∧ (reservationsEmpty s).trc.trip.number = s.trc.trip.number ∧
    (reservationsEmpty s).trc.trip.origin = s.trc.trip.origin ∧
    (reservationsEmpty s).trc.trip.destination = s.trc.trip.destination ∧
    (reservationsEmpty s).trc.trip.direction = s.trc.trip.direction ∧
    (reservationsEmpty s).trc.trip.owner = s.trc.trip.owner ∧
    (reservationsEmpty s).trc.trip.lastDir = s.trc.trip.lastDir ∧
    (reservationsEmpty s).trc.debounced = s.trc.debounced ∧ (reservationsEmpty s).trc.elapsed = s.trc.elapsed ∧
    (reservationsEmpty s).niu.resetCauses = s.niu.resetCauses := by
  and_intros <;>
    (unfold reservationsEmpty; (try dsimp only); (repeat' split) <;> (try simp) <;> (try with_reducible rfl))

@[simp] theorem enterClosing_frame (k : Stop) (s : State) :
    (enterClosing k s).cfg = s.cfg ∧ (enterClosing k s).cru = s.cru ∧ (enterClosing k s).lsu = s.lsu ∧
    (enterClosing k s).lbp = s.lbp ∧ (enterClosing k s).pins = s.pins ∧ (enterClosing k s).now = s.now ∧
    (enterClosing k s).pending = s.pending ∧ (enterClosing k s).psu.count = s.psu.count ∧
    (enterClosing k s).psu.countPrev = s.psu.countPrev ∧ (enterClosing k s).psu.pRef = s.psu.pRef ∧
    (enterClosing k s).psu.countRef = s.psu.countRef ∧ (enterClosing k s).psu.ref = s.psu.ref ∧
    (enterClosing k s).psu.expected = s.psu.expected ∧ (enterClosing k s).psu.sampleTimer = s.psu.sampleTimer ∧
    (enterClosing k s).psu.vEval = s.psu.vEval ∧ (enterClosing k s).psu.vRope = s.psu.vRope ∧
    (enterClosing k s).psu.ropeDir = s.psu.ropeDir ∧ (enterClosing k s).psu.travelDir = s.psu.travelDir ∧
    (enterClosing k s).psu.stillCount = s.psu.stillCount ∧ (enterClosing k s).psu.still = s.psu.still ∧
    (enterClosing k s).psu.armed = s.psu.armed ∧ (enterClosing k s).clc.c = s.clc.c ∧
    (enterClosing k s).clc.w1 = s.clc.w1 ∧ (enterClosing k s).clc.s = s.clc.s ∧ (enterClosing k s).clc.e = s.clc.e ∧
    (enterClosing k s).clc.vdrv = s.clc.vdrv ∧ (enterClosing k s).trc.drvMode = s.trc.drvMode ∧
    (enterClosing k s).trc.conMode = s.trc.conMode ∧ (enterClosing k s).trc.effMode = s.trc.effMode ∧
    (enterClosing k s).trc.trip.number = s.trc.trip.number ∧ (enterClosing k s).trc.trip.origin = s.trc.trip.origin ∧
    (enterClosing k s).trc.trip.destination = s.trc.trip.destination ∧
    (enterClosing k s).trc.trip.direction = s.trc.trip.direction ∧
    (enterClosing k s).trc.trip.owner = s.trc.trip.owner ∧ (enterClosing k s).trc.trip.lastDir = s.trc.trip.lastDir ∧
    (enterClosing k s).trc.debounced = s.trc.debounced ∧ (enterClosing k s).trc.elapsed = s.trc.elapsed ∧
    (enterClosing k s).niu.resetCauses = s.niu.resetCauses := by
  and_intros <;>
    (unfold enterClosing; (try dsimp only); (repeat' split) <;> (try simp) <;> (try with_reducible rfl))

@[simp] theorem beginTrip_frame (id : SlotId) (r : TripReq) (dest : Stop) (origin : Option Stop) (s : State) :
    (beginTrip id r dest origin s).cfg = s.cfg ∧ (beginTrip id r dest origin s).cru = s.cru ∧
    (beginTrip id r dest origin s).clc = s.clc ∧ (beginTrip id r dest origin s).brs = s.brs ∧
    (beginTrip id r dest origin s).adm = s.adm ∧ (beginTrip id r dest origin s).lsu = s.lsu ∧
    (beginTrip id r dest origin s).lbp = s.lbp ∧ (beginTrip id r dest origin s).pins = s.pins ∧
    (beginTrip id r dest origin s).now = s.now ∧ (beginTrip id r dest origin s).pending = s.pending ∧
    (beginTrip id r dest origin s).psu.count = s.psu.count ∧
    (beginTrip id r dest origin s).psu.countPrev = s.psu.countPrev ∧
    (beginTrip id r dest origin s).psu.pRef = s.psu.pRef ∧
    (beginTrip id r dest origin s).psu.countRef = s.psu.countRef ∧
    (beginTrip id r dest origin s).psu.ref = s.psu.ref ∧
    (beginTrip id r dest origin s).psu.expected = s.psu.expected ∧
    (beginTrip id r dest origin s).psu.sampleTimer = s.psu.sampleTimer ∧
    (beginTrip id r dest origin s).psu.vEval = s.psu.vEval ∧ (beginTrip id r dest origin s).psu.vRope = s.psu.vRope ∧
    (beginTrip id r dest origin s).psu.ropeDir = s.psu.ropeDir ∧
    (beginTrip id r dest origin s).psu.travelDir = s.psu.travelDir ∧
    (beginTrip id r dest origin s).psu.stillCount = s.psu.stillCount ∧
    (beginTrip id r dest origin s).psu.still = s.psu.still ∧
    (beginTrip id r dest origin s).psu.heldCount = s.psu.heldCount ∧
    (beginTrip id r dest origin s).psu.furthest = s.psu.furthest ∧
    (beginTrip id r dest origin s).psu.armed = s.psu.armed ∧ (beginTrip id r dest origin s).trc.state = s.trc.state ∧
    (beginTrip id r dest origin s).trc.drvMode = s.trc.drvMode ∧
    (beginTrip id r dest origin s).trc.conMode = s.trc.conMode ∧
    (beginTrip id r dest origin s).trc.effMode = s.trc.effMode ∧
    (beginTrip id r dest origin s).trc.frozen = s.trc.frozen ∧
    (beginTrip id r dest origin s).trc.debounced = s.trc.debounced ∧
    (beginTrip id r dest origin s).trc.minDwell = s.trc.minDwell ∧
    (beginTrip id r dest origin s).trc.elapsed = s.trc.elapsed ∧
    (beginTrip id r dest origin s).trc.settleTimer = s.trc.settleTimer ∧
    (beginTrip id r dest origin s).dri.evac = s.dri.evac ∧ (beginTrip id r dest origin s).dri.phase = s.dri.phase ∧
    (beginTrip id r dest origin s).dri.leadTimer = s.dri.leadTimer ∧
    (beginTrip id r dest origin s).dri.doorTimer = s.dri.doorTimer ∧
    (beginTrip id r dest origin s).niu.incidents = s.niu.incidents ∧
    (beginTrip id r dest origin s).niu.overflow = s.niu.overflow ∧
    (beginTrip id r dest origin s).niu.seq = s.niu.seq ∧
    (beginTrip id r dest origin s).niu.resetCauses = s.niu.resetCauses := by
  and_intros <;>
    (unfold beginTrip; (try dsimp only); (repeat' split) <;> (try simp) <;> (try with_reducible rfl))

@[simp] theorem startFromStop_frame (id : SlotId) (r : TripReq) (k : Stop) (s : State) :
    (startFromStop id r k s).cfg = s.cfg ∧ (startFromStop id r k s).cru = s.cru ∧
    (startFromStop id r k s).lsu = s.lsu ∧ (startFromStop id r k s).lbp = s.lbp ∧
    (startFromStop id r k s).pins = s.pins ∧ (startFromStop id r k s).now = s.now ∧
    (startFromStop id r k s).pending = s.pending ∧ (startFromStop id r k s).psu.count = s.psu.count ∧
    (startFromStop id r k s).psu.countPrev = s.psu.countPrev ∧ (startFromStop id r k s).psu.pRef = s.psu.pRef ∧
    (startFromStop id r k s).psu.countRef = s.psu.countRef ∧ (startFromStop id r k s).psu.ref = s.psu.ref ∧
    (startFromStop id r k s).psu.expected = s.psu.expected ∧
    (startFromStop id r k s).psu.sampleTimer = s.psu.sampleTimer ∧ (startFromStop id r k s).psu.vEval = s.psu.vEval ∧
    (startFromStop id r k s).psu.vRope = s.psu.vRope ∧ (startFromStop id r k s).psu.ropeDir = s.psu.ropeDir ∧
    (startFromStop id r k s).psu.travelDir = s.psu.travelDir ∧
    (startFromStop id r k s).psu.stillCount = s.psu.stillCount ∧ (startFromStop id r k s).psu.still = s.psu.still ∧
    (startFromStop id r k s).psu.armed = s.psu.armed ∧ (startFromStop id r k s).clc.c = s.clc.c ∧
    (startFromStop id r k s).clc.w1 = s.clc.w1 ∧ (startFromStop id r k s).clc.s = s.clc.s ∧
    (startFromStop id r k s).clc.e = s.clc.e ∧ (startFromStop id r k s).clc.vdrv = s.clc.vdrv ∧
    (startFromStop id r k s).trc.drvMode = s.trc.drvMode ∧ (startFromStop id r k s).trc.conMode = s.trc.conMode ∧
    (startFromStop id r k s).trc.effMode = s.trc.effMode ∧ (startFromStop id r k s).trc.debounced = s.trc.debounced ∧
    (startFromStop id r k s).trc.elapsed = s.trc.elapsed ∧
    (startFromStop id r k s).niu.resetCauses = s.niu.resetCauses := by
  and_intros <;>
    (unfold startFromStop; (try dsimp only); (repeat' split) <;> (try simp) <;> (try with_reducible rfl))

@[simp] theorem startFromLine_frame (id : SlotId) (r : TripReq) (dest : Stop) (s : State) :
    (startFromLine id r dest s).cfg = s.cfg ∧ (startFromLine id r dest s).cru = s.cru ∧
    (startFromLine id r dest s).lsu = s.lsu ∧ (startFromLine id r dest s).lbp = s.lbp ∧
    (startFromLine id r dest s).pins = s.pins ∧ (startFromLine id r dest s).now = s.now ∧
    (startFromLine id r dest s).pending = s.pending ∧ (startFromLine id r dest s).psu.count = s.psu.count ∧
    (startFromLine id r dest s).psu.countPrev = s.psu.countPrev ∧ (startFromLine id r dest s).psu.pRef = s.psu.pRef ∧
    (startFromLine id r dest s).psu.countRef = s.psu.countRef ∧ (startFromLine id r dest s).psu.ref = s.psu.ref ∧
    (startFromLine id r dest s).psu.expected = s.psu.expected ∧
    (startFromLine id r dest s).psu.sampleTimer = s.psu.sampleTimer ∧
    (startFromLine id r dest s).psu.vEval = s.psu.vEval ∧ (startFromLine id r dest s).psu.vRope = s.psu.vRope ∧
    (startFromLine id r dest s).psu.ropeDir = s.psu.ropeDir ∧
    (startFromLine id r dest s).psu.travelDir = s.psu.travelDir ∧
    (startFromLine id r dest s).psu.stillCount = s.psu.stillCount ∧
    (startFromLine id r dest s).psu.still = s.psu.still ∧ (startFromLine id r dest s).psu.armed = s.psu.armed ∧
    (startFromLine id r dest s).clc.c = s.clc.c ∧ (startFromLine id r dest s).clc.w1 = s.clc.w1 ∧
    (startFromLine id r dest s).clc.s = s.clc.s ∧ (startFromLine id r dest s).clc.e = s.clc.e ∧
    (startFromLine id r dest s).clc.vdrv = s.clc.vdrv ∧ (startFromLine id r dest s).trc.drvMode = s.trc.drvMode ∧
    (startFromLine id r dest s).trc.conMode = s.trc.conMode ∧
    (startFromLine id r dest s).trc.effMode = s.trc.effMode ∧
    (startFromLine id r dest s).trc.debounced = s.trc.debounced ∧
    (startFromLine id r dest s).trc.elapsed = s.trc.elapsed ∧
    (startFromLine id r dest s).niu.resetCauses = s.niu.resetCauses := by
  and_intros <;>
    (unfold startFromLine; (try dsimp only); (repeat' split) <;> (try simp) <;> (try with_reducible rfl))

@[simp] theorem testPending_frame (id : SlotId) (s : State) :
    (testPending id s).cfg = s.cfg ∧ (testPending id s).cru = s.cru ∧ (testPending id s).lsu = s.lsu ∧
    (testPending id s).lbp = s.lbp ∧ (testPending id s).pins = s.pins ∧ (testPending id s).now = s.now ∧
    (testPending id s).pending = s.pending ∧ (testPending id s).psu.count = s.psu.count ∧
    (testPending id s).psu.countPrev = s.psu.countPrev ∧ (testPending id s).psu.pRef = s.psu.pRef ∧
    (testPending id s).psu.countRef = s.psu.countRef ∧ (testPending id s).psu.ref = s.psu.ref ∧
    (testPending id s).psu.expected = s.psu.expected ∧ (testPending id s).psu.sampleTimer = s.psu.sampleTimer ∧
    (testPending id s).psu.vEval = s.psu.vEval ∧ (testPending id s).psu.vRope = s.psu.vRope ∧
    (testPending id s).psu.ropeDir = s.psu.ropeDir ∧ (testPending id s).psu.travelDir = s.psu.travelDir ∧
    (testPending id s).psu.stillCount = s.psu.stillCount ∧ (testPending id s).psu.still = s.psu.still ∧
    (testPending id s).psu.armed = s.psu.armed ∧ (testPending id s).clc.c = s.clc.c ∧
    (testPending id s).clc.w1 = s.clc.w1 ∧ (testPending id s).clc.s = s.clc.s ∧ (testPending id s).clc.e = s.clc.e ∧
    (testPending id s).clc.vdrv = s.clc.vdrv ∧ (testPending id s).trc.drvMode = s.trc.drvMode ∧
    (testPending id s).trc.conMode = s.trc.conMode ∧ (testPending id s).trc.effMode = s.trc.effMode ∧
    (testPending id s).trc.debounced = s.trc.debounced ∧ (testPending id s).trc.elapsed = s.trc.elapsed ∧
    (testPending id s).niu.resetCauses = s.niu.resetCauses := by
  and_intros <;>
    (unfold testPending; (try dsimp only); (repeat' split) <;> (try simp) <;> (try with_reducible rfl))

@[simp] theorem pendingsAfterAbort_frame (s : State) :
    (pendingsAfterAbort s).cfg = s.cfg ∧ (pendingsAfterAbort s).cru = s.cru ∧ (pendingsAfterAbort s).lsu = s.lsu ∧
    (pendingsAfterAbort s).lbp = s.lbp ∧ (pendingsAfterAbort s).pins = s.pins ∧ (pendingsAfterAbort s).now = s.now ∧
    (pendingsAfterAbort s).pending = s.pending ∧ (pendingsAfterAbort s).psu.count = s.psu.count ∧
    (pendingsAfterAbort s).psu.countPrev = s.psu.countPrev ∧ (pendingsAfterAbort s).psu.pRef = s.psu.pRef ∧
    (pendingsAfterAbort s).psu.countRef = s.psu.countRef ∧ (pendingsAfterAbort s).psu.ref = s.psu.ref ∧
    (pendingsAfterAbort s).psu.expected = s.psu.expected ∧
    (pendingsAfterAbort s).psu.sampleTimer = s.psu.sampleTimer ∧ (pendingsAfterAbort s).psu.vEval = s.psu.vEval ∧
    (pendingsAfterAbort s).psu.vRope = s.psu.vRope ∧ (pendingsAfterAbort s).psu.ropeDir = s.psu.ropeDir ∧
    (pendingsAfterAbort s).psu.travelDir = s.psu.travelDir ∧
    (pendingsAfterAbort s).psu.stillCount = s.psu.stillCount ∧ (pendingsAfterAbort s).psu.still = s.psu.still ∧
    (pendingsAfterAbort s).psu.armed = s.psu.armed ∧ (pendingsAfterAbort s).clc.c = s.clc.c ∧
    (pendingsAfterAbort s).clc.w1 = s.clc.w1 ∧ (pendingsAfterAbort s).clc.s = s.clc.s ∧
    (pendingsAfterAbort s).clc.e = s.clc.e ∧ (pendingsAfterAbort s).clc.vdrv = s.clc.vdrv ∧
    (pendingsAfterAbort s).trc.drvMode = s.trc.drvMode ∧ (pendingsAfterAbort s).trc.conMode = s.trc.conMode ∧
    (pendingsAfterAbort s).trc.effMode = s.trc.effMode ∧ (pendingsAfterAbort s).trc.debounced = s.trc.debounced ∧
    (pendingsAfterAbort s).trc.elapsed = s.trc.elapsed ∧ (pendingsAfterAbort s).niu.resetCauses = s.niu.resetCauses := by
  and_intros <;>
    (unfold pendingsAfterAbort; (try dsimp only); (repeat' split) <;> (try simp) <;> (try with_reducible rfl))

@[simp] theorem abortAndTest_frame (cause : AbortCause) (s : State) :
    (abortAndTest cause s).cfg = s.cfg ∧ (abortAndTest cause s).cru = s.cru ∧ (abortAndTest cause s).lsu = s.lsu ∧
    (abortAndTest cause s).lbp = s.lbp ∧ (abortAndTest cause s).pins = s.pins ∧ (abortAndTest cause s).now = s.now ∧
    (abortAndTest cause s).pending = s.pending ∧ (abortAndTest cause s).psu.count = s.psu.count ∧
    (abortAndTest cause s).psu.countPrev = s.psu.countPrev ∧ (abortAndTest cause s).psu.pRef = s.psu.pRef ∧
    (abortAndTest cause s).psu.countRef = s.psu.countRef ∧ (abortAndTest cause s).psu.ref = s.psu.ref ∧
    (abortAndTest cause s).psu.expected = s.psu.expected ∧
    (abortAndTest cause s).psu.sampleTimer = s.psu.sampleTimer ∧ (abortAndTest cause s).psu.vEval = s.psu.vEval ∧
    (abortAndTest cause s).psu.vRope = s.psu.vRope ∧ (abortAndTest cause s).psu.ropeDir = s.psu.ropeDir ∧
    (abortAndTest cause s).psu.travelDir = s.psu.travelDir ∧
    (abortAndTest cause s).psu.stillCount = s.psu.stillCount ∧ (abortAndTest cause s).psu.still = s.psu.still ∧
    (abortAndTest cause s).psu.armed = s.psu.armed ∧ (abortAndTest cause s).clc.c = s.clc.c ∧
    (abortAndTest cause s).clc.w1 = s.clc.w1 ∧ (abortAndTest cause s).clc.s = s.clc.s ∧
    (abortAndTest cause s).clc.e = s.clc.e ∧ (abortAndTest cause s).clc.vdrv = s.clc.vdrv ∧
    (abortAndTest cause s).trc.drvMode = s.trc.drvMode ∧ (abortAndTest cause s).trc.conMode = s.trc.conMode ∧
    (abortAndTest cause s).trc.effMode = s.trc.effMode ∧ (abortAndTest cause s).trc.debounced = s.trc.debounced ∧
    (abortAndTest cause s).trc.elapsed = s.trc.elapsed ∧ (abortAndTest cause s).niu.resetCauses = s.niu.resetCauses := by
  and_intros <;>
    (unfold abortAndTest; (try dsimp only); (repeat' split) <;> (try simp) <;> (try with_reducible rfl))

@[simp] theorem takeTrigger_frame (id : SlotId) (r : TripReq) (s : State) :
    (takeTrigger id r s).cfg = s.cfg ∧ (takeTrigger id r s).cru = s.cru ∧ (takeTrigger id r s).lsu = s.lsu ∧
    (takeTrigger id r s).lbp = s.lbp ∧ (takeTrigger id r s).pins = s.pins ∧ (takeTrigger id r s).now = s.now ∧
    (takeTrigger id r s).pending = s.pending ∧ (takeTrigger id r s).psu.count = s.psu.count ∧
    (takeTrigger id r s).psu.countPrev = s.psu.countPrev ∧ (takeTrigger id r s).psu.pRef = s.psu.pRef ∧
    (takeTrigger id r s).psu.countRef = s.psu.countRef ∧ (takeTrigger id r s).psu.ref = s.psu.ref ∧
    (takeTrigger id r s).psu.expected = s.psu.expected ∧ (takeTrigger id r s).psu.sampleTimer = s.psu.sampleTimer ∧
    (takeTrigger id r s).psu.vEval = s.psu.vEval ∧ (takeTrigger id r s).psu.vRope = s.psu.vRope ∧
    (takeTrigger id r s).psu.ropeDir = s.psu.ropeDir ∧ (takeTrigger id r s).psu.travelDir = s.psu.travelDir ∧
    (takeTrigger id r s).psu.stillCount = s.psu.stillCount ∧ (takeTrigger id r s).psu.still = s.psu.still ∧
    (takeTrigger id r s).psu.armed = s.psu.armed ∧ (takeTrigger id r s).clc.c = s.clc.c ∧
    (takeTrigger id r s).clc.w1 = s.clc.w1 ∧ (takeTrigger id r s).clc.s = s.clc.s ∧
    (takeTrigger id r s).clc.e = s.clc.e ∧ (takeTrigger id r s).clc.vdrv = s.clc.vdrv ∧
    (takeTrigger id r s).trc.drvMode = s.trc.drvMode ∧ (takeTrigger id r s).trc.conMode = s.trc.conMode ∧
    (takeTrigger id r s).trc.effMode = s.trc.effMode ∧ (takeTrigger id r s).trc.debounced = s.trc.debounced ∧
    (takeTrigger id r s).trc.elapsed = s.trc.elapsed ∧ (takeTrigger id r s).niu.resetCauses = s.niu.resetCauses := by
  and_intros <;>
    (unfold takeTrigger; (try dsimp only); (repeat' split) <;> (try simp) <;> (try with_reducible rfl))

@[simp] theorem takeEvent_frame (t : Trigger) (id : SlotId) (s : State) :
    (takeEvent t id s).cfg = s.cfg ∧ (takeEvent t id s).cru = s.cru ∧ (takeEvent t id s).lsu = s.lsu ∧
    (takeEvent t id s).lbp = s.lbp ∧ (takeEvent t id s).pins = s.pins ∧ (takeEvent t id s).now = s.now ∧
    (takeEvent t id s).pending = s.pending ∧ (takeEvent t id s).psu.count = s.psu.count ∧
    (takeEvent t id s).psu.countPrev = s.psu.countPrev ∧ (takeEvent t id s).psu.pRef = s.psu.pRef ∧
    (takeEvent t id s).psu.countRef = s.psu.countRef ∧ (takeEvent t id s).psu.ref = s.psu.ref ∧
    (takeEvent t id s).psu.expected = s.psu.expected ∧ (takeEvent t id s).psu.sampleTimer = s.psu.sampleTimer ∧
    (takeEvent t id s).psu.vEval = s.psu.vEval ∧ (takeEvent t id s).psu.vRope = s.psu.vRope ∧
    (takeEvent t id s).psu.ropeDir = s.psu.ropeDir ∧ (takeEvent t id s).psu.travelDir = s.psu.travelDir ∧
    (takeEvent t id s).psu.stillCount = s.psu.stillCount ∧ (takeEvent t id s).psu.still = s.psu.still ∧
    (takeEvent t id s).psu.armed = s.psu.armed ∧ (takeEvent t id s).clc.c = s.clc.c ∧
    (takeEvent t id s).clc.w1 = s.clc.w1 ∧ (takeEvent t id s).clc.s = s.clc.s ∧ (takeEvent t id s).clc.e = s.clc.e ∧
    (takeEvent t id s).clc.vdrv = s.clc.vdrv ∧ (takeEvent t id s).trc.drvMode = s.trc.drvMode ∧
    (takeEvent t id s).trc.conMode = s.trc.conMode ∧ (takeEvent t id s).trc.effMode = s.trc.effMode ∧
    (takeEvent t id s).trc.debounced = s.trc.debounced ∧ (takeEvent t id s).trc.elapsed = s.trc.elapsed ∧
    (takeEvent t id s).niu.resetCauses = s.niu.resetCauses := by
  and_intros <;>
    (unfold takeEvent; (try dsimp only); (repeat' split) <;> (try simp) <;> (try with_reducible rfl))

@[simp] theorem atDwellExpiry_frame (id : SlotId) (s : State) :
    (atDwellExpiry id s).cfg = s.cfg ∧ (atDwellExpiry id s).cru = s.cru ∧ (atDwellExpiry id s).lsu = s.lsu ∧
    (atDwellExpiry id s).lbp = s.lbp ∧ (atDwellExpiry id s).pins = s.pins ∧ (atDwellExpiry id s).now = s.now ∧
    (atDwellExpiry id s).pending = s.pending ∧ (atDwellExpiry id s).psu.count = s.psu.count ∧
    (atDwellExpiry id s).psu.countPrev = s.psu.countPrev ∧ (atDwellExpiry id s).psu.pRef = s.psu.pRef ∧
    (atDwellExpiry id s).psu.countRef = s.psu.countRef ∧ (atDwellExpiry id s).psu.ref = s.psu.ref ∧
    (atDwellExpiry id s).psu.expected = s.psu.expected ∧ (atDwellExpiry id s).psu.sampleTimer = s.psu.sampleTimer ∧
    (atDwellExpiry id s).psu.vEval = s.psu.vEval ∧ (atDwellExpiry id s).psu.vRope = s.psu.vRope ∧
    (atDwellExpiry id s).psu.ropeDir = s.psu.ropeDir ∧ (atDwellExpiry id s).psu.travelDir = s.psu.travelDir ∧
    (atDwellExpiry id s).psu.stillCount = s.psu.stillCount ∧ (atDwellExpiry id s).psu.still = s.psu.still ∧
    (atDwellExpiry id s).psu.armed = s.psu.armed ∧ (atDwellExpiry id s).clc.c = s.clc.c ∧
    (atDwellExpiry id s).clc.w1 = s.clc.w1 ∧ (atDwellExpiry id s).clc.s = s.clc.s ∧
    (atDwellExpiry id s).clc.e = s.clc.e ∧ (atDwellExpiry id s).clc.vdrv = s.clc.vdrv ∧
    (atDwellExpiry id s).trc.drvMode = s.trc.drvMode ∧ (atDwellExpiry id s).trc.conMode = s.trc.conMode ∧
    (atDwellExpiry id s).trc.effMode = s.trc.effMode ∧ (atDwellExpiry id s).trc.debounced = s.trc.debounced ∧
    (atDwellExpiry id s).trc.elapsed = s.trc.elapsed ∧ (atDwellExpiry id s).niu.resetCauses = s.niu.resetCauses := by
  and_intros <;>
    (unfold atDwellExpiry; (try dsimp only); (repeat' split) <;> (try simp) <;> (try with_reducible rfl))

@[simp] theorem completeTrip_frame (s : State) :
    (completeTrip s).cfg = s.cfg ∧ (completeTrip s).cru = s.cru ∧ (completeTrip s).lsu = s.lsu ∧
    (completeTrip s).lbp = s.lbp ∧ (completeTrip s).pins = s.pins ∧ (completeTrip s).now = s.now ∧
    (completeTrip s).pending = s.pending ∧ (completeTrip s).psu.count = s.psu.count ∧
    (completeTrip s).psu.countPrev = s.psu.countPrev ∧ (completeTrip s).psu.pRef = s.psu.pRef ∧
    (completeTrip s).psu.countRef = s.psu.countRef ∧ (completeTrip s).psu.ref = s.psu.ref ∧
    (completeTrip s).psu.expected = s.psu.expected ∧ (completeTrip s).psu.sampleTimer = s.psu.sampleTimer ∧
    (completeTrip s).psu.vEval = s.psu.vEval ∧ (completeTrip s).psu.vRope = s.psu.vRope ∧
    (completeTrip s).psu.ropeDir = s.psu.ropeDir ∧ (completeTrip s).psu.travelDir = s.psu.travelDir ∧
    (completeTrip s).psu.stillCount = s.psu.stillCount ∧ (completeTrip s).psu.still = s.psu.still ∧
    (completeTrip s).psu.armed = s.psu.armed ∧ (completeTrip s).clc.c = s.clc.c ∧ (completeTrip s).clc.w1 = s.clc.w1 ∧
    (completeTrip s).clc.s = s.clc.s ∧ (completeTrip s).clc.e = s.clc.e ∧ (completeTrip s).clc.vdrv = s.clc.vdrv ∧
    (completeTrip s).brs.stage = s.brs.stage ∧ (completeTrip s).brs.causes = s.brs.causes ∧
    (completeTrip s).brs.sbFb = s.brs.sbFb ∧ (completeTrip s).brs.ebFb = s.brs.ebFb ∧
    (completeTrip s).brs.lastRefresh = s.brs.lastRefresh ∧
    (completeTrip s).brs.overspeedCount = s.brs.overspeedCount ∧ (completeTrip s).brs.warnArmed = s.brs.warnArmed ∧
    (completeTrip s).brs.effectiveness = s.brs.effectiveness ∧ (completeTrip s).trc.drvMode = s.trc.drvMode ∧
    (completeTrip s).trc.conMode = s.trc.conMode ∧ (completeTrip s).trc.effMode = s.trc.effMode ∧
    (completeTrip s).trc.trip.number = s.trc.trip.number ∧ (completeTrip s).trc.trip.origin = s.trc.trip.origin ∧
    (completeTrip s).trc.trip.destination = s.trc.trip.destination ∧
    (completeTrip s).trc.trip.direction = s.trc.trip.direction ∧ (completeTrip s).trc.trip.owner = s.trc.trip.owner ∧
    (completeTrip s).trc.trip.lastDir = s.trc.trip.lastDir ∧ (completeTrip s).trc.frozen = s.trc.frozen ∧
    (completeTrip s).trc.debounced = s.trc.debounced ∧ (completeTrip s).dri.evac = s.dri.evac ∧
    (completeTrip s).dri.maint = s.dri.maint ∧ (completeTrip s).niu.incidents = s.niu.incidents ∧
    (completeTrip s).niu.overflow = s.niu.overflow ∧ (completeTrip s).niu.seq = s.niu.seq ∧
    (completeTrip s).niu.resetCauses = s.niu.resetCauses := by
  and_intros <;>
    (unfold completeTrip; (try dsimp only); (repeat' split) <;> (try simp) <;> (try with_reducible rfl))

@[simp] theorem endBraking_frame (s : State) :
    (endBraking s).cfg = s.cfg ∧ (endBraking s).cru = s.cru ∧ (endBraking s).lsu = s.lsu ∧
    (endBraking s).lbp = s.lbp ∧ (endBraking s).pins = s.pins ∧ (endBraking s).now = s.now ∧
    (endBraking s).pending = s.pending ∧ (endBraking s).psu.count = s.psu.count ∧
    (endBraking s).psu.countPrev = s.psu.countPrev ∧ (endBraking s).psu.pRef = s.psu.pRef ∧
    (endBraking s).psu.countRef = s.psu.countRef ∧ (endBraking s).psu.ref = s.psu.ref ∧
    (endBraking s).psu.expected = s.psu.expected ∧ (endBraking s).psu.sampleTimer = s.psu.sampleTimer ∧
    (endBraking s).psu.vEval = s.psu.vEval ∧ (endBraking s).psu.vRope = s.psu.vRope ∧
    (endBraking s).psu.ropeDir = s.psu.ropeDir ∧ (endBraking s).psu.travelDir = s.psu.travelDir ∧
    (endBraking s).psu.stillCount = s.psu.stillCount ∧ (endBraking s).psu.still = s.psu.still ∧
    (endBraking s).psu.armed = s.psu.armed ∧ (endBraking s).clc.c = s.clc.c ∧ (endBraking s).clc.w1 = s.clc.w1 ∧
    (endBraking s).clc.s = s.clc.s ∧ (endBraking s).clc.e = s.clc.e ∧ (endBraking s).clc.vdrv = s.clc.vdrv ∧
    (endBraking s).brs.stage = s.brs.stage ∧ (endBraking s).brs.causes = s.brs.causes ∧
    (endBraking s).brs.sbFb = s.brs.sbFb ∧ (endBraking s).brs.ebFb = s.brs.ebFb ∧
    (endBraking s).brs.lastRefresh = s.brs.lastRefresh ∧ (endBraking s).brs.overspeedCount = s.brs.overspeedCount ∧
    (endBraking s).brs.warnArmed = s.brs.warnArmed ∧ (endBraking s).brs.effectiveness = s.brs.effectiveness ∧
    (endBraking s).trc.drvMode = s.trc.drvMode ∧ (endBraking s).trc.conMode = s.trc.conMode ∧
    (endBraking s).trc.effMode = s.trc.effMode ∧ (endBraking s).trc.trip.number = s.trc.trip.number ∧
    (endBraking s).trc.trip.origin = s.trc.trip.origin ∧
    (endBraking s).trc.trip.destination = s.trc.trip.destination ∧
    (endBraking s).trc.trip.direction = s.trc.trip.direction ∧ (endBraking s).trc.trip.owner = s.trc.trip.owner ∧
    (endBraking s).trc.trip.lastDir = s.trc.trip.lastDir ∧ (endBraking s).trc.frozen = s.trc.frozen ∧
    (endBraking s).trc.debounced = s.trc.debounced ∧ (endBraking s).dri.evac = s.dri.evac ∧
    (endBraking s).dri.maint = s.dri.maint ∧ (endBraking s).niu.incidents = s.niu.incidents ∧
    (endBraking s).niu.overflow = s.niu.overflow ∧ (endBraking s).niu.seq = s.niu.seq ∧
    (endBraking s).niu.resetCauses = s.niu.resetCauses := by
  and_intros <;>
    (unfold endBraking; (try dsimp only); (repeat' split) <;> (try simp) <;> (try with_reducible rfl))

@[simp] theorem evaluateMode_frame (s : State) :
    (evaluateMode s).cfg = s.cfg ∧ (evaluateMode s).cru = s.cru ∧ (evaluateMode s).psu = s.psu ∧
    (evaluateMode s).clc = s.clc ∧ (evaluateMode s).brs = s.brs ∧ (evaluateMode s).dri = s.dri ∧
    (evaluateMode s).adm = s.adm ∧ (evaluateMode s).lsu = s.lsu ∧ (evaluateMode s).lbp = s.lbp ∧
    (evaluateMode s).pins = s.pins ∧ (evaluateMode s).now = s.now ∧ (evaluateMode s).pending = s.pending ∧
    (evaluateMode s).trc.state = s.trc.state ∧ (evaluateMode s).trc.slot0 = s.trc.slot0 ∧
    (evaluateMode s).trc.slot1 = s.trc.slot1 ∧ (evaluateMode s).trc.drvMode = s.trc.drvMode ∧
    (evaluateMode s).trc.conMode = s.trc.conMode ∧ (evaluateMode s).trc.trip = s.trc.trip ∧
    (evaluateMode s).trc.frozen = s.trc.frozen ∧ (evaluateMode s).trc.debounced = s.trc.debounced ∧
    (evaluateMode s).trc.minDwell = s.trc.minDwell ∧ (evaluateMode s).trc.elapsed = s.trc.elapsed ∧
    (evaluateMode s).trc.settleTimer = s.trc.settleTimer ∧ (evaluateMode s).niu.incidents = s.niu.incidents ∧
    (evaluateMode s).niu.overflow = s.niu.overflow ∧ (evaluateMode s).niu.seq = s.niu.seq ∧
    (evaluateMode s).niu.resetCauses = s.niu.resetCauses := by
  and_intros <;>
    (unfold evaluateMode; (try dsimp only); (repeat' split) <;> (try simp) <;> (try with_reducible rfl))

@[simp] theorem emptyReservations_frame (s : State) :
    (emptyReservations s).cfg = s.cfg ∧ (emptyReservations s).cru = s.cru ∧ (emptyReservations s).psu = s.psu ∧
    (emptyReservations s).clc = s.clc ∧ (emptyReservations s).brs = s.brs ∧ (emptyReservations s).trc = s.trc ∧
    (emptyReservations s).dri = s.dri ∧ (emptyReservations s).lsu = s.lsu ∧ (emptyReservations s).lbp = s.lbp ∧
    (emptyReservations s).niu = s.niu ∧ (emptyReservations s).pins = s.pins ∧ (emptyReservations s).now = s.now ∧
    (emptyReservations s).pending = s.pending ∧ (emptyReservations s).adm.loads = s.adm.loads ∧
    (emptyReservations s).adm.uncounted = s.adm.uncounted ∧ (emptyReservations s).adm.releaseMark = s.adm.releaseMark := by
  and_intros <;>
    (unfold emptyReservations; (try dsimp only); (repeat' split) <;> (try simp) <;> (try with_reducible rfl))

@[simp] theorem emptySlots_frame (s : State) :
    (emptySlots s).cfg = s.cfg ∧ (emptySlots s).cru = s.cru ∧ (emptySlots s).psu = s.psu ∧
    (emptySlots s).clc = s.clc ∧ (emptySlots s).brs = s.brs ∧ (emptySlots s).dri = s.dri ∧
    (emptySlots s).adm = s.adm ∧ (emptySlots s).lsu = s.lsu ∧ (emptySlots s).lbp = s.lbp ∧
    (emptySlots s).niu = s.niu ∧ (emptySlots s).pins = s.pins ∧ (emptySlots s).now = s.now ∧
    (emptySlots s).pending = s.pending ∧ (emptySlots s).trc.state = s.trc.state ∧
    (emptySlots s).trc.drvMode = s.trc.drvMode ∧ (emptySlots s).trc.conMode = s.trc.conMode ∧
    (emptySlots s).trc.effMode = s.trc.effMode ∧ (emptySlots s).trc.trip = s.trc.trip ∧
    (emptySlots s).trc.frozen = s.trc.frozen ∧ (emptySlots s).trc.debounced = s.trc.debounced ∧
    (emptySlots s).trc.minDwell = s.trc.minDwell ∧ (emptySlots s).trc.elapsed = s.trc.elapsed ∧
    (emptySlots s).trc.settleTimer = s.trc.settleTimer := by
  and_intros <;>
    (unfold emptySlots; (try dsimp only); (repeat' split) <;> (try simp) <;> (try with_reducible rfl))

@[simp] theorem changeLine_frame (new : LineState) (slots : Bool) (s : State) :
    (changeLine new slots s).cfg = s.cfg ∧ (changeLine new slots s).cru = s.cru ∧
    (changeLine new slots s).psu = s.psu ∧ (changeLine new slots s).clc = s.clc ∧
    (changeLine new slots s).brs = s.brs ∧ (changeLine new slots s).lbp = s.lbp ∧
    (changeLine new slots s).pins = s.pins ∧ (changeLine new slots s).now = s.now ∧
    (changeLine new slots s).pending = s.pending ∧ (changeLine new slots s).trc.state = s.trc.state ∧
    (changeLine new slots s).trc.drvMode = s.trc.drvMode ∧ (changeLine new slots s).trc.conMode = s.trc.conMode ∧
    (changeLine new slots s).trc.trip = s.trc.trip ∧ (changeLine new slots s).trc.frozen = s.trc.frozen ∧
    (changeLine new slots s).trc.debounced = s.trc.debounced ∧
    (changeLine new slots s).trc.minDwell = s.trc.minDwell ∧ (changeLine new slots s).trc.elapsed = s.trc.elapsed ∧
    (changeLine new slots s).trc.settleTimer = s.trc.settleTimer ∧ (changeLine new slots s).dri.phase = s.dri.phase ∧
    (changeLine new slots s).dri.leadTimer = s.dri.leadTimer ∧
    (changeLine new slots s).dri.doorTimer = s.dri.doorTimer ∧ (changeLine new slots s).adm.loads = s.adm.loads ∧
    (changeLine new slots s).adm.uncounted = s.adm.uncounted ∧
    (changeLine new slots s).adm.releaseMark = s.adm.releaseMark ∧
    (changeLine new slots s).lsu.clearInInspection = s.lsu.clearInInspection ∧
    (changeLine new slots s).niu.incidents = s.niu.incidents ∧
    (changeLine new slots s).niu.overflow = s.niu.overflow ∧ (changeLine new slots s).niu.seq = s.niu.seq ∧
    (changeLine new slots s).niu.resetCauses = s.niu.resetCauses := by
  and_intros <;>
    (unfold changeLine; (try dsimp only); (repeat' split) <;> (try simp) <;> (try with_reducible rfl))

@[simp] theorem setPos_frame (x : Int) (s : State) :
    (setPos x s).cfg = s.cfg ∧ (setPos x s).cru = s.cru ∧ (setPos x s).clc = s.clc ∧ (setPos x s).brs = s.brs ∧
    (setPos x s).trc = s.trc ∧ (setPos x s).dri = s.dri ∧ (setPos x s).adm = s.adm ∧ (setPos x s).lsu = s.lsu ∧
    (setPos x s).lbp = s.lbp ∧ (setPos x s).niu = s.niu ∧ (setPos x s).pins = s.pins ∧ (setPos x s).now = s.now ∧
    (setPos x s).pending = s.pending ∧ (setPos x s).psu.count = s.psu.count ∧
    (setPos x s).psu.countPrev = s.psu.countPrev ∧ (setPos x s).psu.ref = s.psu.ref ∧
    (setPos x s).psu.expected = s.psu.expected ∧ (setPos x s).psu.sampleTimer = s.psu.sampleTimer ∧
    (setPos x s).psu.vEval = s.psu.vEval ∧ (setPos x s).psu.vRope = s.psu.vRope ∧
    (setPos x s).psu.ropeDir = s.psu.ropeDir ∧ (setPos x s).psu.travelDir = s.psu.travelDir ∧
    (setPos x s).psu.stillCount = s.psu.stillCount ∧ (setPos x s).psu.still = s.psu.still ∧
    (setPos x s).psu.heldCount = s.psu.heldCount ∧ (setPos x s).psu.furthest = s.psu.furthest ∧
    (setPos x s).psu.mismatch = s.psu.mismatch ∧ (setPos x s).psu.armed = s.psu.armed := by
  and_intros <;>
    (unfold setPos; (try dsimp only); (repeat' split) <;> (try simp) <;> (try with_reducible rfl))

@[simp] theorem clearExpected_frame (s : State) :
    (clearExpected s).cfg = s.cfg ∧ (clearExpected s).cru = s.cru ∧ (clearExpected s).clc = s.clc ∧
    (clearExpected s).brs = s.brs ∧ (clearExpected s).trc = s.trc ∧ (clearExpected s).dri = s.dri ∧
    (clearExpected s).adm = s.adm ∧ (clearExpected s).lsu = s.lsu ∧ (clearExpected s).lbp = s.lbp ∧
    (clearExpected s).niu = s.niu ∧ (clearExpected s).pins = s.pins ∧ (clearExpected s).now = s.now ∧
    (clearExpected s).pending = s.pending ∧ (clearExpected s).psu.count = s.psu.count ∧
    (clearExpected s).psu.countPrev = s.psu.countPrev ∧ (clearExpected s).psu.pRef = s.psu.pRef ∧
    (clearExpected s).psu.countRef = s.psu.countRef ∧ (clearExpected s).psu.ref = s.psu.ref ∧
    (clearExpected s).psu.sampleTimer = s.psu.sampleTimer ∧ (clearExpected s).psu.vEval = s.psu.vEval ∧
    (clearExpected s).psu.vRope = s.psu.vRope ∧ (clearExpected s).psu.ropeDir = s.psu.ropeDir ∧
    (clearExpected s).psu.travelDir = s.psu.travelDir ∧ (clearExpected s).psu.stillCount = s.psu.stillCount ∧
    (clearExpected s).psu.still = s.psu.still ∧ (clearExpected s).psu.heldCount = s.psu.heldCount ∧
    (clearExpected s).psu.furthest = s.psu.furthest ∧ (clearExpected s).psu.mismatch = s.psu.mismatch ∧
    (clearExpected s).psu.armed = s.psu.armed := by
  and_intros <;>
    (unfold clearExpected; (try dsimp only); (repeat' split) <;> (try simp) <;> (try with_reducible rfl))

@[simp] theorem setRef_frame (r : RefState) (s : State) :
    (setRef r s).cfg = s.cfg ∧ (setRef r s).cru = s.cru ∧ (setRef r s).clc = s.clc ∧ (setRef r s).brs = s.brs ∧
    (setRef r s).trc = s.trc ∧ (setRef r s).dri = s.dri ∧ (setRef r s).adm = s.adm ∧ (setRef r s).lsu = s.lsu ∧
    (setRef r s).lbp = s.lbp ∧ (setRef r s).niu = s.niu ∧ (setRef r s).pins = s.pins ∧ (setRef r s).now = s.now ∧
    (setRef r s).pending = s.pending ∧ (setRef r s).psu.count = s.psu.count ∧
    (setRef r s).psu.countPrev = s.psu.countPrev ∧ (setRef r s).psu.pRef = s.psu.pRef ∧
    (setRef r s).psu.countRef = s.psu.countRef ∧ (setRef r s).psu.sampleTimer = s.psu.sampleTimer ∧
    (setRef r s).psu.vEval = s.psu.vEval ∧ (setRef r s).psu.vRope = s.psu.vRope ∧
    (setRef r s).psu.ropeDir = s.psu.ropeDir ∧ (setRef r s).psu.travelDir = s.psu.travelDir ∧
    (setRef r s).psu.stillCount = s.psu.stillCount ∧ (setRef r s).psu.still = s.psu.still ∧
    (setRef r s).psu.heldCount = s.psu.heldCount ∧ (setRef r s).psu.furthest = s.psu.furthest ∧
    (setRef r s).psu.mismatch = s.psu.mismatch ∧ (setRef r s).psu.armed = s.psu.armed := by
  and_intros <;>
    (unfold setRef; (try dsimp only); (repeat' split) <;> (try simp) <;> (try with_reducible rfl))

@[simp] theorem withdrawReference_frame (s : State) :
    (withdrawReference s).cfg = s.cfg ∧ (withdrawReference s).cru = s.cru ∧ (withdrawReference s).clc = s.clc ∧
    (withdrawReference s).brs = s.brs ∧ (withdrawReference s).trc = s.trc ∧ (withdrawReference s).dri = s.dri ∧
    (withdrawReference s).adm = s.adm ∧ (withdrawReference s).lsu = s.lsu ∧ (withdrawReference s).lbp = s.lbp ∧
    (withdrawReference s).niu = s.niu ∧ (withdrawReference s).pins = s.pins ∧ (withdrawReference s).now = s.now ∧
    (withdrawReference s).pending = s.pending ∧ (withdrawReference s).psu.count = s.psu.count ∧
    (withdrawReference s).psu.countPrev = s.psu.countPrev ∧ (withdrawReference s).psu.pRef = s.psu.pRef ∧
    (withdrawReference s).psu.countRef = s.psu.countRef ∧ (withdrawReference s).psu.sampleTimer = s.psu.sampleTimer ∧
    (withdrawReference s).psu.vEval = s.psu.vEval ∧ (withdrawReference s).psu.vRope = s.psu.vRope ∧
    (withdrawReference s).psu.ropeDir = s.psu.ropeDir ∧ (withdrawReference s).psu.travelDir = s.psu.travelDir ∧
    (withdrawReference s).psu.stillCount = s.psu.stillCount ∧ (withdrawReference s).psu.still = s.psu.still ∧
    (withdrawReference s).psu.heldCount = s.psu.heldCount ∧ (withdrawReference s).psu.furthest = s.psu.furthest ∧
    (withdrawReference s).psu.mismatch = s.psu.mismatch ∧ (withdrawReference s).psu.armed = s.psu.armed := by
  and_intros <;>
    (unfold withdrawReference; (try dsimp only); (repeat' split) <;> (try simp) <;> (try with_reducible rfl))

@[simp] theorem expectBeyond_frame (c : Car) (x : Int) (s : State) :
    (expectBeyond c x s).cfg = s.cfg ∧ (expectBeyond c x s).cru = s.cru ∧ (expectBeyond c x s).clc = s.clc ∧
    (expectBeyond c x s).brs = s.brs ∧ (expectBeyond c x s).trc = s.trc ∧ (expectBeyond c x s).dri = s.dri ∧
    (expectBeyond c x s).adm = s.adm ∧ (expectBeyond c x s).lsu = s.lsu ∧ (expectBeyond c x s).lbp = s.lbp ∧
    (expectBeyond c x s).niu = s.niu ∧ (expectBeyond c x s).pins = s.pins ∧ (expectBeyond c x s).now = s.now ∧
    (expectBeyond c x s).pending = s.pending ∧ (expectBeyond c x s).psu.count = s.psu.count ∧
    (expectBeyond c x s).psu.countPrev = s.psu.countPrev ∧ (expectBeyond c x s).psu.pRef = s.psu.pRef ∧
    (expectBeyond c x s).psu.countRef = s.psu.countRef ∧ (expectBeyond c x s).psu.ref = s.psu.ref ∧
    (expectBeyond c x s).psu.sampleTimer = s.psu.sampleTimer ∧ (expectBeyond c x s).psu.vEval = s.psu.vEval ∧
    (expectBeyond c x s).psu.vRope = s.psu.vRope ∧ (expectBeyond c x s).psu.ropeDir = s.psu.ropeDir ∧
    (expectBeyond c x s).psu.travelDir = s.psu.travelDir ∧ (expectBeyond c x s).psu.stillCount = s.psu.stillCount ∧
    (expectBeyond c x s).psu.still = s.psu.still ∧ (expectBeyond c x s).psu.heldCount = s.psu.heldCount ∧
    (expectBeyond c x s).psu.furthest = s.psu.furthest ∧ (expectBeyond c x s).psu.mismatch = s.psu.mismatch ∧
    (expectBeyond c x s).psu.armed = s.psu.armed := by
  and_intros <;>
    (unfold expectBeyond; (try dsimp only); (repeat' split) <;> (try simp) <;> (try with_reducible rfl))

@[simp] theorem setAfresh_frame (s : State) :
    (setAfresh s).cfg = s.cfg ∧ (setAfresh s).cru = s.cru ∧ (setAfresh s).clc = s.clc ∧ (setAfresh s).brs = s.brs ∧
    (setAfresh s).trc = s.trc ∧ (setAfresh s).dri = s.dri ∧ (setAfresh s).adm = s.adm ∧ (setAfresh s).lsu = s.lsu ∧
    (setAfresh s).lbp = s.lbp ∧ (setAfresh s).niu = s.niu ∧ (setAfresh s).pins = s.pins ∧ (setAfresh s).now = s.now ∧
    (setAfresh s).pending = s.pending ∧ (setAfresh s).psu.count = s.psu.count ∧
    (setAfresh s).psu.countPrev = s.psu.countPrev ∧ (setAfresh s).psu.pRef = s.psu.pRef ∧
    (setAfresh s).psu.countRef = s.psu.countRef ∧ (setAfresh s).psu.ref = s.psu.ref ∧
    (setAfresh s).psu.sampleTimer = s.psu.sampleTimer ∧ (setAfresh s).psu.vEval = s.psu.vEval ∧
    (setAfresh s).psu.vRope = s.psu.vRope ∧ (setAfresh s).psu.ropeDir = s.psu.ropeDir ∧
    (setAfresh s).psu.travelDir = s.psu.travelDir ∧ (setAfresh s).psu.stillCount = s.psu.stillCount ∧
    (setAfresh s).psu.still = s.psu.still ∧ (setAfresh s).psu.heldCount = s.psu.heldCount ∧
    (setAfresh s).psu.furthest = s.psu.furthest ∧ (setAfresh s).psu.mismatch = s.psu.mismatch ∧
    (setAfresh s).psu.armed = s.psu.armed := by
  and_intros <;>
    (unfold setAfresh; (try dsimp only); (repeat' split) <;> (try simp) <;> (try with_reducible rfl))

@[simp] theorem missMarker_frame (c : Car) (m : Nat) (s : State) :
    (missMarker c m s).cfg = s.cfg ∧ (missMarker c m s).cru = s.cru ∧ (missMarker c m s).lsu = s.lsu ∧
    (missMarker c m s).lbp = s.lbp ∧ (missMarker c m s).pins = s.pins ∧ (missMarker c m s).now = s.now ∧
    (missMarker c m s).pending = s.pending ∧ (missMarker c m s).psu.count = s.psu.count ∧
    (missMarker c m s).psu.countPrev = s.psu.countPrev ∧ (missMarker c m s).psu.pRef = s.psu.pRef ∧
    (missMarker c m s).psu.countRef = s.psu.countRef ∧ (missMarker c m s).psu.ref = s.psu.ref ∧
    (missMarker c m s).psu.sampleTimer = s.psu.sampleTimer ∧ (missMarker c m s).psu.vEval = s.psu.vEval ∧
    (missMarker c m s).psu.vRope = s.psu.vRope ∧ (missMarker c m s).psu.ropeDir = s.psu.ropeDir ∧
    (missMarker c m s).psu.travelDir = s.psu.travelDir ∧ (missMarker c m s).psu.stillCount = s.psu.stillCount ∧
    (missMarker c m s).psu.still = s.psu.still ∧ (missMarker c m s).psu.armed = s.psu.armed ∧
    (missMarker c m s).clc.c = s.clc.c ∧ (missMarker c m s).clc.w1 = s.clc.w1 ∧ (missMarker c m s).clc.s = s.clc.s ∧
    (missMarker c m s).clc.e = s.clc.e ∧ (missMarker c m s).clc.vdrv = s.clc.vdrv ∧
    (missMarker c m s).trc.drvMode = s.trc.drvMode ∧ (missMarker c m s).trc.conMode = s.trc.conMode ∧
    (missMarker c m s).trc.effMode = s.trc.effMode ∧ (missMarker c m s).trc.trip.number = s.trc.trip.number ∧
    (missMarker c m s).trc.trip.origin = s.trc.trip.origin ∧
    (missMarker c m s).trc.trip.destination = s.trc.trip.destination ∧
    (missMarker c m s).trc.trip.direction = s.trc.trip.direction ∧
    (missMarker c m s).trc.trip.owner = s.trc.trip.owner ∧ (missMarker c m s).trc.trip.lastDir = s.trc.trip.lastDir ∧
    (missMarker c m s).trc.frozen = s.trc.frozen ∧ (missMarker c m s).trc.debounced = s.trc.debounced ∧
    (missMarker c m s).trc.elapsed = s.trc.elapsed ∧ (missMarker c m s).niu.resetCauses = s.niu.resetCauses := by
  and_intros <;>
    (unfold missMarker; (try dsimp only); (repeat' split) <;> (try simp) <;> (try with_reducible rfl))

@[simp] theorem passExpected_frame (c : Car) (m : Nat) (s : State) :
    (passExpected c m s).cfg = s.cfg ∧ (passExpected c m s).cru = s.cru ∧ (passExpected c m s).lsu = s.lsu ∧
    (passExpected c m s).lbp = s.lbp ∧ (passExpected c m s).pins = s.pins ∧ (passExpected c m s).now = s.now ∧
    (passExpected c m s).pending = s.pending ∧ (passExpected c m s).psu.count = s.psu.count ∧
    (passExpected c m s).psu.countPrev = s.psu.countPrev ∧ (passExpected c m s).psu.pRef = s.psu.pRef ∧
    (passExpected c m s).psu.countRef = s.psu.countRef ∧ (passExpected c m s).psu.ref = s.psu.ref ∧
    (passExpected c m s).psu.sampleTimer = s.psu.sampleTimer ∧ (passExpected c m s).psu.vEval = s.psu.vEval ∧
    (passExpected c m s).psu.vRope = s.psu.vRope ∧ (passExpected c m s).psu.ropeDir = s.psu.ropeDir ∧
    (passExpected c m s).psu.travelDir = s.psu.travelDir ∧ (passExpected c m s).psu.stillCount = s.psu.stillCount ∧
    (passExpected c m s).psu.still = s.psu.still ∧ (passExpected c m s).psu.armed = s.psu.armed ∧
    (passExpected c m s).clc.c = s.clc.c ∧ (passExpected c m s).clc.w1 = s.clc.w1 ∧
    (passExpected c m s).clc.s = s.clc.s ∧ (passExpected c m s).clc.e = s.clc.e ∧
    (passExpected c m s).clc.vdrv = s.clc.vdrv ∧ (passExpected c m s).trc.drvMode = s.trc.drvMode ∧
    (passExpected c m s).trc.conMode = s.trc.conMode ∧ (passExpected c m s).trc.effMode = s.trc.effMode ∧
    (passExpected c m s).trc.trip.number = s.trc.trip.number ∧
    (passExpected c m s).trc.trip.origin = s.trc.trip.origin ∧
    (passExpected c m s).trc.trip.destination = s.trc.trip.destination ∧
    (passExpected c m s).trc.trip.direction = s.trc.trip.direction ∧
    (passExpected c m s).trc.trip.owner = s.trc.trip.owner ∧
    (passExpected c m s).trc.trip.lastDir = s.trc.trip.lastDir ∧ (passExpected c m s).trc.frozen = s.trc.frozen ∧
    (passExpected c m s).trc.debounced = s.trc.debounced ∧ (passExpected c m s).trc.elapsed = s.trc.elapsed ∧
    (passExpected c m s).niu.resetCauses = s.niu.resetCauses := by
  and_intros <;>
    (unfold passExpected; (try dsimp only); (repeat' split) <;> (try simp) <;> (try with_reducible rfl))

@[simp] theorem becomeReferenced_frame (s : State) :
    (becomeReferenced s).cfg = s.cfg ∧ (becomeReferenced s).cru = s.cru ∧ (becomeReferenced s).clc = s.clc ∧
    (becomeReferenced s).brs = s.brs ∧ (becomeReferenced s).trc = s.trc ∧ (becomeReferenced s).dri = s.dri ∧
    (becomeReferenced s).adm = s.adm ∧ (becomeReferenced s).lsu = s.lsu ∧ (becomeReferenced s).lbp = s.lbp ∧
    (becomeReferenced s).niu = s.niu ∧ (becomeReferenced s).pins = s.pins ∧ (becomeReferenced s).now = s.now ∧
    (becomeReferenced s).pending = s.pending ∧ (becomeReferenced s).psu.count = s.psu.count ∧
    (becomeReferenced s).psu.countPrev = s.psu.countPrev ∧ (becomeReferenced s).psu.pRef = s.psu.pRef ∧
    (becomeReferenced s).psu.countRef = s.psu.countRef ∧ (becomeReferenced s).psu.sampleTimer = s.psu.sampleTimer ∧
    (becomeReferenced s).psu.vEval = s.psu.vEval ∧ (becomeReferenced s).psu.vRope = s.psu.vRope ∧
    (becomeReferenced s).psu.ropeDir = s.psu.ropeDir ∧ (becomeReferenced s).psu.travelDir = s.psu.travelDir ∧
    (becomeReferenced s).psu.stillCount = s.psu.stillCount ∧ (becomeReferenced s).psu.still = s.psu.still ∧
    (becomeReferenced s).psu.heldCount = s.psu.heldCount ∧ (becomeReferenced s).psu.furthest = s.psu.furthest ∧
    (becomeReferenced s).psu.mismatch = s.psu.mismatch ∧ (becomeReferenced s).psu.armed = s.psu.armed := by
  and_intros <;>
    (unfold becomeReferenced; (try dsimp only); (repeat' split) <;> (try simp) <;> (try with_reducible rfl))

@[simp] theorem markerPass_frame (c : Car) (m : Nat) (s : State) :
    (markerPass c m s).cfg = s.cfg ∧ (markerPass c m s).cru = s.cru ∧ (markerPass c m s).lsu = s.lsu ∧
    (markerPass c m s).lbp = s.lbp ∧ (markerPass c m s).pins = s.pins ∧ (markerPass c m s).now = s.now ∧
    (markerPass c m s).pending = s.pending ∧ (markerPass c m s).psu.count = s.psu.count ∧
    (markerPass c m s).psu.countPrev = s.psu.countPrev ∧ (markerPass c m s).psu.sampleTimer = s.psu.sampleTimer ∧
    (markerPass c m s).psu.vEval = s.psu.vEval ∧ (markerPass c m s).psu.vRope = s.psu.vRope ∧
    (markerPass c m s).psu.ropeDir = s.psu.ropeDir ∧ (markerPass c m s).psu.travelDir = s.psu.travelDir ∧
    (markerPass c m s).psu.stillCount = s.psu.stillCount ∧ (markerPass c m s).psu.still = s.psu.still ∧
    (markerPass c m s).psu.armed = s.psu.armed ∧ (markerPass c m s).clc.c = s.clc.c ∧
    (markerPass c m s).clc.w1 = s.clc.w1 ∧ (markerPass c m s).clc.s = s.clc.s ∧ (markerPass c m s).clc.e = s.clc.e ∧
    (markerPass c m s).clc.vdrv = s.clc.vdrv ∧ (markerPass c m s).trc.drvMode = s.trc.drvMode ∧
    (markerPass c m s).trc.conMode = s.trc.conMode ∧ (markerPass c m s).trc.effMode = s.trc.effMode ∧
    (markerPass c m s).trc.trip.number = s.trc.trip.number ∧ (markerPass c m s).trc.trip.origin = s.trc.trip.origin ∧
    (markerPass c m s).trc.trip.destination = s.trc.trip.destination ∧
    (markerPass c m s).trc.trip.direction = s.trc.trip.direction ∧
    (markerPass c m s).trc.trip.owner = s.trc.trip.owner ∧ (markerPass c m s).trc.trip.lastDir = s.trc.trip.lastDir ∧
    (markerPass c m s).trc.frozen = s.trc.frozen ∧ (markerPass c m s).trc.debounced = s.trc.debounced ∧
    (markerPass c m s).trc.elapsed = s.trc.elapsed ∧ (markerPass c m s).niu.resetCauses = s.niu.resetCauses := by
  and_intros <;>
    (unfold markerPass; (try dsimp only); (repeat' split) <;> (try simp) <;> (try with_reducible rfl))

@[simp] theorem sampleSpeed_frame (s : State) :
    (sampleSpeed s).cfg = s.cfg ∧ (sampleSpeed s).cru = s.cru ∧ (sampleSpeed s).clc = s.clc ∧
    (sampleSpeed s).brs = s.brs ∧ (sampleSpeed s).trc = s.trc ∧ (sampleSpeed s).dri = s.dri ∧
    (sampleSpeed s).adm = s.adm ∧ (sampleSpeed s).lsu = s.lsu ∧ (sampleSpeed s).lbp = s.lbp ∧
    (sampleSpeed s).niu = s.niu ∧ (sampleSpeed s).pins = s.pins ∧ (sampleSpeed s).now = s.now ∧
    (sampleSpeed s).pending = s.pending ∧ (sampleSpeed s).psu.count = s.psu.count ∧
    (sampleSpeed s).psu.pRef = s.psu.pRef ∧ (sampleSpeed s).psu.countRef = s.psu.countRef ∧
    (sampleSpeed s).psu.ref = s.psu.ref ∧ (sampleSpeed s).psu.stillCount = s.psu.stillCount ∧
    (sampleSpeed s).psu.still = s.psu.still ∧ (sampleSpeed s).psu.heldCount = s.psu.heldCount ∧
    (sampleSpeed s).psu.furthest = s.psu.furthest ∧ (sampleSpeed s).psu.mismatch = s.psu.mismatch ∧
    (sampleSpeed s).psu.armed = s.psu.armed := by
  and_intros <;>
    (unfold sampleSpeed; (try dsimp only); (repeat' split) <;> (try simp) <;> (try with_reducible rfl))

@[simp] theorem confirmStill_frame (s : State) :
    (confirmStill s).cfg = s.cfg ∧ (confirmStill s).cru = s.cru ∧ (confirmStill s).clc = s.clc ∧
    (confirmStill s).trc = s.trc ∧ (confirmStill s).dri = s.dri ∧ (confirmStill s).adm = s.adm ∧
    (confirmStill s).lsu = s.lsu ∧ (confirmStill s).lbp = s.lbp ∧ (confirmStill s).niu = s.niu ∧
    (confirmStill s).pins = s.pins ∧ (confirmStill s).now = s.now ∧ (confirmStill s).pending = s.pending ∧
    (confirmStill s).psu.count = s.psu.count ∧ (confirmStill s).psu.countPrev = s.psu.countPrev ∧
    (confirmStill s).psu.pRef = s.psu.pRef ∧ (confirmStill s).psu.countRef = s.psu.countRef ∧
    (confirmStill s).psu.ref = s.psu.ref ∧ (confirmStill s).psu.sampleTimer = s.psu.sampleTimer ∧
    (confirmStill s).psu.vEval = s.psu.vEval ∧ (confirmStill s).psu.vRope = s.psu.vRope ∧
    (confirmStill s).psu.ropeDir = s.psu.ropeDir ∧ (confirmStill s).psu.travelDir = s.psu.travelDir ∧
    (confirmStill s).psu.stillCount = s.psu.stillCount ∧ (confirmStill s).psu.furthest = s.psu.furthest ∧
    (confirmStill s).psu.mismatch = s.psu.mismatch ∧ (confirmStill s).psu.armed = s.psu.armed ∧
    (confirmStill s).brs.stage = s.brs.stage ∧ (confirmStill s).brs.causes = s.brs.causes ∧
    (confirmStill s).brs.drivePermit = s.brs.drivePermit ∧ (confirmStill s).brs.sbHoldoff = s.brs.sbHoldoff ∧
    (confirmStill s).brs.ebHoldoff = s.brs.ebHoldoff ∧ (confirmStill s).brs.sbFb = s.brs.sbFb ∧
    (confirmStill s).brs.ebFb = s.brs.ebFb ∧ (confirmStill s).brs.lastRefresh = s.brs.lastRefresh ∧
    (confirmStill s).brs.overspeedCount = s.brs.overspeedCount ∧ (confirmStill s).brs.warnArmed = s.brs.warnArmed ∧
    (confirmStill s).brs.refreshTimer = s.brs.refreshTimer ∧ (confirmStill s).brs.releaseWait = s.brs.releaseWait ∧
    (confirmStill s).brs.sbApply = s.brs.sbApply ∧ (confirmStill s).brs.ebApply = s.brs.ebApply := by
  and_intros <;>
    (unfold confirmStill; (try dsimp only); (repeat' split) <;> (try simp) <;> (try with_reducible rfl))

@[simp] theorem loseStill_frame (s : State) :
    (loseStill s).cfg = s.cfg ∧ (loseStill s).cru = s.cru ∧ (loseStill s).clc = s.clc ∧ (loseStill s).brs = s.brs ∧
    (loseStill s).trc = s.trc ∧ (loseStill s).dri = s.dri ∧ (loseStill s).adm = s.adm ∧ (loseStill s).lsu = s.lsu ∧
    (loseStill s).lbp = s.lbp ∧ (loseStill s).niu = s.niu ∧ (loseStill s).pins = s.pins ∧ (loseStill s).now = s.now ∧
    (loseStill s).pending = s.pending ∧ (loseStill s).psu.count = s.psu.count ∧
    (loseStill s).psu.countPrev = s.psu.countPrev ∧ (loseStill s).psu.pRef = s.psu.pRef ∧
    (loseStill s).psu.countRef = s.psu.countRef ∧ (loseStill s).psu.ref = s.psu.ref ∧
    (loseStill s).psu.sampleTimer = s.psu.sampleTimer ∧ (loseStill s).psu.vEval = s.psu.vEval ∧
    (loseStill s).psu.vRope = s.psu.vRope ∧ (loseStill s).psu.ropeDir = s.psu.ropeDir ∧
    (loseStill s).psu.travelDir = s.psu.travelDir ∧ (loseStill s).psu.stillCount = s.psu.stillCount ∧
    (loseStill s).psu.heldCount = s.psu.heldCount ∧ (loseStill s).psu.furthest = s.psu.furthest ∧
    (loseStill s).psu.mismatch = s.psu.mismatch ∧ (loseStill s).psu.armed = s.psu.armed := by
  and_intros <;>
    (unfold loseStill; (try dsimp only); (repeat' split) <;> (try simp) <;> (try with_reducible rfl))

@[simp] theorem updateStill_frame (s : State) :
    (updateStill s).cfg = s.cfg ∧ (updateStill s).cru = s.cru ∧ (updateStill s).clc = s.clc ∧
    (updateStill s).trc = s.trc ∧ (updateStill s).dri = s.dri ∧ (updateStill s).adm = s.adm ∧
    (updateStill s).lsu = s.lsu ∧ (updateStill s).lbp = s.lbp ∧ (updateStill s).niu = s.niu ∧
    (updateStill s).pins = s.pins ∧ (updateStill s).now = s.now ∧ (updateStill s).pending = s.pending ∧
    (updateStill s).psu.count = s.psu.count ∧ (updateStill s).psu.countPrev = s.psu.countPrev ∧
    (updateStill s).psu.pRef = s.psu.pRef ∧ (updateStill s).psu.countRef = s.psu.countRef ∧
    (updateStill s).psu.ref = s.psu.ref ∧ (updateStill s).psu.sampleTimer = s.psu.sampleTimer ∧
    (updateStill s).psu.vEval = s.psu.vEval ∧ (updateStill s).psu.vRope = s.psu.vRope ∧
    (updateStill s).psu.ropeDir = s.psu.ropeDir ∧ (updateStill s).psu.travelDir = s.psu.travelDir ∧
    (updateStill s).psu.furthest = s.psu.furthest ∧ (updateStill s).psu.mismatch = s.psu.mismatch ∧
    (updateStill s).psu.armed = s.psu.armed ∧ (updateStill s).brs.stage = s.brs.stage ∧
    (updateStill s).brs.causes = s.brs.causes ∧ (updateStill s).brs.drivePermit = s.brs.drivePermit ∧
    (updateStill s).brs.sbHoldoff = s.brs.sbHoldoff ∧ (updateStill s).brs.ebHoldoff = s.brs.ebHoldoff ∧
    (updateStill s).brs.sbFb = s.brs.sbFb ∧ (updateStill s).brs.ebFb = s.brs.ebFb ∧
    (updateStill s).brs.lastRefresh = s.brs.lastRefresh ∧ (updateStill s).brs.overspeedCount = s.brs.overspeedCount ∧
    (updateStill s).brs.warnArmed = s.brs.warnArmed ∧ (updateStill s).brs.refreshTimer = s.brs.refreshTimer ∧
    (updateStill s).brs.releaseWait = s.brs.releaseWait ∧ (updateStill s).brs.sbApply = s.brs.sbApply ∧
    (updateStill s).brs.ebApply = s.brs.ebApply := by
  and_intros <;>
    (unfold updateStill; (try dsimp only); (repeat' split) <;> (try simp) <;> (try with_reducible rfl))

@[simp] theorem takeFurthest_frame (s : State) :
    (takeFurthest s).cfg = s.cfg ∧ (takeFurthest s).cru = s.cru ∧ (takeFurthest s).clc = s.clc ∧
    (takeFurthest s).brs = s.brs ∧ (takeFurthest s).trc = s.trc ∧ (takeFurthest s).dri = s.dri ∧
    (takeFurthest s).adm = s.adm ∧ (takeFurthest s).lsu = s.lsu ∧ (takeFurthest s).lbp = s.lbp ∧
    (takeFurthest s).niu = s.niu ∧ (takeFurthest s).pins = s.pins ∧ (takeFurthest s).now = s.now ∧
    (takeFurthest s).pending = s.pending ∧ (takeFurthest s).psu.count = s.psu.count ∧
    (takeFurthest s).psu.countPrev = s.psu.countPrev ∧ (takeFurthest s).psu.pRef = s.psu.pRef ∧
    (takeFurthest s).psu.countRef = s.psu.countRef ∧ (takeFurthest s).psu.ref = s.psu.ref ∧
    (takeFurthest s).psu.expected = s.psu.expected ∧ (takeFurthest s).psu.sampleTimer = s.psu.sampleTimer ∧
    (takeFurthest s).psu.vEval = s.psu.vEval ∧ (takeFurthest s).psu.vRope = s.psu.vRope ∧
    (takeFurthest s).psu.ropeDir = s.psu.ropeDir ∧ (takeFurthest s).psu.travelDir = s.psu.travelDir ∧
    (takeFurthest s).psu.stillCount = s.psu.stillCount ∧ (takeFurthest s).psu.still = s.psu.still ∧
    (takeFurthest s).psu.heldCount = s.psu.heldCount ∧ (takeFurthest s).psu.mismatch = s.psu.mismatch ∧
    (takeFurthest s).psu.armed = s.psu.armed := by
  and_intros <;>
    (unfold takeFurthest; (try dsimp only); (repeat' split) <;> (try simp) <;> (try with_reducible rfl))

@[simp] theorem setArmed_frame (m : Monitor) (v : Bool) (s : State) :
    (setArmed m v s).cfg = s.cfg ∧ (setArmed m v s).cru = s.cru ∧ (setArmed m v s).clc = s.clc ∧
    (setArmed m v s).brs = s.brs ∧ (setArmed m v s).trc = s.trc ∧ (setArmed m v s).dri = s.dri ∧
    (setArmed m v s).adm = s.adm ∧ (setArmed m v s).lsu = s.lsu ∧ (setArmed m v s).lbp = s.lbp ∧
    (setArmed m v s).niu = s.niu ∧ (setArmed m v s).pins = s.pins ∧ (setArmed m v s).now = s.now ∧
    (setArmed m v s).pending = s.pending ∧ (setArmed m v s).psu.count = s.psu.count ∧
    (setArmed m v s).psu.countPrev = s.psu.countPrev ∧ (setArmed m v s).psu.pRef = s.psu.pRef ∧
    (setArmed m v s).psu.countRef = s.psu.countRef ∧ (setArmed m v s).psu.ref = s.psu.ref ∧
    (setArmed m v s).psu.expected = s.psu.expected ∧ (setArmed m v s).psu.sampleTimer = s.psu.sampleTimer ∧
    (setArmed m v s).psu.vEval = s.psu.vEval ∧ (setArmed m v s).psu.vRope = s.psu.vRope ∧
    (setArmed m v s).psu.ropeDir = s.psu.ropeDir ∧ (setArmed m v s).psu.travelDir = s.psu.travelDir ∧
    (setArmed m v s).psu.stillCount = s.psu.stillCount ∧ (setArmed m v s).psu.still = s.psu.still ∧
    (setArmed m v s).psu.heldCount = s.psu.heldCount ∧ (setArmed m v s).psu.furthest = s.psu.furthest ∧
    (setArmed m v s).psu.mismatch = s.psu.mismatch := by
  and_intros <;>
    (unfold setArmed; (try dsimp only); (repeat' split) <;> (try simp) <;> (try with_reducible rfl))

@[simp] theorem runMonitor_frame (m : Monitor) (s : State) :
    (runMonitor m s).cfg = s.cfg ∧ (runMonitor m s).cru = s.cru ∧ (runMonitor m s).lsu = s.lsu ∧
    (runMonitor m s).lbp = s.lbp ∧ (runMonitor m s).pins = s.pins ∧ (runMonitor m s).now = s.now ∧
    (runMonitor m s).pending = s.pending ∧ (runMonitor m s).psu.count = s.psu.count ∧
    (runMonitor m s).psu.countPrev = s.psu.countPrev ∧ (runMonitor m s).psu.pRef = s.psu.pRef ∧
    (runMonitor m s).psu.countRef = s.psu.countRef ∧ (runMonitor m s).psu.ref = s.psu.ref ∧
    (runMonitor m s).psu.expected = s.psu.expected ∧ (runMonitor m s).psu.sampleTimer = s.psu.sampleTimer ∧
    (runMonitor m s).psu.vEval = s.psu.vEval ∧ (runMonitor m s).psu.vRope = s.psu.vRope ∧
    (runMonitor m s).psu.ropeDir = s.psu.ropeDir ∧ (runMonitor m s).psu.travelDir = s.psu.travelDir ∧
    (runMonitor m s).psu.stillCount = s.psu.stillCount ∧ (runMonitor m s).psu.still = s.psu.still ∧
    (runMonitor m s).clc.c = s.clc.c ∧ (runMonitor m s).clc.w1 = s.clc.w1 ∧ (runMonitor m s).clc.s = s.clc.s ∧
    (runMonitor m s).clc.e = s.clc.e ∧ (runMonitor m s).clc.vdrv = s.clc.vdrv ∧
    (runMonitor m s).trc.drvMode = s.trc.drvMode ∧ (runMonitor m s).trc.conMode = s.trc.conMode ∧
    (runMonitor m s).trc.effMode = s.trc.effMode ∧ (runMonitor m s).trc.trip.number = s.trc.trip.number ∧
    (runMonitor m s).trc.trip.origin = s.trc.trip.origin ∧
    (runMonitor m s).trc.trip.destination = s.trc.trip.destination ∧
    (runMonitor m s).trc.trip.direction = s.trc.trip.direction ∧ (runMonitor m s).trc.trip.owner = s.trc.trip.owner ∧
    (runMonitor m s).trc.trip.lastDir = s.trc.trip.lastDir ∧ (runMonitor m s).trc.frozen = s.trc.frozen ∧
    (runMonitor m s).trc.debounced = s.trc.debounced ∧ (runMonitor m s).trc.elapsed = s.trc.elapsed ∧
    (runMonitor m s).niu.resetCauses = s.niu.resetCauses := by
  and_intros <;>
    (unfold runMonitor; (try dsimp only); (repeat' split) <;> (try simp) <;> (try with_reducible rfl))

@[simp] theorem checkMissed_frame (c : Car) (s : State) :
    (checkMissed c s).cfg = s.cfg ∧ (checkMissed c s).cru = s.cru ∧ (checkMissed c s).lsu = s.lsu ∧
    (checkMissed c s).lbp = s.lbp ∧ (checkMissed c s).pins = s.pins ∧ (checkMissed c s).now = s.now ∧
    (checkMissed c s).pending = s.pending ∧ (checkMissed c s).psu.count = s.psu.count ∧
    (checkMissed c s).psu.countPrev = s.psu.countPrev ∧ (checkMissed c s).psu.pRef = s.psu.pRef ∧
    (checkMissed c s).psu.countRef = s.psu.countRef ∧ (checkMissed c s).psu.ref = s.psu.ref ∧
    (checkMissed c s).psu.sampleTimer = s.psu.sampleTimer ∧ (checkMissed c s).psu.vEval = s.psu.vEval ∧
    (checkMissed c s).psu.vRope = s.psu.vRope ∧ (checkMissed c s).psu.ropeDir = s.psu.ropeDir ∧
    (checkMissed c s).psu.travelDir = s.psu.travelDir ∧ (checkMissed c s).psu.stillCount = s.psu.stillCount ∧
    (checkMissed c s).psu.still = s.psu.still ∧ (checkMissed c s).psu.armed = s.psu.armed ∧
    (checkMissed c s).clc.c = s.clc.c ∧ (checkMissed c s).clc.w1 = s.clc.w1 ∧ (checkMissed c s).clc.s = s.clc.s ∧
    (checkMissed c s).clc.e = s.clc.e ∧ (checkMissed c s).clc.vdrv = s.clc.vdrv ∧
    (checkMissed c s).trc.drvMode = s.trc.drvMode ∧ (checkMissed c s).trc.conMode = s.trc.conMode ∧
    (checkMissed c s).trc.effMode = s.trc.effMode ∧ (checkMissed c s).trc.trip.number = s.trc.trip.number ∧
    (checkMissed c s).trc.trip.origin = s.trc.trip.origin ∧
    (checkMissed c s).trc.trip.destination = s.trc.trip.destination ∧
    (checkMissed c s).trc.trip.direction = s.trc.trip.direction ∧
    (checkMissed c s).trc.trip.owner = s.trc.trip.owner ∧ (checkMissed c s).trc.trip.lastDir = s.trc.trip.lastDir ∧
    (checkMissed c s).trc.frozen = s.trc.frozen ∧ (checkMissed c s).trc.debounced = s.trc.debounced ∧
    (checkMissed c s).trc.elapsed = s.trc.elapsed ∧ (checkMissed c s).niu.resetCauses = s.niu.resetCauses := by
  and_intros <;>
    (unfold checkMissed; (try dsimp only); (repeat' split) <;> (try simp) <;> (try with_reducible rfl))

@[simp] theorem runMonitors_frame (s : State) :
    (runMonitors s).cfg = s.cfg ∧ (runMonitors s).cru = s.cru ∧ (runMonitors s).lsu = s.lsu ∧
    (runMonitors s).lbp = s.lbp ∧ (runMonitors s).pins = s.pins ∧ (runMonitors s).now = s.now ∧
    (runMonitors s).pending = s.pending ∧ (runMonitors s).psu.count = s.psu.count ∧
    (runMonitors s).psu.countPrev = s.psu.countPrev ∧ (runMonitors s).psu.pRef = s.psu.pRef ∧
    (runMonitors s).psu.countRef = s.psu.countRef ∧ (runMonitors s).psu.ref = s.psu.ref ∧
    (runMonitors s).psu.sampleTimer = s.psu.sampleTimer ∧ (runMonitors s).psu.vEval = s.psu.vEval ∧
    (runMonitors s).psu.vRope = s.psu.vRope ∧ (runMonitors s).psu.ropeDir = s.psu.ropeDir ∧
    (runMonitors s).psu.travelDir = s.psu.travelDir ∧ (runMonitors s).psu.stillCount = s.psu.stillCount ∧
    (runMonitors s).psu.still = s.psu.still ∧ (runMonitors s).clc.c = s.clc.c ∧ (runMonitors s).clc.w1 = s.clc.w1 ∧
    (runMonitors s).clc.s = s.clc.s ∧ (runMonitors s).clc.e = s.clc.e ∧ (runMonitors s).clc.vdrv = s.clc.vdrv ∧
    (runMonitors s).trc.drvMode = s.trc.drvMode ∧ (runMonitors s).trc.conMode = s.trc.conMode ∧
    (runMonitors s).trc.effMode = s.trc.effMode ∧ (runMonitors s).trc.trip.number = s.trc.trip.number ∧
    (runMonitors s).trc.trip.origin = s.trc.trip.origin ∧
    (runMonitors s).trc.trip.destination = s.trc.trip.destination ∧
    (runMonitors s).trc.trip.direction = s.trc.trip.direction ∧ (runMonitors s).trc.trip.owner = s.trc.trip.owner ∧
    (runMonitors s).trc.trip.lastDir = s.trc.trip.lastDir ∧ (runMonitors s).trc.frozen = s.trc.frozen ∧
    (runMonitors s).trc.debounced = s.trc.debounced ∧ (runMonitors s).trc.elapsed = s.trc.elapsed ∧
    (runMonitors s).niu.resetCauses = s.niu.resetCauses := by
  and_intros <;>
    (unfold runMonitors; (try dsimp only); (repeat' split) <;> (try simp) <;> (try with_reducible rfl))

@[simp] theorem setCeiling_frame (c : Nat) (s : State) :
    (setCeiling c s).cfg = s.cfg ∧ (setCeiling c s).cru = s.cru ∧ (setCeiling c s).psu = s.psu ∧
    (setCeiling c s).brs = s.brs ∧ (setCeiling c s).trc = s.trc ∧ (setCeiling c s).dri = s.dri ∧
    (setCeiling c s).adm = s.adm ∧ (setCeiling c s).lsu = s.lsu ∧ (setCeiling c s).lbp = s.lbp ∧
    (setCeiling c s).niu = s.niu ∧ (setCeiling c s).pins = s.pins ∧ (setCeiling c s).now = s.now ∧
    (setCeiling c s).pending = s.pending ∧ (setCeiling c s).clc.vdrv = s.clc.vdrv ∧
    (setCeiling c s).clc.basis = s.clc.basis := by
  and_intros <;>
    (unfold setCeiling; (try dsimp only); (repeat' split) <;> (try simp) <;> (try with_reducible rfl))

@[simp] theorem recordExtremes_frame (s : State) :
    (recordExtremes s).cfg = s.cfg ∧ (recordExtremes s).cru = s.cru ∧ (recordExtremes s).psu = s.psu ∧
    (recordExtremes s).clc = s.clc ∧ (recordExtremes s).brs = s.brs ∧ (recordExtremes s).dri = s.dri ∧
    (recordExtremes s).adm = s.adm ∧ (recordExtremes s).lsu = s.lsu ∧ (recordExtremes s).lbp = s.lbp ∧
    (recordExtremes s).niu = s.niu ∧ (recordExtremes s).pins = s.pins ∧ (recordExtremes s).now = s.now ∧
    (recordExtremes s).pending = s.pending ∧ (recordExtremes s).trc.state = s.trc.state ∧
    (recordExtremes s).trc.slot0 = s.trc.slot0 ∧ (recordExtremes s).trc.slot1 = s.trc.slot1 ∧
    (recordExtremes s).trc.drvMode = s.trc.drvMode ∧ (recordExtremes s).trc.conMode = s.trc.conMode ∧
    (recordExtremes s).trc.effMode = s.trc.effMode ∧ (recordExtremes s).trc.trip.number = s.trc.trip.number ∧
    (recordExtremes s).trc.trip.origin = s.trc.trip.origin ∧
    (recordExtremes s).trc.trip.destination = s.trc.trip.destination ∧
    (recordExtremes s).trc.trip.direction = s.trc.trip.direction ∧
    (recordExtremes s).trc.trip.owner = s.trc.trip.owner ∧ (recordExtremes s).trc.trip.lastDir = s.trc.trip.lastDir ∧
    (recordExtremes s).trc.frozen = s.trc.frozen ∧ (recordExtremes s).trc.debounced = s.trc.debounced ∧
    (recordExtremes s).trc.minDwell = s.trc.minDwell ∧ (recordExtremes s).trc.elapsed = s.trc.elapsed ∧
    (recordExtremes s).trc.settleTimer = s.trc.settleTimer := by
  and_intros <;>
    (unfold recordExtremes; (try dsimp only); (repeat' split) <;> (try simp) <;> (try with_reducible rfl))

@[simp] theorem sampleCeiling_frame (s : State) :
    (sampleCeiling s).cfg = s.cfg ∧ (sampleCeiling s).cru = s.cru ∧ (sampleCeiling s).psu = s.psu ∧
    (sampleCeiling s).brs = s.brs ∧ (sampleCeiling s).dri = s.dri ∧ (sampleCeiling s).adm = s.adm ∧
    (sampleCeiling s).lsu = s.lsu ∧ (sampleCeiling s).lbp = s.lbp ∧ (sampleCeiling s).niu = s.niu ∧
    (sampleCeiling s).pins = s.pins ∧ (sampleCeiling s).now = s.now ∧ (sampleCeiling s).pending = s.pending ∧
    (sampleCeiling s).clc.vdrv = s.clc.vdrv ∧ (sampleCeiling s).clc.basis = s.clc.basis ∧
    (sampleCeiling s).trc.state = s.trc.state ∧ (sampleCeiling s).trc.slot0 = s.trc.slot0 ∧
    (sampleCeiling s).trc.slot1 = s.trc.slot1 ∧ (sampleCeiling s).trc.drvMode = s.trc.drvMode ∧
    (sampleCeiling s).trc.conMode = s.trc.conMode ∧ (sampleCeiling s).trc.effMode = s.trc.effMode ∧
    (sampleCeiling s).trc.trip.number = s.trc.trip.number ∧ (sampleCeiling s).trc.trip.origin = s.trc.trip.origin ∧
    (sampleCeiling s).trc.trip.destination = s.trc.trip.destination ∧
    (sampleCeiling s).trc.trip.direction = s.trc.trip.direction ∧
    (sampleCeiling s).trc.trip.owner = s.trc.trip.owner ∧ (sampleCeiling s).trc.trip.lastDir = s.trc.trip.lastDir ∧
    (sampleCeiling s).trc.frozen = s.trc.frozen ∧ (sampleCeiling s).trc.debounced = s.trc.debounced ∧
    (sampleCeiling s).trc.minDwell = s.trc.minDwell ∧ (sampleCeiling s).trc.elapsed = s.trc.elapsed ∧
    (sampleCeiling s).trc.settleTimer = s.trc.settleTimer := by
  and_intros <;>
    (unfold sampleCeiling; (try dsimp only); (repeat' split) <;> (try simp) <;> (try with_reducible rfl))

@[simp] theorem checkE_frame (s : State) :
    (checkE s).cfg = s.cfg ∧ (checkE s).cru = s.cru ∧ (checkE s).lsu = s.lsu ∧ (checkE s).lbp = s.lbp ∧
    (checkE s).pins = s.pins ∧ (checkE s).now = s.now ∧ (checkE s).pending = s.pending ∧
    (checkE s).psu.count = s.psu.count ∧ (checkE s).psu.countPrev = s.psu.countPrev ∧
    (checkE s).psu.pRef = s.psu.pRef ∧ (checkE s).psu.countRef = s.psu.countRef ∧ (checkE s).psu.ref = s.psu.ref ∧
    (checkE s).psu.expected = s.psu.expected ∧ (checkE s).psu.sampleTimer = s.psu.sampleTimer ∧
    (checkE s).psu.vEval = s.psu.vEval ∧ (checkE s).psu.vRope = s.psu.vRope ∧ (checkE s).psu.ropeDir = s.psu.ropeDir ∧
    (checkE s).psu.travelDir = s.psu.travelDir ∧ (checkE s).psu.stillCount = s.psu.stillCount ∧
    (checkE s).psu.still = s.psu.still ∧ (checkE s).psu.armed = s.psu.armed ∧ (checkE s).clc.c = s.clc.c ∧
    (checkE s).clc.w1 = s.clc.w1 ∧ (checkE s).clc.s = s.clc.s ∧ (checkE s).clc.e = s.clc.e ∧
    (checkE s).clc.vdrv = s.clc.vdrv ∧ (checkE s).trc.drvMode = s.trc.drvMode ∧
    (checkE s).trc.conMode = s.trc.conMode ∧ (checkE s).trc.effMode = s.trc.effMode ∧
    (checkE s).trc.trip.number = s.trc.trip.number ∧ (checkE s).trc.trip.origin = s.trc.trip.origin ∧
    (checkE s).trc.trip.destination = s.trc.trip.destination ∧ (checkE s).trc.trip.direction = s.trc.trip.direction ∧
    (checkE s).trc.trip.owner = s.trc.trip.owner ∧ (checkE s).trc.trip.lastDir = s.trc.trip.lastDir ∧
    (checkE s).trc.frozen = s.trc.frozen ∧ (checkE s).trc.debounced = s.trc.debounced ∧
    (checkE s).trc.elapsed = s.trc.elapsed ∧ (checkE s).niu.resetCauses = s.niu.resetCauses := by
  and_intros <;>
    (unfold checkE; (try dsimp only); (repeat' split) <;> (try simp) <;> (try with_reducible rfl))

@[simp] theorem checkS_frame (s : State) :
    (checkS s).cfg = s.cfg ∧ (checkS s).cru = s.cru ∧ (checkS s).lsu = s.lsu ∧ (checkS s).lbp = s.lbp ∧
    (checkS s).pins = s.pins ∧ (checkS s).now = s.now ∧ (checkS s).pending = s.pending ∧
    (checkS s).psu.count = s.psu.count ∧ (checkS s).psu.countPrev = s.psu.countPrev ∧
    (checkS s).psu.pRef = s.psu.pRef ∧ (checkS s).psu.countRef = s.psu.countRef ∧ (checkS s).psu.ref = s.psu.ref ∧
    (checkS s).psu.expected = s.psu.expected ∧ (checkS s).psu.sampleTimer = s.psu.sampleTimer ∧
    (checkS s).psu.vEval = s.psu.vEval ∧ (checkS s).psu.vRope = s.psu.vRope ∧ (checkS s).psu.ropeDir = s.psu.ropeDir ∧
    (checkS s).psu.travelDir = s.psu.travelDir ∧ (checkS s).psu.stillCount = s.psu.stillCount ∧
    (checkS s).psu.still = s.psu.still ∧ (checkS s).psu.armed = s.psu.armed ∧ (checkS s).clc.c = s.clc.c ∧
    (checkS s).clc.w1 = s.clc.w1 ∧ (checkS s).clc.s = s.clc.s ∧ (checkS s).clc.e = s.clc.e ∧
    (checkS s).clc.vdrv = s.clc.vdrv ∧ (checkS s).trc.drvMode = s.trc.drvMode ∧
    (checkS s).trc.conMode = s.trc.conMode ∧ (checkS s).trc.effMode = s.trc.effMode ∧
    (checkS s).trc.trip.number = s.trc.trip.number ∧ (checkS s).trc.trip.origin = s.trc.trip.origin ∧
    (checkS s).trc.trip.destination = s.trc.trip.destination ∧ (checkS s).trc.trip.direction = s.trc.trip.direction ∧
    (checkS s).trc.trip.owner = s.trc.trip.owner ∧ (checkS s).trc.trip.lastDir = s.trc.trip.lastDir ∧
    (checkS s).trc.frozen = s.trc.frozen ∧ (checkS s).trc.debounced = s.trc.debounced ∧
    (checkS s).trc.elapsed = s.trc.elapsed ∧ (checkS s).niu.resetCauses = s.niu.resetCauses := by
  and_intros <;>
    (unfold checkS; (try dsimp only); (repeat' split) <;> (try simp) <;> (try with_reducible rfl))

@[simp] theorem checkEffectiveness_frame (s : State) :
    (checkEffectiveness s).cfg = s.cfg ∧ (checkEffectiveness s).cru = s.cru ∧ (checkEffectiveness s).lsu = s.lsu ∧
    (checkEffectiveness s).lbp = s.lbp ∧ (checkEffectiveness s).pins = s.pins ∧ (checkEffectiveness s).now = s.now ∧
    (checkEffectiveness s).pending = s.pending ∧ (checkEffectiveness s).psu.count = s.psu.count ∧
    (checkEffectiveness s).psu.countPrev = s.psu.countPrev ∧ (checkEffectiveness s).psu.pRef = s.psu.pRef ∧
    (checkEffectiveness s).psu.countRef = s.psu.countRef ∧ (checkEffectiveness s).psu.ref = s.psu.ref ∧
    (checkEffectiveness s).psu.expected = s.psu.expected ∧
    (checkEffectiveness s).psu.sampleTimer = s.psu.sampleTimer ∧ (checkEffectiveness s).psu.vEval = s.psu.vEval ∧
    (checkEffectiveness s).psu.vRope = s.psu.vRope ∧ (checkEffectiveness s).psu.ropeDir = s.psu.ropeDir ∧
    (checkEffectiveness s).psu.travelDir = s.psu.travelDir ∧
    (checkEffectiveness s).psu.stillCount = s.psu.stillCount ∧ (checkEffectiveness s).psu.still = s.psu.still ∧
    (checkEffectiveness s).psu.armed = s.psu.armed ∧ (checkEffectiveness s).clc.c = s.clc.c ∧
    (checkEffectiveness s).clc.w1 = s.clc.w1 ∧ (checkEffectiveness s).clc.s = s.clc.s ∧
    (checkEffectiveness s).clc.e = s.clc.e ∧ (checkEffectiveness s).clc.vdrv = s.clc.vdrv ∧
    (checkEffectiveness s).trc.drvMode = s.trc.drvMode ∧ (checkEffectiveness s).trc.conMode = s.trc.conMode ∧
    (checkEffectiveness s).trc.effMode = s.trc.effMode ∧ (checkEffectiveness s).trc.trip.number = s.trc.trip.number ∧
    (checkEffectiveness s).trc.trip.origin = s.trc.trip.origin ∧
    (checkEffectiveness s).trc.trip.destination = s.trc.trip.destination ∧
    (checkEffectiveness s).trc.trip.direction = s.trc.trip.direction ∧
    (checkEffectiveness s).trc.trip.owner = s.trc.trip.owner ∧
    (checkEffectiveness s).trc.trip.lastDir = s.trc.trip.lastDir ∧ (checkEffectiveness s).trc.frozen = s.trc.frozen ∧
    (checkEffectiveness s).trc.debounced = s.trc.debounced ∧ (checkEffectiveness s).trc.elapsed = s.trc.elapsed ∧
    (checkEffectiveness s).niu.resetCauses = s.niu.resetCauses := by
  and_intros <;>
    (unfold checkEffectiveness; (try dsimp only); (repeat' split) <;> (try simp) <;> (try with_reducible rfl))

@[simp] theorem checkWarning_frame (s : State) :
    (checkWarning s).cfg = s.cfg ∧ (checkWarning s).cru = s.cru ∧ (checkWarning s).psu = s.psu ∧
    (checkWarning s).clc = s.clc ∧ (checkWarning s).trc = s.trc ∧ (checkWarning s).dri = s.dri ∧
    (checkWarning s).adm = s.adm ∧ (checkWarning s).lsu = s.lsu ∧ (checkWarning s).lbp = s.lbp ∧
    (checkWarning s).pins = s.pins ∧ (checkWarning s).now = s.now ∧ (checkWarning s).pending = s.pending ∧
    (checkWarning s).brs.stage = s.brs.stage ∧ (checkWarning s).brs.causes = s.brs.causes ∧
    (checkWarning s).brs.drivePermit = s.brs.drivePermit ∧ (checkWarning s).brs.sbHoldoff = s.brs.sbHoldoff ∧
    (checkWarning s).brs.ebHoldoff = s.brs.ebHoldoff ∧ (checkWarning s).brs.sbFb = s.brs.sbFb ∧
    (checkWarning s).brs.ebFb = s.brs.ebFb ∧ (checkWarning s).brs.lastRefresh = s.brs.lastRefresh ∧
    (checkWarning s).brs.overspeedCount = s.brs.overspeedCount ∧
    (checkWarning s).brs.refreshTimer = s.brs.refreshTimer ∧ (checkWarning s).brs.releaseWait = s.brs.releaseWait ∧
    (checkWarning s).brs.sbApply = s.brs.sbApply ∧ (checkWarning s).brs.ebApply = s.brs.ebApply ∧
    (checkWarning s).brs.effectiveness = s.brs.effectiveness ∧ (checkWarning s).niu.incidents = s.niu.incidents ∧
    (checkWarning s).niu.overflow = s.niu.overflow ∧ (checkWarning s).niu.seq = s.niu.seq ∧
    (checkWarning s).niu.resetCauses = s.niu.resetCauses := by
  and_intros <;>
    (unfold checkWarning; (try dsimp only); (repeat' split) <;> (try simp) <;> (try with_reducible rfl))

@[simp] theorem sampleBrakes_frame (s : State) :
    (sampleBrakes s).cfg = s.cfg ∧ (sampleBrakes s).cru = s.cru ∧ (sampleBrakes s).lsu = s.lsu ∧
    (sampleBrakes s).lbp = s.lbp ∧ (sampleBrakes s).pins = s.pins ∧ (sampleBrakes s).now = s.now ∧
    (sampleBrakes s).pending = s.pending ∧ (sampleBrakes s).psu.count = s.psu.count ∧
    (sampleBrakes s).psu.countPrev = s.psu.countPrev ∧ (sampleBrakes s).psu.pRef = s.psu.pRef ∧
    (sampleBrakes s).psu.countRef = s.psu.countRef ∧ (sampleBrakes s).psu.ref = s.psu.ref ∧
    (sampleBrakes s).psu.expected = s.psu.expected ∧ (sampleBrakes s).psu.sampleTimer = s.psu.sampleTimer ∧
    (sampleBrakes s).psu.vEval = s.psu.vEval ∧ (sampleBrakes s).psu.vRope = s.psu.vRope ∧
    (sampleBrakes s).psu.ropeDir = s.psu.ropeDir ∧ (sampleBrakes s).psu.travelDir = s.psu.travelDir ∧
    (sampleBrakes s).psu.stillCount = s.psu.stillCount ∧ (sampleBrakes s).psu.still = s.psu.still ∧
    (sampleBrakes s).psu.armed = s.psu.armed ∧ (sampleBrakes s).clc.c = s.clc.c ∧ (sampleBrakes s).clc.w1 = s.clc.w1 ∧
    (sampleBrakes s).clc.s = s.clc.s ∧ (sampleBrakes s).clc.e = s.clc.e ∧ (sampleBrakes s).clc.vdrv = s.clc.vdrv ∧
    (sampleBrakes s).trc.drvMode = s.trc.drvMode ∧ (sampleBrakes s).trc.conMode = s.trc.conMode ∧
    (sampleBrakes s).trc.effMode = s.trc.effMode ∧ (sampleBrakes s).trc.trip.number = s.trc.trip.number ∧
    (sampleBrakes s).trc.trip.origin = s.trc.trip.origin ∧
    (sampleBrakes s).trc.trip.destination = s.trc.trip.destination ∧
    (sampleBrakes s).trc.trip.direction = s.trc.trip.direction ∧ (sampleBrakes s).trc.trip.owner = s.trc.trip.owner ∧
    (sampleBrakes s).trc.trip.lastDir = s.trc.trip.lastDir ∧ (sampleBrakes s).trc.frozen = s.trc.frozen ∧
    (sampleBrakes s).trc.debounced = s.trc.debounced ∧ (sampleBrakes s).trc.elapsed = s.trc.elapsed ∧
    (sampleBrakes s).niu.resetCauses = s.niu.resetCauses := by
  and_intros <;>
    (unfold sampleBrakes; (try dsimp only); (repeat' split) <;> (try simp) <;> (try with_reducible rfl))

@[simp] theorem sampleTrip_frame (s : State) :
    (sampleTrip s).cfg = s.cfg ∧ (sampleTrip s).cru = s.cru ∧ (sampleTrip s).lsu = s.lsu ∧
    (sampleTrip s).lbp = s.lbp ∧ (sampleTrip s).pins = s.pins ∧ (sampleTrip s).now = s.now ∧
    (sampleTrip s).pending = s.pending ∧ (sampleTrip s).psu.count = s.psu.count ∧
    (sampleTrip s).psu.countPrev = s.psu.countPrev ∧ (sampleTrip s).psu.pRef = s.psu.pRef ∧
    (sampleTrip s).psu.countRef = s.psu.countRef ∧ (sampleTrip s).psu.ref = s.psu.ref ∧
    (sampleTrip s).psu.expected = s.psu.expected ∧ (sampleTrip s).psu.sampleTimer = s.psu.sampleTimer ∧
    (sampleTrip s).psu.vEval = s.psu.vEval ∧ (sampleTrip s).psu.vRope = s.psu.vRope ∧
    (sampleTrip s).psu.ropeDir = s.psu.ropeDir ∧ (sampleTrip s).psu.travelDir = s.psu.travelDir ∧
    (sampleTrip s).psu.stillCount = s.psu.stillCount ∧ (sampleTrip s).psu.still = s.psu.still ∧
    (sampleTrip s).psu.armed = s.psu.armed ∧ (sampleTrip s).clc.c = s.clc.c ∧ (sampleTrip s).clc.w1 = s.clc.w1 ∧
    (sampleTrip s).clc.s = s.clc.s ∧ (sampleTrip s).clc.e = s.clc.e ∧ (sampleTrip s).clc.vdrv = s.clc.vdrv ∧
    (sampleTrip s).brs.stage = s.brs.stage ∧ (sampleTrip s).brs.causes = s.brs.causes ∧
    (sampleTrip s).brs.sbFb = s.brs.sbFb ∧ (sampleTrip s).brs.ebFb = s.brs.ebFb ∧
    (sampleTrip s).brs.lastRefresh = s.brs.lastRefresh ∧ (sampleTrip s).brs.overspeedCount = s.brs.overspeedCount ∧
    (sampleTrip s).brs.warnArmed = s.brs.warnArmed ∧ (sampleTrip s).brs.effectiveness = s.brs.effectiveness ∧
    (sampleTrip s).trc.drvMode = s.trc.drvMode ∧ (sampleTrip s).trc.conMode = s.trc.conMode ∧
    (sampleTrip s).trc.effMode = s.trc.effMode ∧ (sampleTrip s).trc.trip.number = s.trc.trip.number ∧
    (sampleTrip s).trc.trip.origin = s.trc.trip.origin ∧
    (sampleTrip s).trc.trip.destination = s.trc.trip.destination ∧
    (sampleTrip s).trc.trip.direction = s.trc.trip.direction ∧ (sampleTrip s).trc.trip.owner = s.trc.trip.owner ∧
    (sampleTrip s).trc.trip.lastDir = s.trc.trip.lastDir ∧ (sampleTrip s).trc.frozen = s.trc.frozen ∧
    (sampleTrip s).trc.debounced = s.trc.debounced ∧ (sampleTrip s).dri.evac = s.dri.evac ∧
    (sampleTrip s).dri.maint = s.dri.maint ∧ (sampleTrip s).niu.incidents = s.niu.incidents ∧
    (sampleTrip s).niu.overflow = s.niu.overflow ∧ (sampleTrip s).niu.seq = s.niu.seq ∧
    (sampleTrip s).niu.resetCauses = s.niu.resetCauses := by
  and_intros <;>
    (unfold sampleTrip; (try dsimp only); (repeat' split) <;> (try simp) <;> (try with_reducible rfl))

@[simp] theorem sample_frame (s : State) :
    (sample s).cfg = s.cfg ∧ (sample s).cru = s.cru ∧ (sample s).lsu = s.lsu ∧ (sample s).lbp = s.lbp ∧
    (sample s).pins = s.pins ∧ (sample s).now = s.now ∧ (sample s).pending = s.pending ∧
    (sample s).psu.count = s.psu.count ∧ (sample s).psu.pRef = s.psu.pRef ∧ (sample s).psu.countRef = s.psu.countRef ∧
    (sample s).psu.ref = s.psu.ref ∧ (sample s).clc.vdrv = s.clc.vdrv ∧ (sample s).trc.drvMode = s.trc.drvMode ∧
    (sample s).trc.conMode = s.trc.conMode ∧ (sample s).trc.effMode = s.trc.effMode ∧
    (sample s).trc.trip.number = s.trc.trip.number ∧ (sample s).trc.trip.origin = s.trc.trip.origin ∧
    (sample s).trc.trip.destination = s.trc.trip.destination ∧ (sample s).trc.trip.direction = s.trc.trip.direction ∧
    (sample s).trc.trip.owner = s.trc.trip.owner ∧ (sample s).trc.trip.lastDir = s.trc.trip.lastDir ∧
    (sample s).trc.frozen = s.trc.frozen ∧ (sample s).trc.debounced = s.trc.debounced ∧
    (sample s).niu.resetCauses = s.niu.resetCauses := by
  and_intros <;>
    (unfold sample; (try dsimp only); (repeat' split) <;> (try simp) <;> (try with_reducible rfl))

@[simp] theorem checkMismatch_frame (c : Car) (p : Poll) (s : State) :
    (checkMismatch c p s).cfg = s.cfg ∧ (checkMismatch c p s).cru = s.cru ∧ (checkMismatch c p s).lsu = s.lsu ∧
    (checkMismatch c p s).lbp = s.lbp ∧ (checkMismatch c p s).pins = s.pins ∧ (checkMismatch c p s).now = s.now ∧
    (checkMismatch c p s).pending = s.pending ∧ (checkMismatch c p s).psu.count = s.psu.count ∧
    (checkMismatch c p s).psu.countPrev = s.psu.countPrev ∧ (checkMismatch c p s).psu.pRef = s.psu.pRef ∧
    (checkMismatch c p s).psu.countRef = s.psu.countRef ∧ (checkMismatch c p s).psu.ref = s.psu.ref ∧
    (checkMismatch c p s).psu.expected = s.psu.expected ∧ (checkMismatch c p s).psu.sampleTimer = s.psu.sampleTimer ∧
    (checkMismatch c p s).psu.vEval = s.psu.vEval ∧ (checkMismatch c p s).psu.vRope = s.psu.vRope ∧
    (checkMismatch c p s).psu.ropeDir = s.psu.ropeDir ∧ (checkMismatch c p s).psu.travelDir = s.psu.travelDir ∧
    (checkMismatch c p s).psu.stillCount = s.psu.stillCount ∧ (checkMismatch c p s).psu.still = s.psu.still ∧
    (checkMismatch c p s).psu.armed = s.psu.armed ∧ (checkMismatch c p s).clc.c = s.clc.c ∧
    (checkMismatch c p s).clc.w1 = s.clc.w1 ∧ (checkMismatch c p s).clc.s = s.clc.s ∧
    (checkMismatch c p s).clc.e = s.clc.e ∧ (checkMismatch c p s).clc.vdrv = s.clc.vdrv ∧
    (checkMismatch c p s).trc.drvMode = s.trc.drvMode ∧ (checkMismatch c p s).trc.conMode = s.trc.conMode ∧
    (checkMismatch c p s).trc.effMode = s.trc.effMode ∧ (checkMismatch c p s).trc.trip.number = s.trc.trip.number ∧
    (checkMismatch c p s).trc.trip.origin = s.trc.trip.origin ∧
    (checkMismatch c p s).trc.trip.destination = s.trc.trip.destination ∧
    (checkMismatch c p s).trc.trip.direction = s.trc.trip.direction ∧
    (checkMismatch c p s).trc.trip.owner = s.trc.trip.owner ∧
    (checkMismatch c p s).trc.trip.lastDir = s.trc.trip.lastDir ∧ (checkMismatch c p s).trc.frozen = s.trc.frozen ∧
    (checkMismatch c p s).trc.debounced = s.trc.debounced ∧ (checkMismatch c p s).trc.elapsed = s.trc.elapsed ∧
    (checkMismatch c p s).niu.resetCauses = s.niu.resetCauses := by
  and_intros <;>
    (unfold checkMismatch; (try dsimp only); (repeat' split) <;> (try simp) <;> (try with_reducible rfl))

@[simp] theorem makeStale_frame (c : Car) (s : State) :
    (makeStale c s).cfg = s.cfg ∧ (makeStale c s).lsu = s.lsu ∧ (makeStale c s).lbp = s.lbp ∧
    (makeStale c s).pins = s.pins ∧ (makeStale c s).now = s.now ∧ (makeStale c s).pending = s.pending ∧
    (makeStale c s).psu.count = s.psu.count ∧ (makeStale c s).psu.countPrev = s.psu.countPrev ∧
    (makeStale c s).psu.pRef = s.psu.pRef ∧ (makeStale c s).psu.countRef = s.psu.countRef ∧
    (makeStale c s).psu.ref = s.psu.ref ∧ (makeStale c s).psu.expected = s.psu.expected ∧
    (makeStale c s).psu.sampleTimer = s.psu.sampleTimer ∧ (makeStale c s).psu.vEval = s.psu.vEval ∧
    (makeStale c s).psu.vRope = s.psu.vRope ∧ (makeStale c s).psu.ropeDir = s.psu.ropeDir ∧
    (makeStale c s).psu.travelDir = s.psu.travelDir ∧ (makeStale c s).psu.stillCount = s.psu.stillCount ∧
    (makeStale c s).psu.still = s.psu.still ∧ (makeStale c s).psu.armed = s.psu.armed ∧
    (makeStale c s).clc.c = s.clc.c ∧ (makeStale c s).clc.w1 = s.clc.w1 ∧ (makeStale c s).clc.s = s.clc.s ∧
    (makeStale c s).clc.e = s.clc.e ∧ (makeStale c s).clc.vdrv = s.clc.vdrv ∧
    (makeStale c s).trc.drvMode = s.trc.drvMode ∧ (makeStale c s).trc.conMode = s.trc.conMode ∧
    (makeStale c s).trc.effMode = s.trc.effMode ∧ (makeStale c s).trc.trip.number = s.trc.trip.number ∧
    (makeStale c s).trc.trip.origin = s.trc.trip.origin ∧
    (makeStale c s).trc.trip.destination = s.trc.trip.destination ∧
    (makeStale c s).trc.trip.direction = s.trc.trip.direction ∧ (makeStale c s).trc.trip.owner = s.trc.trip.owner ∧
    (makeStale c s).trc.trip.lastDir = s.trc.trip.lastDir ∧ (makeStale c s).trc.frozen = s.trc.frozen ∧
    (makeStale c s).trc.debounced = s.trc.debounced ∧ (makeStale c s).trc.elapsed = s.trc.elapsed ∧
    (makeStale c s).niu.resetCauses = s.niu.resetCauses := by
  and_intros <;>
    (unfold makeStale; (try dsimp only); (repeat' split) <;> (try simp) <;> (try with_reducible rfl))

@[simp] theorem staleIfOld_frame (c : Car) (s : State) :
    (staleIfOld c s).cfg = s.cfg ∧ (staleIfOld c s).lsu = s.lsu ∧ (staleIfOld c s).lbp = s.lbp ∧
    (staleIfOld c s).pins = s.pins ∧ (staleIfOld c s).now = s.now ∧ (staleIfOld c s).pending = s.pending ∧
    (staleIfOld c s).psu.count = s.psu.count ∧ (staleIfOld c s).psu.countPrev = s.psu.countPrev ∧
    (staleIfOld c s).psu.pRef = s.psu.pRef ∧ (staleIfOld c s).psu.countRef = s.psu.countRef ∧
    (staleIfOld c s).psu.ref = s.psu.ref ∧ (staleIfOld c s).psu.expected = s.psu.expected ∧
    (staleIfOld c s).psu.sampleTimer = s.psu.sampleTimer ∧ (staleIfOld c s).psu.vEval = s.psu.vEval ∧
    (staleIfOld c s).psu.vRope = s.psu.vRope ∧ (staleIfOld c s).psu.ropeDir = s.psu.ropeDir ∧
    (staleIfOld c s).psu.travelDir = s.psu.travelDir ∧ (staleIfOld c s).psu.stillCount = s.psu.stillCount ∧
    (staleIfOld c s).psu.still = s.psu.still ∧ (staleIfOld c s).psu.armed = s.psu.armed ∧
    (staleIfOld c s).clc.c = s.clc.c ∧ (staleIfOld c s).clc.w1 = s.clc.w1 ∧ (staleIfOld c s).clc.s = s.clc.s ∧
    (staleIfOld c s).clc.e = s.clc.e ∧ (staleIfOld c s).clc.vdrv = s.clc.vdrv ∧
    (staleIfOld c s).trc.drvMode = s.trc.drvMode ∧ (staleIfOld c s).trc.conMode = s.trc.conMode ∧
    (staleIfOld c s).trc.effMode = s.trc.effMode ∧ (staleIfOld c s).trc.trip.number = s.trc.trip.number ∧
    (staleIfOld c s).trc.trip.origin = s.trc.trip.origin ∧
    (staleIfOld c s).trc.trip.destination = s.trc.trip.destination ∧
    (staleIfOld c s).trc.trip.direction = s.trc.trip.direction ∧ (staleIfOld c s).trc.trip.owner = s.trc.trip.owner ∧
    (staleIfOld c s).trc.trip.lastDir = s.trc.trip.lastDir ∧ (staleIfOld c s).trc.frozen = s.trc.frozen ∧
    (staleIfOld c s).trc.debounced = s.trc.debounced ∧ (staleIfOld c s).trc.elapsed = s.trc.elapsed ∧
    (staleIfOld c s).niu.resetCauses = s.niu.resetCauses := by
  and_intros <;>
    (unfold staleIfOld; (try dsimp only); (repeat' split) <;> (try simp) <;> (try with_reducible rfl))

@[simp] theorem sendReply_frame (r : Request) (st : Station) (status : Status) (data : ReplyData) (s : State) :
    (sendReply r st status data s).cfg = s.cfg ∧ (sendReply r st status data s).cru = s.cru ∧
    (sendReply r st status data s).psu = s.psu ∧ (sendReply r st status data s).clc = s.clc ∧
    (sendReply r st status data s).brs = s.brs ∧ (sendReply r st status data s).trc = s.trc ∧
    (sendReply r st status data s).dri = s.dri ∧ (sendReply r st status data s).adm = s.adm ∧
    (sendReply r st status data s).lsu = s.lsu ∧ (sendReply r st status data s).niu = s.niu ∧
    (sendReply r st status data s).pins = s.pins ∧ (sendReply r st status data s).now = s.now ∧
    (sendReply r st status data s).pending = s.pending ∧
    (sendReply r st status data s).lbp.selection = s.lbp.selection ∧
    (sendReply r st status data s).lbp.continuation = s.lbp.continuation ∧
    (sendReply r st status data s).lbp.fresh = s.lbp.fresh := by
  and_intros <;>
    (unfold sendReply; (try dsimp only); (repeat' split) <;> (try simp) <;> (try with_reducible rfl))

@[simp] theorem noReply_frame (s : State) :
    (noReply s).cfg = s.cfg ∧ (noReply s).cru = s.cru ∧ (noReply s).psu = s.psu ∧ (noReply s).clc = s.clc ∧
    (noReply s).brs = s.brs ∧ (noReply s).trc = s.trc ∧ (noReply s).dri = s.dri ∧ (noReply s).adm = s.adm ∧
    (noReply s).lsu = s.lsu ∧ (noReply s).niu = s.niu ∧ (noReply s).pins = s.pins ∧ (noReply s).now = s.now ∧
    (noReply s).pending = s.pending ∧ (noReply s).lbp.selection = s.lbp.selection ∧
    (noReply s).lbp.continuation = s.lbp.continuation ∧ (noReply s).lbp.fresh = s.lbp.fresh := by
  and_intros <;>
    (unfold noReply; (try dsimp only); (repeat' split) <;> (try simp) <;> (try with_reducible rfl))

@[simp] theorem replyTo_frame (r : Request) (st : Station) (before : State) (a : Answer) :
    (replyTo r st before a).cfg = a.state.cfg ∧ (replyTo r st before a).cru = a.state.cru ∧
    (replyTo r st before a).psu = a.state.psu ∧ (replyTo r st before a).clc = a.state.clc ∧
    (replyTo r st before a).brs = a.state.brs ∧ (replyTo r st before a).trc = a.state.trc ∧
    (replyTo r st before a).dri = a.state.dri ∧ (replyTo r st before a).adm = a.state.adm ∧
    (replyTo r st before a).lsu = a.state.lsu ∧ (replyTo r st before a).pins = a.state.pins ∧
    (replyTo r st before a).now = a.state.now ∧ (replyTo r st before a).pending = a.state.pending ∧
    (replyTo r st before a).lbp.selection = a.state.lbp.selection ∧
    (replyTo r st before a).lbp.continuation = a.state.lbp.continuation ∧
    (replyTo r st before a).niu.incidents = a.state.niu.incidents ∧
    (replyTo r st before a).niu.overflow = a.state.niu.overflow ∧ (replyTo r st before a).niu.seq = a.state.niu.seq ∧
    (replyTo r st before a).niu.resetCauses = a.state.niu.resetCauses := by
  and_intros <;>
    (unfold replyTo; (try dsimp only); (repeat' split) <;> (try simp) <;> (try with_reducible rfl))

@[simp] theorem assertReference_frame (k : Stop) (s : State) :
    (assertReference k s).cfg = s.cfg ∧ (assertReference k s).cru = s.cru ∧ (assertReference k s).clc = s.clc ∧
    (assertReference k s).brs = s.brs ∧ (assertReference k s).trc = s.trc ∧ (assertReference k s).dri = s.dri ∧
    (assertReference k s).adm = s.adm ∧ (assertReference k s).lsu = s.lsu ∧ (assertReference k s).lbp = s.lbp ∧
    (assertReference k s).niu = s.niu ∧ (assertReference k s).pins = s.pins ∧ (assertReference k s).now = s.now ∧
    (assertReference k s).pending = s.pending ∧ (assertReference k s).psu.count = s.psu.count ∧
    (assertReference k s).psu.countPrev = s.psu.countPrev ∧
    (assertReference k s).psu.sampleTimer = s.psu.sampleTimer ∧ (assertReference k s).psu.vEval = s.psu.vEval ∧
    (assertReference k s).psu.vRope = s.psu.vRope ∧ (assertReference k s).psu.ropeDir = s.psu.ropeDir ∧
    (assertReference k s).psu.travelDir = s.psu.travelDir ∧ (assertReference k s).psu.stillCount = s.psu.stillCount ∧
    (assertReference k s).psu.still = s.psu.still ∧ (assertReference k s).psu.heldCount = s.psu.heldCount ∧
    (assertReference k s).psu.furthest = s.psu.furthest ∧ (assertReference k s).psu.mismatch = s.psu.mismatch ∧
    (assertReference k s).psu.armed = s.psu.armed := by
  and_intros <;>
    (unfold assertReference; (try dsimp only); (repeat' split) <;> (try simp) <;> (try with_reducible rfl))

@[simp] theorem storePoll_frame (c : Car) (p : Poll) (s : State) :
    (storePoll c p s).cfg = s.cfg ∧ (storePoll c p s).psu = s.psu ∧ (storePoll c p s).clc = s.clc ∧
    (storePoll c p s).brs = s.brs ∧ (storePoll c p s).trc = s.trc ∧ (storePoll c p s).dri = s.dri ∧
    (storePoll c p s).adm = s.adm ∧ (storePoll c p s).lsu = s.lsu ∧ (storePoll c p s).lbp = s.lbp ∧
    (storePoll c p s).niu = s.niu ∧ (storePoll c p s).pins = s.pins ∧ (storePoll c p s).now = s.now ∧
    (storePoll c p s).pending = s.pending := by
  and_intros <;>
    (unfold storePoll; (try dsimp only); (repeat' split) <;> (try simp) <;> (try with_reducible rfl))

@[simp] theorem pollStop_frame (c : Car) (p : Poll) (s : State) :
    (pollStop c p s).cfg = s.cfg ∧ (pollStop c p s).cru = s.cru ∧ (pollStop c p s).lsu = s.lsu ∧
    (pollStop c p s).lbp = s.lbp ∧ (pollStop c p s).pins = s.pins ∧ (pollStop c p s).now = s.now ∧
    (pollStop c p s).pending = s.pending ∧ (pollStop c p s).psu.count = s.psu.count ∧
    (pollStop c p s).psu.countPrev = s.psu.countPrev ∧ (pollStop c p s).psu.pRef = s.psu.pRef ∧
    (pollStop c p s).psu.countRef = s.psu.countRef ∧ (pollStop c p s).psu.ref = s.psu.ref ∧
    (pollStop c p s).psu.expected = s.psu.expected ∧ (pollStop c p s).psu.sampleTimer = s.psu.sampleTimer ∧
    (pollStop c p s).psu.vEval = s.psu.vEval ∧ (pollStop c p s).psu.vRope = s.psu.vRope ∧
    (pollStop c p s).psu.ropeDir = s.psu.ropeDir ∧ (pollStop c p s).psu.travelDir = s.psu.travelDir ∧
    (pollStop c p s).psu.stillCount = s.psu.stillCount ∧ (pollStop c p s).psu.still = s.psu.still ∧
    (pollStop c p s).psu.armed = s.psu.armed ∧ (pollStop c p s).clc.c = s.clc.c ∧ (pollStop c p s).clc.w1 = s.clc.w1 ∧
    (pollStop c p s).clc.s = s.clc.s ∧ (pollStop c p s).clc.e = s.clc.e ∧ (pollStop c p s).clc.vdrv = s.clc.vdrv ∧
    (pollStop c p s).trc.drvMode = s.trc.drvMode ∧ (pollStop c p s).trc.conMode = s.trc.conMode ∧
    (pollStop c p s).trc.effMode = s.trc.effMode ∧ (pollStop c p s).trc.trip.number = s.trc.trip.number ∧
    (pollStop c p s).trc.trip.origin = s.trc.trip.origin ∧
    (pollStop c p s).trc.trip.destination = s.trc.trip.destination ∧
    (pollStop c p s).trc.trip.direction = s.trc.trip.direction ∧ (pollStop c p s).trc.trip.owner = s.trc.trip.owner ∧
    (pollStop c p s).trc.trip.lastDir = s.trc.trip.lastDir ∧ (pollStop c p s).trc.frozen = s.trc.frozen ∧
    (pollStop c p s).trc.debounced = s.trc.debounced ∧ (pollStop c p s).trc.elapsed = s.trc.elapsed ∧
    (pollStop c p s).niu.resetCauses = s.niu.resetCauses := by
  and_intros <;>
    (unfold pollStop; (try dsimp only); (repeat' split) <;> (try simp) <;> (try with_reducible rfl))

@[simp] theorem setLatch_frame (c : Car) (v : Bool) (s : State) :
    (setLatch c v s).cfg = s.cfg ∧ (setLatch c v s).psu = s.psu ∧ (setLatch c v s).clc = s.clc ∧
    (setLatch c v s).brs = s.brs ∧ (setLatch c v s).trc = s.trc ∧ (setLatch c v s).dri = s.dri ∧
    (setLatch c v s).lsu = s.lsu ∧ (setLatch c v s).lbp = s.lbp ∧ (setLatch c v s).niu = s.niu ∧
    (setLatch c v s).pins = s.pins ∧ (setLatch c v s).now = s.now ∧ (setLatch c v s).pending = s.pending ∧
    (setLatch c v s).adm.lanes = s.adm.lanes ∧ (setLatch c v s).adm.reservations = s.adm.reservations ∧
    (setLatch c v s).adm.uncounted = s.adm.uncounted ∧ (setLatch c v s).adm.releaseMark = s.adm.releaseMark := by
  and_intros <;>
    (unfold setLatch; (try dsimp only); (repeat' split) <;> (try simp) <;> (try with_reducible rfl))

@[simp] theorem pollAlarm_frame (c : Car) (p : Poll) (s : State) :
    (pollAlarm c p s).cfg = s.cfg ∧ (pollAlarm c p s).psu = s.psu ∧ (pollAlarm c p s).clc = s.clc ∧
    (pollAlarm c p s).brs = s.brs ∧ (pollAlarm c p s).trc = s.trc ∧ (pollAlarm c p s).dri = s.dri ∧
    (pollAlarm c p s).lsu = s.lsu ∧ (pollAlarm c p s).lbp = s.lbp ∧ (pollAlarm c p s).pins = s.pins ∧
    (pollAlarm c p s).now = s.now ∧ (pollAlarm c p s).pending = s.pending ∧
    (pollAlarm c p s).adm.lanes = s.adm.lanes ∧ (pollAlarm c p s).adm.reservations = s.adm.reservations ∧
    (pollAlarm c p s).adm.uncounted = s.adm.uncounted ∧ (pollAlarm c p s).adm.releaseMark = s.adm.releaseMark ∧
    (pollAlarm c p s).niu.resetCauses = s.niu.resetCauses := by
  and_intros <;>
    (unfold pollAlarm; (try dsimp only); (repeat' split) <;> (try simp) <;> (try with_reducible rfl))

@[simp] theorem pollMarker_frame (c : Car) (p : Poll) (s : State) :
    (pollMarker c p s).cfg = s.cfg ∧ (pollMarker c p s).cru = s.cru ∧ (pollMarker c p s).lsu = s.lsu ∧
    (pollMarker c p s).lbp = s.lbp ∧ (pollMarker c p s).pins = s.pins ∧ (pollMarker c p s).now = s.now ∧
    (pollMarker c p s).pending = s.pending ∧ (pollMarker c p s).psu.count = s.psu.count ∧
    (pollMarker c p s).psu.countPrev = s.psu.countPrev ∧ (pollMarker c p s).psu.sampleTimer = s.psu.sampleTimer ∧
    (pollMarker c p s).psu.vEval = s.psu.vEval ∧ (pollMarker c p s).psu.vRope = s.psu.vRope ∧
    (pollMarker c p s).psu.ropeDir = s.psu.ropeDir ∧ (pollMarker c p s).psu.travelDir = s.psu.travelDir ∧
    (pollMarker c p s).psu.stillCount = s.psu.stillCount ∧ (pollMarker c p s).psu.still = s.psu.still ∧
    (pollMarker c p s).psu.armed = s.psu.armed ∧ (pollMarker c p s).clc.c = s.clc.c ∧
    (pollMarker c p s).clc.w1 = s.clc.w1 ∧ (pollMarker c p s).clc.s = s.clc.s ∧ (pollMarker c p s).clc.e = s.clc.e ∧
    (pollMarker c p s).clc.vdrv = s.clc.vdrv ∧ (pollMarker c p s).trc.drvMode = s.trc.drvMode ∧
    (pollMarker c p s).trc.conMode = s.trc.conMode ∧ (pollMarker c p s).trc.effMode = s.trc.effMode ∧
    (pollMarker c p s).trc.trip.number = s.trc.trip.number ∧ (pollMarker c p s).trc.trip.origin = s.trc.trip.origin ∧
    (pollMarker c p s).trc.trip.destination = s.trc.trip.destination ∧
    (pollMarker c p s).trc.trip.direction = s.trc.trip.direction ∧
    (pollMarker c p s).trc.trip.owner = s.trc.trip.owner ∧ (pollMarker c p s).trc.trip.lastDir = s.trc.trip.lastDir ∧
    (pollMarker c p s).trc.frozen = s.trc.frozen ∧ (pollMarker c p s).trc.debounced = s.trc.debounced ∧
    (pollMarker c p s).trc.elapsed = s.trc.elapsed ∧ (pollMarker c p s).niu.resetCauses = s.niu.resetCauses := by
  and_intros <;>
    (unfold pollMarker; (try dsimp only); (repeat' split) <;> (try simp) <;> (try with_reducible rfl))

@[simp] theorem pollDoors_frame (c : Car) (s : State) :
    (pollDoors c s).cfg = s.cfg ∧ (pollDoors c s).cru = s.cru ∧ (pollDoors c s).lsu = s.lsu ∧
    (pollDoors c s).lbp = s.lbp ∧ (pollDoors c s).pins = s.pins ∧ (pollDoors c s).now = s.now ∧
    (pollDoors c s).pending = s.pending ∧ (pollDoors c s).psu.count = s.psu.count ∧
    (pollDoors c s).psu.countPrev = s.psu.countPrev ∧ (pollDoors c s).psu.pRef = s.psu.pRef ∧
    (pollDoors c s).psu.countRef = s.psu.countRef ∧ (pollDoors c s).psu.ref = s.psu.ref ∧
    (pollDoors c s).psu.expected = s.psu.expected ∧ (pollDoors c s).psu.sampleTimer = s.psu.sampleTimer ∧
    (pollDoors c s).psu.vEval = s.psu.vEval ∧ (pollDoors c s).psu.vRope = s.psu.vRope ∧
    (pollDoors c s).psu.ropeDir = s.psu.ropeDir ∧ (pollDoors c s).psu.travelDir = s.psu.travelDir ∧
    (pollDoors c s).psu.stillCount = s.psu.stillCount ∧ (pollDoors c s).psu.still = s.psu.still ∧
    (pollDoors c s).psu.armed = s.psu.armed ∧ (pollDoors c s).clc.c = s.clc.c ∧ (pollDoors c s).clc.w1 = s.clc.w1 ∧
    (pollDoors c s).clc.s = s.clc.s ∧ (pollDoors c s).clc.e = s.clc.e ∧ (pollDoors c s).clc.vdrv = s.clc.vdrv ∧
    (pollDoors c s).trc.drvMode = s.trc.drvMode ∧ (pollDoors c s).trc.conMode = s.trc.conMode ∧
    (pollDoors c s).trc.effMode = s.trc.effMode ∧ (pollDoors c s).trc.trip.number = s.trc.trip.number ∧
    (pollDoors c s).trc.trip.origin = s.trc.trip.origin ∧
    (pollDoors c s).trc.trip.destination = s.trc.trip.destination ∧
    (pollDoors c s).trc.trip.direction = s.trc.trip.direction ∧ (pollDoors c s).trc.trip.owner = s.trc.trip.owner ∧
    (pollDoors c s).trc.trip.lastDir = s.trc.trip.lastDir ∧ (pollDoors c s).trc.debounced = s.trc.debounced ∧
    (pollDoors c s).trc.elapsed = s.trc.elapsed ∧ (pollDoors c s).niu.resetCauses = s.niu.resetCauses := by
  and_intros <;>
    (unfold pollDoors; (try dsimp only); (repeat' split) <;> (try simp) <;> (try with_reducible rfl))

@[simp] theorem takePoll_frame (c : Car) (p : Poll) (s : State) :
    (takePoll c p s).cfg = s.cfg ∧ (takePoll c p s).lsu = s.lsu ∧ (takePoll c p s).lbp = s.lbp ∧
    (takePoll c p s).pins = s.pins ∧ (takePoll c p s).now = s.now ∧ (takePoll c p s).pending = s.pending ∧
    (takePoll c p s).psu.count = s.psu.count ∧ (takePoll c p s).psu.countPrev = s.psu.countPrev ∧
    (takePoll c p s).psu.sampleTimer = s.psu.sampleTimer ∧ (takePoll c p s).psu.vEval = s.psu.vEval ∧
    (takePoll c p s).psu.vRope = s.psu.vRope ∧ (takePoll c p s).psu.ropeDir = s.psu.ropeDir ∧
    (takePoll c p s).psu.travelDir = s.psu.travelDir ∧ (takePoll c p s).psu.stillCount = s.psu.stillCount ∧
    (takePoll c p s).psu.still = s.psu.still ∧ (takePoll c p s).psu.armed = s.psu.armed ∧
    (takePoll c p s).clc.c = s.clc.c ∧ (takePoll c p s).clc.w1 = s.clc.w1 ∧ (takePoll c p s).clc.s = s.clc.s ∧
    (takePoll c p s).clc.e = s.clc.e ∧ (takePoll c p s).clc.vdrv = s.clc.vdrv ∧
    (takePoll c p s).trc.drvMode = s.trc.drvMode ∧ (takePoll c p s).trc.conMode = s.trc.conMode ∧
    (takePoll c p s).trc.effMode = s.trc.effMode ∧ (takePoll c p s).trc.trip.number = s.trc.trip.number ∧
    (takePoll c p s).trc.trip.origin = s.trc.trip.origin ∧
    (takePoll c p s).trc.trip.destination = s.trc.trip.destination ∧
    (takePoll c p s).trc.trip.direction = s.trc.trip.direction ∧ (takePoll c p s).trc.trip.owner = s.trc.trip.owner ∧
    (takePoll c p s).trc.trip.lastDir = s.trc.trip.lastDir ∧ (takePoll c p s).trc.debounced = s.trc.debounced ∧
    (takePoll c p s).trc.elapsed = s.trc.elapsed ∧ (takePoll c p s).niu.resetCauses = s.niu.resetCauses := by
  and_intros <;>
    (unfold takePoll; (try dsimp only); (repeat' split) <;> (try simp) <;> (try with_reducible rfl))

@[simp] theorem uncommit_frame (s : State) :
    (uncommit s).cru = s.cru ∧ (uncommit s).psu = s.psu ∧ (uncommit s).clc = s.clc ∧ (uncommit s).brs = s.brs ∧
    (uncommit s).trc = s.trc ∧ (uncommit s).dri = s.dri ∧ (uncommit s).adm = s.adm ∧ (uncommit s).lsu = s.lsu ∧
    (uncommit s).lbp = s.lbp ∧ (uncommit s).niu = s.niu ∧ (uncommit s).pins = s.pins ∧ (uncommit s).now = s.now ∧
    (uncommit s).pending = s.pending ∧ (uncommit s).cfg.params = s.cfg.params ∧
    (uncommit s).cfg.doorSide = s.cfg.doorSide ∧ (uncommit s).cfg.profile = s.cfg.profile ∧
    (uncommit s).cfg.markers = s.cfg.markers ∧ (uncommit s).cfg.lanes = s.cfg.lanes := by
  and_intros <;>
    (unfold uncommit; (try dsimp only); (repeat' split) <;> (try simp) <;> (try with_reducible rfl))

@[simp] theorem settleStale_frame (s : State) :
    (settleStale s).cfg = s.cfg ∧ (settleStale s).lsu = s.lsu ∧ (settleStale s).lbp = s.lbp ∧
    (settleStale s).pins = s.pins ∧ (settleStale s).now = s.now ∧ (settleStale s).pending = s.pending ∧
    (settleStale s).psu.count = s.psu.count ∧ (settleStale s).psu.countPrev = s.psu.countPrev ∧
    (settleStale s).psu.pRef = s.psu.pRef ∧ (settleStale s).psu.countRef = s.psu.countRef ∧
    (settleStale s).psu.ref = s.psu.ref ∧ (settleStale s).psu.expected = s.psu.expected ∧
    (settleStale s).psu.sampleTimer = s.psu.sampleTimer ∧ (settleStale s).psu.vEval = s.psu.vEval ∧
    (settleStale s).psu.vRope = s.psu.vRope ∧ (settleStale s).psu.ropeDir = s.psu.ropeDir ∧
    (settleStale s).psu.travelDir = s.psu.travelDir ∧ (settleStale s).psu.stillCount = s.psu.stillCount ∧
    (settleStale s).psu.still = s.psu.still ∧ (settleStale s).psu.armed = s.psu.armed ∧
    (settleStale s).clc.c = s.clc.c ∧ (settleStale s).clc.w1 = s.clc.w1 ∧ (settleStale s).clc.s = s.clc.s ∧
    (settleStale s).clc.e = s.clc.e ∧ (settleStale s).clc.vdrv = s.clc.vdrv ∧
    (settleStale s).trc.drvMode = s.trc.drvMode ∧ (settleStale s).trc.conMode = s.trc.conMode ∧
    (settleStale s).trc.effMode = s.trc.effMode ∧ (settleStale s).trc.trip.number = s.trc.trip.number ∧
    (settleStale s).trc.trip.origin = s.trc.trip.origin ∧
    (settleStale s).trc.trip.destination = s.trc.trip.destination ∧
    (settleStale s).trc.trip.direction = s.trc.trip.direction ∧ (settleStale s).trc.trip.owner = s.trc.trip.owner ∧
    (settleStale s).trc.trip.lastDir = s.trc.trip.lastDir ∧ (settleStale s).trc.frozen = s.trc.frozen ∧
    (settleStale s).trc.debounced = s.trc.debounced ∧ (settleStale s).trc.elapsed = s.trc.elapsed ∧
    (settleStale s).niu.resetCauses = s.niu.resetCauses := by
  and_intros <;>
    (unfold settleStale; (try dsimp only); (repeat' split) <;> (try simp) <;> (try with_reducible rfl))

@[simp] theorem beforeWrite_frame (p : NumParam) (s : State) :
    (beforeWrite p s).cfg = s.cfg ∧ (beforeWrite p s).lsu = s.lsu ∧ (beforeWrite p s).lbp = s.lbp ∧
    (beforeWrite p s).pins = s.pins ∧ (beforeWrite p s).now = s.now ∧ (beforeWrite p s).pending = s.pending ∧
    (beforeWrite p s).psu.count = s.psu.count ∧ (beforeWrite p s).psu.countPrev = s.psu.countPrev ∧
    (beforeWrite p s).psu.ref = s.psu.ref ∧ (beforeWrite p s).psu.expected = s.psu.expected ∧
    (beforeWrite p s).psu.sampleTimer = s.psu.sampleTimer ∧ (beforeWrite p s).psu.vEval = s.psu.vEval ∧
    (beforeWrite p s).psu.vRope = s.psu.vRope ∧ (beforeWrite p s).psu.ropeDir = s.psu.ropeDir ∧
    (beforeWrite p s).psu.travelDir = s.psu.travelDir ∧ (beforeWrite p s).psu.stillCount = s.psu.stillCount ∧
    (beforeWrite p s).psu.still = s.psu.still ∧ (beforeWrite p s).psu.armed = s.psu.armed ∧
    (beforeWrite p s).clc.c = s.clc.c ∧ (beforeWrite p s).clc.w1 = s.clc.w1 ∧ (beforeWrite p s).clc.s = s.clc.s ∧
    (beforeWrite p s).clc.e = s.clc.e ∧ (beforeWrite p s).clc.vdrv = s.clc.vdrv ∧
    (beforeWrite p s).trc.drvMode = s.trc.drvMode ∧ (beforeWrite p s).trc.conMode = s.trc.conMode ∧
    (beforeWrite p s).trc.effMode = s.trc.effMode ∧ (beforeWrite p s).trc.trip.number = s.trc.trip.number ∧
    (beforeWrite p s).trc.trip.origin = s.trc.trip.origin ∧
    (beforeWrite p s).trc.trip.destination = s.trc.trip.destination ∧
    (beforeWrite p s).trc.trip.direction = s.trc.trip.direction ∧ (beforeWrite p s).trc.trip.owner = s.trc.trip.owner ∧
    (beforeWrite p s).trc.trip.lastDir = s.trc.trip.lastDir ∧ (beforeWrite p s).trc.frozen = s.trc.frozen ∧
    (beforeWrite p s).trc.debounced = s.trc.debounced ∧ (beforeWrite p s).trc.elapsed = s.trc.elapsed ∧
    (beforeWrite p s).niu.resetCauses = s.niu.resetCauses := by
  and_intros <;>
    (unfold beforeWrite; (try dsimp only); (repeat' split) <;> (try simp) <;> (try with_reducible rfl))

@[simp] theorem afterWrite_frame (p : NumParam) (s : State) :
    (afterWrite p s).cfg = s.cfg ∧ (afterWrite p s).lsu = s.lsu ∧ (afterWrite p s).lbp = s.lbp ∧
    (afterWrite p s).pins = s.pins ∧ (afterWrite p s).now = s.now ∧ (afterWrite p s).pending = s.pending ∧
    (afterWrite p s).psu.count = s.psu.count ∧ (afterWrite p s).psu.countPrev = s.psu.countPrev ∧
    (afterWrite p s).psu.pRef = s.psu.pRef ∧ (afterWrite p s).psu.countRef = s.psu.countRef ∧
    (afterWrite p s).psu.sampleTimer = s.psu.sampleTimer ∧ (afterWrite p s).psu.vEval = s.psu.vEval ∧
    (afterWrite p s).psu.vRope = s.psu.vRope ∧ (afterWrite p s).psu.ropeDir = s.psu.ropeDir ∧
    (afterWrite p s).psu.travelDir = s.psu.travelDir ∧ (afterWrite p s).psu.stillCount = s.psu.stillCount ∧
    (afterWrite p s).psu.still = s.psu.still ∧ (afterWrite p s).psu.armed = s.psu.armed ∧
    (afterWrite p s).clc.c = s.clc.c ∧ (afterWrite p s).clc.w1 = s.clc.w1 ∧ (afterWrite p s).clc.s = s.clc.s ∧
    (afterWrite p s).clc.e = s.clc.e ∧ (afterWrite p s).clc.vdrv = s.clc.vdrv ∧
    (afterWrite p s).trc.drvMode = s.trc.drvMode ∧ (afterWrite p s).trc.conMode = s.trc.conMode ∧
    (afterWrite p s).trc.effMode = s.trc.effMode ∧ (afterWrite p s).trc.trip.number = s.trc.trip.number ∧
    (afterWrite p s).trc.trip.origin = s.trc.trip.origin ∧
    (afterWrite p s).trc.trip.destination = s.trc.trip.destination ∧
    (afterWrite p s).trc.trip.direction = s.trc.trip.direction ∧ (afterWrite p s).trc.trip.owner = s.trc.trip.owner ∧
    (afterWrite p s).trc.trip.lastDir = s.trc.trip.lastDir ∧ (afterWrite p s).trc.frozen = s.trc.frozen ∧
    (afterWrite p s).trc.debounced = s.trc.debounced ∧ (afterWrite p s).trc.elapsed = s.trc.elapsed ∧
    (afterWrite p s).niu.resetCauses = s.niu.resetCauses := by
  and_intros <;>
    (unfold afterWrite; (try dsimp only); (repeat' split) <;> (try simp) <;> (try with_reducible rfl))

@[simp] theorem setMarkers_frame (f : List Nat → List Nat) (s : State) :
    (setMarkers f s).cru = s.cru ∧ (setMarkers f s).clc = s.clc ∧ (setMarkers f s).brs = s.brs ∧
    (setMarkers f s).trc = s.trc ∧ (setMarkers f s).dri = s.dri ∧ (setMarkers f s).adm = s.adm ∧
    (setMarkers f s).lsu = s.lsu ∧ (setMarkers f s).lbp = s.lbp ∧ (setMarkers f s).niu = s.niu ∧
    (setMarkers f s).pins = s.pins ∧ (setMarkers f s).now = s.now ∧ (setMarkers f s).pending = s.pending ∧
    (setMarkers f s).cfg.params = s.cfg.params ∧ (setMarkers f s).cfg.doorSide = s.cfg.doorSide ∧
    (setMarkers f s).cfg.profile = s.cfg.profile ∧ (setMarkers f s).cfg.lanes = s.cfg.lanes ∧
    (setMarkers f s).cfg.committed = s.cfg.committed ∧ (setMarkers f s).psu.count = s.psu.count ∧
    (setMarkers f s).psu.countPrev = s.psu.countPrev ∧ (setMarkers f s).psu.pRef = s.psu.pRef ∧
    (setMarkers f s).psu.countRef = s.psu.countRef ∧ (setMarkers f s).psu.sampleTimer = s.psu.sampleTimer ∧
    (setMarkers f s).psu.vEval = s.psu.vEval ∧ (setMarkers f s).psu.vRope = s.psu.vRope ∧
    (setMarkers f s).psu.ropeDir = s.psu.ropeDir ∧ (setMarkers f s).psu.travelDir = s.psu.travelDir ∧
    (setMarkers f s).psu.stillCount = s.psu.stillCount ∧ (setMarkers f s).psu.still = s.psu.still ∧
    (setMarkers f s).psu.heldCount = s.psu.heldCount ∧ (setMarkers f s).psu.furthest = s.psu.furthest ∧
    (setMarkers f s).psu.mismatch = s.psu.mismatch ∧ (setMarkers f s).psu.armed = s.psu.armed := by
  and_intros <;>
    (unfold setMarkers; (try dsimp only); (repeat' split) <;> (try simp) <;> (try with_reducible rfl))

@[simp] theorem putLane_frame (l : Lane) (s : State) :
    (putLane l s).cru = s.cru ∧ (putLane l s).psu = s.psu ∧ (putLane l s).clc = s.clc ∧ (putLane l s).brs = s.brs ∧
    (putLane l s).trc = s.trc ∧ (putLane l s).dri = s.dri ∧ (putLane l s).lsu = s.lsu ∧ (putLane l s).lbp = s.lbp ∧
    (putLane l s).niu = s.niu ∧ (putLane l s).pins = s.pins ∧ (putLane l s).now = s.now ∧
    (putLane l s).pending = s.pending ∧ (putLane l s).cfg.params = s.cfg.params ∧
    (putLane l s).cfg.doorSide = s.cfg.doorSide ∧ (putLane l s).cfg.profile = s.cfg.profile ∧
    (putLane l s).cfg.markers = s.cfg.markers ∧ (putLane l s).cfg.committed = s.cfg.committed ∧
    (putLane l s).adm.loads = s.adm.loads ∧ (putLane l s).adm.uncounted = s.adm.uncounted ∧
    (putLane l s).adm.releaseMark = s.adm.releaseMark := by
  and_intros <;>
    (unfold putLane; (try dsimp only); (repeat' split) <;> (try simp) <;> (try with_reducible rfl))

@[simp] theorem dropLane_frame (id : LaneId) (s : State) :
    (dropLane id s).cru = s.cru ∧ (dropLane id s).psu = s.psu ∧ (dropLane id s).clc = s.clc ∧
    (dropLane id s).brs = s.brs ∧ (dropLane id s).trc = s.trc ∧ (dropLane id s).dri = s.dri ∧
    (dropLane id s).lsu = s.lsu ∧ (dropLane id s).lbp = s.lbp ∧ (dropLane id s).niu = s.niu ∧
    (dropLane id s).pins = s.pins ∧ (dropLane id s).now = s.now ∧ (dropLane id s).pending = s.pending ∧
    (dropLane id s).cfg.params = s.cfg.params ∧ (dropLane id s).cfg.doorSide = s.cfg.doorSide ∧
    (dropLane id s).cfg.profile = s.cfg.profile ∧ (dropLane id s).cfg.markers = s.cfg.markers ∧
    (dropLane id s).cfg.committed = s.cfg.committed ∧ (dropLane id s).adm.loads = s.adm.loads ∧
    (dropLane id s).adm.uncounted = s.adm.uncounted ∧ (dropLane id s).adm.releaseMark = s.adm.releaseMark := by
  and_intros <;>
    (unfold dropLane; (try dsimp only); (repeat' split) <;> (try simp) <;> (try with_reducible rfl))

@[simp] theorem driveSilent_frame (s : State) :
    (driveSilent s).cfg = s.cfg ∧ (driveSilent s).cru = s.cru ∧ (driveSilent s).lsu = s.lsu ∧
    (driveSilent s).lbp = s.lbp ∧ (driveSilent s).pins = s.pins ∧ (driveSilent s).now = s.now ∧
    (driveSilent s).pending = s.pending ∧ (driveSilent s).psu.count = s.psu.count ∧
    (driveSilent s).psu.countPrev = s.psu.countPrev ∧ (driveSilent s).psu.pRef = s.psu.pRef ∧
    (driveSilent s).psu.countRef = s.psu.countRef ∧ (driveSilent s).psu.ref = s.psu.ref ∧
    (driveSilent s).psu.expected = s.psu.expected ∧ (driveSilent s).psu.sampleTimer = s.psu.sampleTimer ∧
    (driveSilent s).psu.vEval = s.psu.vEval ∧ (driveSilent s).psu.vRope = s.psu.vRope ∧
    (driveSilent s).psu.ropeDir = s.psu.ropeDir ∧ (driveSilent s).psu.travelDir = s.psu.travelDir ∧
    (driveSilent s).psu.stillCount = s.psu.stillCount ∧ (driveSilent s).psu.still = s.psu.still ∧
    (driveSilent s).psu.armed = s.psu.armed ∧ (driveSilent s).clc.c = s.clc.c ∧ (driveSilent s).clc.w1 = s.clc.w1 ∧
    (driveSilent s).clc.s = s.clc.s ∧ (driveSilent s).clc.e = s.clc.e ∧ (driveSilent s).clc.vdrv = s.clc.vdrv ∧
    (driveSilent s).trc.drvMode = s.trc.drvMode ∧ (driveSilent s).trc.conMode = s.trc.conMode ∧
    (driveSilent s).trc.effMode = s.trc.effMode ∧ (driveSilent s).trc.trip.number = s.trc.trip.number ∧
    (driveSilent s).trc.trip.origin = s.trc.trip.origin ∧
    (driveSilent s).trc.trip.destination = s.trc.trip.destination ∧
    (driveSilent s).trc.trip.direction = s.trc.trip.direction ∧ (driveSilent s).trc.trip.owner = s.trc.trip.owner ∧
    (driveSilent s).trc.trip.lastDir = s.trc.trip.lastDir ∧ (driveSilent s).trc.frozen = s.trc.frozen ∧
    (driveSilent s).trc.debounced = s.trc.debounced ∧ (driveSilent s).trc.elapsed = s.trc.elapsed ∧
    (driveSilent s).niu.resetCauses = s.niu.resetCauses := by
  and_intros <;>
    (unfold driveSilent; (try dsimp only); (repeat' split) <;> (try simp) <;> (try with_reducible rfl))

@[simp] theorem notReleased_frame (s : State) :
    (notReleased s).cfg = s.cfg ∧ (notReleased s).cru = s.cru ∧ (notReleased s).lsu = s.lsu ∧
    (notReleased s).lbp = s.lbp ∧ (notReleased s).pins = s.pins ∧ (notReleased s).now = s.now ∧
    (notReleased s).pending = s.pending ∧ (notReleased s).psu.count = s.psu.count ∧
    (notReleased s).psu.countPrev = s.psu.countPrev ∧ (notReleased s).psu.pRef = s.psu.pRef ∧
    (notReleased s).psu.countRef = s.psu.countRef ∧ (notReleased s).psu.ref = s.psu.ref ∧
    (notReleased s).psu.expected = s.psu.expected ∧ (notReleased s).psu.sampleTimer = s.psu.sampleTimer ∧
    (notReleased s).psu.vEval = s.psu.vEval ∧ (notReleased s).psu.vRope = s.psu.vRope ∧
    (notReleased s).psu.ropeDir = s.psu.ropeDir ∧ (notReleased s).psu.travelDir = s.psu.travelDir ∧
    (notReleased s).psu.stillCount = s.psu.stillCount ∧ (notReleased s).psu.still = s.psu.still ∧
    (notReleased s).psu.armed = s.psu.armed ∧ (notReleased s).clc.c = s.clc.c ∧ (notReleased s).clc.w1 = s.clc.w1 ∧
    (notReleased s).clc.s = s.clc.s ∧ (notReleased s).clc.e = s.clc.e ∧ (notReleased s).clc.vdrv = s.clc.vdrv ∧
    (notReleased s).trc.drvMode = s.trc.drvMode ∧ (notReleased s).trc.conMode = s.trc.conMode ∧
    (notReleased s).trc.effMode = s.trc.effMode ∧ (notReleased s).trc.debounced = s.trc.debounced ∧
    (notReleased s).trc.elapsed = s.trc.elapsed ∧ (notReleased s).niu.resetCauses = s.niu.resetCauses := by
  and_intros <;>
    (unfold notReleased; (try dsimp only); (repeat' split) <;> (try simp) <;> (try with_reducible rfl))

@[simp] theorem notApplied_frame (b : Brake) (t : Timer) (s : State) :
    (notApplied b t s).cfg = s.cfg ∧ (notApplied b t s).cru = s.cru ∧ (notApplied b t s).lsu = s.lsu ∧
    (notApplied b t s).lbp = s.lbp ∧ (notApplied b t s).pins = s.pins ∧ (notApplied b t s).now = s.now ∧
    (notApplied b t s).pending = s.pending ∧ (notApplied b t s).psu.count = s.psu.count ∧
    (notApplied b t s).psu.countPrev = s.psu.countPrev ∧ (notApplied b t s).psu.pRef = s.psu.pRef ∧
    (notApplied b t s).psu.countRef = s.psu.countRef ∧ (notApplied b t s).psu.ref = s.psu.ref ∧
    (notApplied b t s).psu.expected = s.psu.expected ∧ (notApplied b t s).psu.sampleTimer = s.psu.sampleTimer ∧
    (notApplied b t s).psu.vEval = s.psu.vEval ∧ (notApplied b t s).psu.vRope = s.psu.vRope ∧
    (notApplied b t s).psu.ropeDir = s.psu.ropeDir ∧ (notApplied b t s).psu.travelDir = s.psu.travelDir ∧
    (notApplied b t s).psu.stillCount = s.psu.stillCount ∧ (notApplied b t s).psu.still = s.psu.still ∧
    (notApplied b t s).psu.armed = s.psu.armed ∧ (notApplied b t s).clc.c = s.clc.c ∧
    (notApplied b t s).clc.w1 = s.clc.w1 ∧ (notApplied b t s).clc.s = s.clc.s ∧ (notApplied b t s).clc.e = s.clc.e ∧
    (notApplied b t s).clc.vdrv = s.clc.vdrv ∧ (notApplied b t s).trc.drvMode = s.trc.drvMode ∧
    (notApplied b t s).trc.conMode = s.trc.conMode ∧ (notApplied b t s).trc.effMode = s.trc.effMode ∧
    (notApplied b t s).trc.trip.number = s.trc.trip.number ∧ (notApplied b t s).trc.trip.origin = s.trc.trip.origin ∧
    (notApplied b t s).trc.trip.destination = s.trc.trip.destination ∧
    (notApplied b t s).trc.trip.direction = s.trc.trip.direction ∧
    (notApplied b t s).trc.trip.owner = s.trc.trip.owner ∧ (notApplied b t s).trc.trip.lastDir = s.trc.trip.lastDir ∧
    (notApplied b t s).trc.frozen = s.trc.frozen ∧ (notApplied b t s).trc.debounced = s.trc.debounced ∧
    (notApplied b t s).trc.elapsed = s.trc.elapsed ∧ (notApplied b t s).niu.resetCauses = s.niu.resetCauses := by
  and_intros <;>
    (unfold notApplied; (try dsimp only); (repeat' split) <;> (try simp) <;> (try with_reducible rfl))

@[simp] theorem timerAtFeedback_frame (b : Brake) (level : Feedback) (s : State) :
    (timerAtFeedback b level s).cfg = s.cfg ∧ (timerAtFeedback b level s).cru = s.cru ∧
    (timerAtFeedback b level s).psu = s.psu ∧ (timerAtFeedback b level s).clc = s.clc ∧
    (timerAtFeedback b level s).trc = s.trc ∧ (timerAtFeedback b level s).dri = s.dri ∧
    (timerAtFeedback b level s).adm = s.adm ∧ (timerAtFeedback b level s).lsu = s.lsu ∧
    (timerAtFeedback b level s).lbp = s.lbp ∧ (timerAtFeedback b level s).niu = s.niu ∧
    (timerAtFeedback b level s).pins = s.pins ∧ (timerAtFeedback b level s).now = s.now ∧
    (timerAtFeedback b level s).pending = s.pending := by
  and_intros <;>
    (unfold timerAtFeedback; (try dsimp only); (repeat' split) <;> (try simp) <;> (try with_reducible rfl))

@[simp] theorem takeFeedback_frame (b : Brake) (level : Feedback) (s : State) :
    (takeFeedback b level s).cfg = s.cfg ∧ (takeFeedback b level s).cru = s.cru ∧
    (takeFeedback b level s).lsu = s.lsu ∧ (takeFeedback b level s).lbp = s.lbp ∧
    (takeFeedback b level s).pins = s.pins ∧ (takeFeedback b level s).now = s.now ∧
    (takeFeedback b level s).pending = s.pending ∧ (takeFeedback b level s).psu.count = s.psu.count ∧
    (takeFeedback b level s).psu.countPrev = s.psu.countPrev ∧ (takeFeedback b level s).psu.pRef = s.psu.pRef ∧
    (takeFeedback b level s).psu.countRef = s.psu.countRef ∧ (takeFeedback b level s).psu.ref = s.psu.ref ∧
    (takeFeedback b level s).psu.expected = s.psu.expected ∧
    (takeFeedback b level s).psu.sampleTimer = s.psu.sampleTimer ∧ (takeFeedback b level s).psu.vEval = s.psu.vEval ∧
    (takeFeedback b level s).psu.vRope = s.psu.vRope ∧ (takeFeedback b level s).psu.ropeDir = s.psu.ropeDir ∧
    (takeFeedback b level s).psu.travelDir = s.psu.travelDir ∧
    (takeFeedback b level s).psu.stillCount = s.psu.stillCount ∧ (takeFeedback b level s).psu.still = s.psu.still ∧
    (takeFeedback b level s).psu.armed = s.psu.armed ∧ (takeFeedback b level s).clc.c = s.clc.c ∧
    (takeFeedback b level s).clc.w1 = s.clc.w1 ∧ (takeFeedback b level s).clc.s = s.clc.s ∧
    (takeFeedback b level s).clc.e = s.clc.e ∧ (takeFeedback b level s).clc.vdrv = s.clc.vdrv ∧
    (takeFeedback b level s).trc.drvMode = s.trc.drvMode ∧ (takeFeedback b level s).trc.conMode = s.trc.conMode ∧
    (takeFeedback b level s).trc.effMode = s.trc.effMode ∧
    (takeFeedback b level s).trc.trip.number = s.trc.trip.number ∧
    (takeFeedback b level s).trc.trip.origin = s.trc.trip.origin ∧
    (takeFeedback b level s).trc.trip.destination = s.trc.trip.destination ∧
    (takeFeedback b level s).trc.trip.direction = s.trc.trip.direction ∧
    (takeFeedback b level s).trc.trip.owner = s.trc.trip.owner ∧
    (takeFeedback b level s).trc.trip.lastDir = s.trc.trip.lastDir ∧
    (takeFeedback b level s).trc.frozen = s.trc.frozen ∧ (takeFeedback b level s).trc.debounced = s.trc.debounced ∧
    (takeFeedback b level s).trc.elapsed = s.trc.elapsed ∧
    (takeFeedback b level s).niu.resetCauses = s.niu.resetCauses := by
  and_intros <;>
    (unfold takeFeedback; (try dsimp only); (repeat' split) <;> (try simp) <;> (try with_reducible rfl))

@[simp] theorem heldInput_frame (b : Brake) (level : Feedback) (s : State) :
    (heldInput b level s).cfg = s.cfg ∧ (heldInput b level s).cru = s.cru ∧ (heldInput b level s).psu = s.psu ∧
    (heldInput b level s).clc = s.clc ∧ (heldInput b level s).brs = s.brs ∧ (heldInput b level s).trc = s.trc ∧
    (heldInput b level s).dri = s.dri ∧ (heldInput b level s).adm = s.adm ∧ (heldInput b level s).lsu = s.lsu ∧
    (heldInput b level s).lbp = s.lbp ∧ (heldInput b level s).niu = s.niu ∧ (heldInput b level s).pending = s.pending := by
  and_intros <;>
    (unfold heldInput; (try dsimp only); (repeat' split) <;> (try simp) <;> (try with_reducible rfl))

@[simp] theorem endEvacuations_frame (s : State) :
    (endEvacuations s).cfg = s.cfg ∧ (endEvacuations s).cru = s.cru ∧ (endEvacuations s).psu = s.psu ∧
    (endEvacuations s).clc = s.clc ∧ (endEvacuations s).brs = s.brs ∧ (endEvacuations s).trc = s.trc ∧
    (endEvacuations s).adm = s.adm ∧ (endEvacuations s).lsu = s.lsu ∧ (endEvacuations s).lbp = s.lbp ∧
    (endEvacuations s).niu = s.niu ∧ (endEvacuations s).pins = s.pins ∧ (endEvacuations s).now = s.now ∧
    (endEvacuations s).pending = s.pending ∧ (endEvacuations s).dri.maint = s.dri.maint ∧
    (endEvacuations s).dri.phase = s.dri.phase ∧ (endEvacuations s).dri.leadTimer = s.dri.leadTimer ∧
    (endEvacuations s).dri.doorTimer = s.dri.doorTimer := by
  and_intros <;>
    (unfold endEvacuations; (try dsimp only); (repeat' split) <;> (try simp) <;> (try with_reducible rfl))

@[simp] theorem clearStage_frame (s : State) :
    (clearStage s).cfg = s.cfg ∧ (clearStage s).cru = s.cru ∧ (clearStage s).lsu = s.lsu ∧
    (clearStage s).lbp = s.lbp ∧ (clearStage s).pins = s.pins ∧ (clearStage s).now = s.now ∧
    (clearStage s).pending = s.pending ∧ (clearStage s).psu.count = s.psu.count ∧
    (clearStage s).psu.countPrev = s.psu.countPrev ∧ (clearStage s).psu.pRef = s.psu.pRef ∧
    (clearStage s).psu.countRef = s.psu.countRef ∧ (clearStage s).psu.ref = s.psu.ref ∧
    (clearStage s).psu.expected = s.psu.expected ∧ (clearStage s).psu.sampleTimer = s.psu.sampleTimer ∧
    (clearStage s).psu.vEval = s.psu.vEval ∧ (clearStage s).psu.vRope = s.psu.vRope ∧
    (clearStage s).psu.ropeDir = s.psu.ropeDir ∧ (clearStage s).psu.travelDir = s.psu.travelDir ∧
    (clearStage s).psu.stillCount = s.psu.stillCount ∧ (clearStage s).psu.still = s.psu.still ∧
    (clearStage s).psu.armed = s.psu.armed ∧ (clearStage s).clc.c = s.clc.c ∧ (clearStage s).clc.w1 = s.clc.w1 ∧
    (clearStage s).clc.s = s.clc.s ∧ (clearStage s).clc.e = s.clc.e ∧ (clearStage s).clc.vdrv = s.clc.vdrv ∧
    (clearStage s).brs.sbFb = s.brs.sbFb ∧ (clearStage s).brs.ebFb = s.brs.ebFb ∧
    (clearStage s).brs.lastRefresh = s.brs.lastRefresh ∧ (clearStage s).brs.warnArmed = s.brs.warnArmed ∧
    (clearStage s).trc.drvMode = s.trc.drvMode ∧ (clearStage s).trc.conMode = s.trc.conMode ∧
    (clearStage s).trc.effMode = s.trc.effMode ∧ (clearStage s).trc.trip.number = s.trc.trip.number ∧
    (clearStage s).trc.trip.origin = s.trc.trip.origin ∧
    (clearStage s).trc.trip.destination = s.trc.trip.destination ∧
    (clearStage s).trc.trip.direction = s.trc.trip.direction ∧ (clearStage s).trc.trip.owner = s.trc.trip.owner ∧
    (clearStage s).trc.trip.lastDir = s.trc.trip.lastDir ∧ (clearStage s).trc.frozen = s.trc.frozen ∧
    (clearStage s).trc.debounced = s.trc.debounced ∧ (clearStage s).dri.maint = s.dri.maint ∧
    (clearStage s).niu.incidents = s.niu.incidents ∧ (clearStage s).niu.overflow = s.niu.overflow ∧
    (clearStage s).niu.seq = s.niu.seq ∧ (clearStage s).niu.resetCauses = s.niu.resetCauses := by
  and_intros <;>
    (unfold clearStage; (try dsimp only); (repeat' split) <;> (try simp) <;> (try with_reducible rfl))

@[simp] theorem setStanding_frame (st : Station) (m : Mode) (s : State) :
    (setStanding st m s).cfg = s.cfg ∧ (setStanding st m s).cru = s.cru ∧ (setStanding st m s).psu = s.psu ∧
    (setStanding st m s).clc = s.clc ∧ (setStanding st m s).brs = s.brs ∧ (setStanding st m s).dri = s.dri ∧
    (setStanding st m s).adm = s.adm ∧ (setStanding st m s).lsu = s.lsu ∧ (setStanding st m s).lbp = s.lbp ∧
    (setStanding st m s).niu = s.niu ∧ (setStanding st m s).pins = s.pins ∧ (setStanding st m s).now = s.now ∧
    (setStanding st m s).pending = s.pending ∧ (setStanding st m s).trc.state = s.trc.state ∧
    (setStanding st m s).trc.slot0 = s.trc.slot0 ∧ (setStanding st m s).trc.slot1 = s.trc.slot1 ∧
    (setStanding st m s).trc.effMode = s.trc.effMode ∧ (setStanding st m s).trc.trip = s.trc.trip ∧
    (setStanding st m s).trc.frozen = s.trc.frozen ∧ (setStanding st m s).trc.debounced = s.trc.debounced ∧
    (setStanding st m s).trc.minDwell = s.trc.minDwell ∧ (setStanding st m s).trc.elapsed = s.trc.elapsed ∧
    (setStanding st m s).trc.settleTimer = s.trc.settleTimer := by
  and_intros <;>
    (unfold setStanding; (try dsimp only); (repeat' split) <;> (try simp) <;> (try with_reducible rfl))

@[simp] theorem debounce_frame (v : Bool) (s : State) :
    (debounce v s).cfg = s.cfg ∧ (debounce v s).cru = s.cru ∧ (debounce v s).psu = s.psu ∧
    (debounce v s).clc = s.clc ∧ (debounce v s).brs = s.brs ∧ (debounce v s).dri = s.dri ∧
    (debounce v s).adm = s.adm ∧ (debounce v s).lsu = s.lsu ∧ (debounce v s).lbp = s.lbp ∧
    (debounce v s).niu = s.niu ∧ (debounce v s).pending = s.pending ∧ (debounce v s).trc.state = s.trc.state ∧
    (debounce v s).trc.slot0 = s.trc.slot0 ∧ (debounce v s).trc.slot1 = s.trc.slot1 ∧
    (debounce v s).trc.drvMode = s.trc.drvMode ∧ (debounce v s).trc.conMode = s.trc.conMode ∧
    (debounce v s).trc.effMode = s.trc.effMode ∧ (debounce v s).trc.trip = s.trc.trip ∧
    (debounce v s).trc.frozen = s.trc.frozen ∧ (debounce v s).trc.minDwell = s.trc.minDwell ∧
    (debounce v s).trc.elapsed = s.trc.elapsed ∧ (debounce v s).trc.settleTimer = s.trc.settleTimer := by
  and_intros <;>
    (unfold debounce; (try dsimp only); (repeat' split) <;> (try simp) <;> (try with_reducible rfl))

@[simp] theorem dwellElapsed_frame (s : State) :
    (dwellElapsed s).cfg = s.cfg ∧ (dwellElapsed s).cru = s.cru ∧ (dwellElapsed s).lsu = s.lsu ∧
    (dwellElapsed s).lbp = s.lbp ∧ (dwellElapsed s).pins = s.pins ∧ (dwellElapsed s).now = s.now ∧
    (dwellElapsed s).pending = s.pending ∧ (dwellElapsed s).psu.count = s.psu.count ∧
    (dwellElapsed s).psu.countPrev = s.psu.countPrev ∧ (dwellElapsed s).psu.pRef = s.psu.pRef ∧
    (dwellElapsed s).psu.countRef = s.psu.countRef ∧ (dwellElapsed s).psu.ref = s.psu.ref ∧
    (dwellElapsed s).psu.expected = s.psu.expected ∧ (dwellElapsed s).psu.sampleTimer = s.psu.sampleTimer ∧
    (dwellElapsed s).psu.vEval = s.psu.vEval ∧ (dwellElapsed s).psu.vRope = s.psu.vRope ∧
    (dwellElapsed s).psu.ropeDir = s.psu.ropeDir ∧ (dwellElapsed s).psu.travelDir = s.psu.travelDir ∧
    (dwellElapsed s).psu.stillCount = s.psu.stillCount ∧ (dwellElapsed s).psu.still = s.psu.still ∧
    (dwellElapsed s).psu.armed = s.psu.armed ∧ (dwellElapsed s).clc.c = s.clc.c ∧ (dwellElapsed s).clc.w1 = s.clc.w1 ∧
    (dwellElapsed s).clc.s = s.clc.s ∧ (dwellElapsed s).clc.e = s.clc.e ∧ (dwellElapsed s).clc.vdrv = s.clc.vdrv ∧
    (dwellElapsed s).trc.drvMode = s.trc.drvMode ∧ (dwellElapsed s).trc.conMode = s.trc.conMode ∧
    (dwellElapsed s).trc.effMode = s.trc.effMode ∧ (dwellElapsed s).trc.debounced = s.trc.debounced ∧
    (dwellElapsed s).niu.resetCauses = s.niu.resetCauses := by
  and_intros <;>
    (unfold dwellElapsed; (try dsimp only); (repeat' split) <;> (try simp) <;> (try with_reducible rfl))

@[simp] theorem settled_frame (s : State) :
    (settled s).cfg = s.cfg ∧ (settled s).cru = s.cru ∧ (settled s).lsu = s.lsu ∧ (settled s).lbp = s.lbp ∧
    (settled s).pins = s.pins ∧ (settled s).now = s.now ∧ (settled s).pending = s.pending ∧
    (settled s).psu.count = s.psu.count ∧ (settled s).psu.countPrev = s.psu.countPrev ∧
    (settled s).psu.pRef = s.psu.pRef ∧ (settled s).psu.countRef = s.psu.countRef ∧ (settled s).psu.ref = s.psu.ref ∧
    (settled s).psu.expected = s.psu.expected ∧ (settled s).psu.sampleTimer = s.psu.sampleTimer ∧
    (settled s).psu.vEval = s.psu.vEval ∧ (settled s).psu.vRope = s.psu.vRope ∧
    (settled s).psu.ropeDir = s.psu.ropeDir ∧ (settled s).psu.travelDir = s.psu.travelDir ∧
    (settled s).psu.stillCount = s.psu.stillCount ∧ (settled s).psu.still = s.psu.still ∧
    (settled s).psu.armed = s.psu.armed ∧ (settled s).clc.c = s.clc.c ∧ (settled s).clc.w1 = s.clc.w1 ∧
    (settled s).clc.s = s.clc.s ∧ (settled s).clc.e = s.clc.e ∧ (settled s).clc.vdrv = s.clc.vdrv ∧
    (settled s).trc.drvMode = s.trc.drvMode ∧ (settled s).trc.conMode = s.trc.conMode ∧
    (settled s).trc.effMode = s.trc.effMode ∧ (settled s).trc.trip.number = s.trc.trip.number ∧
    (settled s).trc.trip.origin = s.trc.trip.origin ∧ (settled s).trc.trip.destination = s.trc.trip.destination ∧
    (settled s).trc.trip.direction = s.trc.trip.direction ∧ (settled s).trc.trip.owner = s.trc.trip.owner ∧
    (settled s).trc.trip.lastDir = s.trc.trip.lastDir ∧ (settled s).trc.frozen = s.trc.frozen ∧
    (settled s).trc.debounced = s.trc.debounced ∧ (settled s).trc.elapsed = s.trc.elapsed ∧
    (settled s).niu.resetCauses = s.niu.resetCauses := by
  and_intros <;>
    (unfold settled; (try dsimp only); (repeat' split) <;> (try simp) <;> (try with_reducible rfl))

@[simp] theorem setEvac_frame (c : Car) (v : Bool) (s : State) :
    (setEvac c v s).cfg = s.cfg ∧ (setEvac c v s).cru = s.cru ∧ (setEvac c v s).psu = s.psu ∧
    (setEvac c v s).clc = s.clc ∧ (setEvac c v s).brs = s.brs ∧ (setEvac c v s).trc = s.trc ∧
    (setEvac c v s).adm = s.adm ∧ (setEvac c v s).lsu = s.lsu ∧ (setEvac c v s).lbp = s.lbp ∧
    (setEvac c v s).niu = s.niu ∧ (setEvac c v s).pins = s.pins ∧ (setEvac c v s).now = s.now ∧
    (setEvac c v s).pending = s.pending ∧ (setEvac c v s).dri.maint = s.dri.maint ∧
    (setEvac c v s).dri.phase = s.dri.phase ∧ (setEvac c v s).dri.leadTimer = s.dri.leadTimer ∧
    (setEvac c v s).dri.doorTimer = s.dri.doorTimer := by
  and_intros <;>
    (unfold setEvac; (try dsimp only); (repeat' split) <;> (try simp) <;> (try with_reducible rfl))

@[simp] theorem setMaint_frame (c : Car) (d : Side) (v : Bool) (s : State) :
    (setMaint c d v s).cfg = s.cfg ∧ (setMaint c d v s).cru = s.cru ∧ (setMaint c d v s).psu = s.psu ∧
    (setMaint c d v s).clc = s.clc ∧ (setMaint c d v s).brs = s.brs ∧ (setMaint c d v s).trc = s.trc ∧
    (setMaint c d v s).adm = s.adm ∧ (setMaint c d v s).lsu = s.lsu ∧ (setMaint c d v s).lbp = s.lbp ∧
    (setMaint c d v s).niu = s.niu ∧ (setMaint c d v s).pins = s.pins ∧ (setMaint c d v s).now = s.now ∧
    (setMaint c d v s).pending = s.pending ∧ (setMaint c d v s).dri.evac = s.dri.evac ∧
    (setMaint c d v s).dri.phase = s.dri.phase ∧ (setMaint c d v s).dri.leadTimer = s.dri.leadTimer ∧
    (setMaint c d v s).dri.doorTimer = s.dri.doorTimer := by
  and_intros <;>
    (unfold setMaint; (try dsimp only); (repeat' split) <;> (try simp) <;> (try with_reducible rfl))

@[simp] theorem endMaint_frame (s : State) :
    (endMaint s).cfg = s.cfg ∧ (endMaint s).cru = s.cru ∧ (endMaint s).psu = s.psu ∧ (endMaint s).clc = s.clc ∧
    (endMaint s).brs = s.brs ∧ (endMaint s).trc = s.trc ∧ (endMaint s).adm = s.adm ∧ (endMaint s).lsu = s.lsu ∧
    (endMaint s).lbp = s.lbp ∧ (endMaint s).niu = s.niu ∧ (endMaint s).pins = s.pins ∧ (endMaint s).now = s.now ∧
    (endMaint s).pending = s.pending ∧ (endMaint s).dri.evac = s.dri.evac ∧ (endMaint s).dri.phase = s.dri.phase ∧
    (endMaint s).dri.leadTimer = s.dri.leadTimer ∧ (endMaint s).dri.doorTimer = s.dri.doorTimer := by
  and_intros <;>
    (unfold endMaint; (try dsimp only); (repeat' split) <;> (try simp) <;> (try with_reducible rfl))

@[simp] theorem leadElapsed_frame (s : State) :
    (leadElapsed s).cfg = s.cfg ∧ (leadElapsed s).cru = s.cru ∧ (leadElapsed s).psu = s.psu ∧
    (leadElapsed s).clc = s.clc ∧ (leadElapsed s).brs = s.brs ∧ (leadElapsed s).trc = s.trc ∧
    (leadElapsed s).lsu = s.lsu ∧ (leadElapsed s).lbp = s.lbp ∧ (leadElapsed s).pins = s.pins ∧
    (leadElapsed s).now = s.now ∧ (leadElapsed s).pending = s.pending ∧ (leadElapsed s).dri.evac = s.dri.evac ∧
    (leadElapsed s).dri.maint = s.dri.maint ∧ (leadElapsed s).dri.doorTimer = s.dri.doorTimer ∧
    (leadElapsed s).adm.lanes = s.adm.lanes ∧ (leadElapsed s).adm.reservations = s.adm.reservations ∧
    (leadElapsed s).adm.loads = s.adm.loads ∧ (leadElapsed s).adm.uncounted = s.adm.uncounted ∧
    (leadElapsed s).niu.incidents = s.niu.incidents ∧ (leadElapsed s).niu.overflow = s.niu.overflow ∧
    (leadElapsed s).niu.seq = s.niu.seq ∧ (leadElapsed s).niu.resetCauses = s.niu.resetCauses := by
  and_intros <;>
    (unfold leadElapsed; (try dsimp only); (repeat' split) <;> (try simp) <;> (try with_reducible rfl))

@[simp] theorem doorsTimedOut_frame (s : State) :
    (doorsTimedOut s).cfg = s.cfg ∧ (doorsTimedOut s).cru = s.cru ∧ (doorsTimedOut s).lsu = s.lsu ∧
    (doorsTimedOut s).lbp = s.lbp ∧ (doorsTimedOut s).pins = s.pins ∧ (doorsTimedOut s).now = s.now ∧
    (doorsTimedOut s).pending = s.pending ∧ (doorsTimedOut s).psu.count = s.psu.count ∧
    (doorsTimedOut s).psu.countPrev = s.psu.countPrev ∧ (doorsTimedOut s).psu.pRef = s.psu.pRef ∧
    (doorsTimedOut s).psu.countRef = s.psu.countRef ∧ (doorsTimedOut s).psu.ref = s.psu.ref ∧
    (doorsTimedOut s).psu.expected = s.psu.expected ∧ (doorsTimedOut s).psu.sampleTimer = s.psu.sampleTimer ∧
    (doorsTimedOut s).psu.vEval = s.psu.vEval ∧ (doorsTimedOut s).psu.vRope = s.psu.vRope ∧
    (doorsTimedOut s).psu.ropeDir = s.psu.ropeDir ∧ (doorsTimedOut s).psu.travelDir = s.psu.travelDir ∧
    (doorsTimedOut s).psu.stillCount = s.psu.stillCount ∧ (doorsTimedOut s).psu.still = s.psu.still ∧
    (doorsTimedOut s).psu.armed = s.psu.armed ∧ (doorsTimedOut s).clc.c = s.clc.c ∧
    (doorsTimedOut s).clc.w1 = s.clc.w1 ∧ (doorsTimedOut s).clc.s = s.clc.s ∧ (doorsTimedOut s).clc.e = s.clc.e ∧
    (doorsTimedOut s).clc.vdrv = s.clc.vdrv ∧ (doorsTimedOut s).trc.drvMode = s.trc.drvMode ∧
    (doorsTimedOut s).trc.conMode = s.trc.conMode ∧ (doorsTimedOut s).trc.effMode = s.trc.effMode ∧
    (doorsTimedOut s).trc.debounced = s.trc.debounced ∧ (doorsTimedOut s).trc.elapsed = s.trc.elapsed ∧
    (doorsTimedOut s).niu.resetCauses = s.niu.resetCauses := by
  and_intros <;>
    (unfold doorsTimedOut; (try dsimp only); (repeat' split) <;> (try simp) <;> (try with_reducible rfl))

@[simp] theorem onLane_frame (id : LaneId) (f : LaneOp → LaneOp) (s : State) :
    (onLane id f s).cfg = s.cfg ∧ (onLane id f s).cru = s.cru ∧ (onLane id f s).psu = s.psu ∧
    (onLane id f s).clc = s.clc ∧ (onLane id f s).brs = s.brs ∧ (onLane id f s).trc = s.trc ∧
    (onLane id f s).dri = s.dri ∧ (onLane id f s).lsu = s.lsu ∧ (onLane id f s).lbp = s.lbp ∧
    (onLane id f s).niu = s.niu ∧ (onLane id f s).pins = s.pins ∧ (onLane id f s).now = s.now ∧
    (onLane id f s).pending = s.pending ∧ (onLane id f s).adm.reservations = s.adm.reservations ∧
    (onLane id f s).adm.loads = s.adm.loads ∧ (onLane id f s).adm.uncounted = s.adm.uncounted ∧
    (onLane id f s).adm.releaseMark = s.adm.releaseMark := by
  and_intros <;>
    (unfold onLane; (try dsimp only); (repeat' split) <;> (try simp) <;> (try with_reducible rfl))

@[simp] theorem dropReservation_frame (id : LaneId) (s : State) :
    (dropReservation id s).cfg = s.cfg ∧ (dropReservation id s).cru = s.cru ∧ (dropReservation id s).psu = s.psu ∧
    (dropReservation id s).clc = s.clc ∧ (dropReservation id s).brs = s.brs ∧ (dropReservation id s).trc = s.trc ∧
    (dropReservation id s).dri = s.dri ∧ (dropReservation id s).lsu = s.lsu ∧ (dropReservation id s).lbp = s.lbp ∧
    (dropReservation id s).niu = s.niu ∧ (dropReservation id s).pins = s.pins ∧ (dropReservation id s).now = s.now ∧
    (dropReservation id s).pending = s.pending ∧ (dropReservation id s).adm.lanes = s.adm.lanes ∧
    (dropReservation id s).adm.loads = s.adm.loads ∧ (dropReservation id s).adm.uncounted = s.adm.uncounted ∧
    (dropReservation id s).adm.releaseMark = s.adm.releaseMark := by
  and_intros <;>
    (unfold dropReservation; (try dsimp only); (repeat' split) <;> (try simp) <;> (try with_reducible rfl))

@[simp] theorem handIfEmpty_frame (s : State) :
    (handIfEmpty s).cfg = s.cfg ∧ (handIfEmpty s).cru = s.cru ∧ (handIfEmpty s).lsu = s.lsu ∧
    (handIfEmpty s).lbp = s.lbp ∧ (handIfEmpty s).pins = s.pins ∧ (handIfEmpty s).now = s.now ∧
    (handIfEmpty s).pending = s.pending ∧ (handIfEmpty s).psu.count = s.psu.count ∧
    (handIfEmpty s).psu.countPrev = s.psu.countPrev ∧ (handIfEmpty s).psu.pRef = s.psu.pRef ∧
    (handIfEmpty s).psu.countRef = s.psu.countRef ∧ (handIfEmpty s).psu.ref = s.psu.ref ∧
    (handIfEmpty s).psu.expected = s.psu.expected ∧ (handIfEmpty s).psu.sampleTimer = s.psu.sampleTimer ∧
    (handIfEmpty s).psu.vEval = s.psu.vEval ∧ (handIfEmpty s).psu.vRope = s.psu.vRope ∧
    (handIfEmpty s).psu.ropeDir = s.psu.ropeDir ∧ (handIfEmpty s).psu.travelDir = s.psu.travelDir ∧
    (handIfEmpty s).psu.stillCount = s.psu.stillCount ∧ (handIfEmpty s).psu.still = s.psu.still ∧
    (handIfEmpty s).psu.armed = s.psu.armed ∧ (handIfEmpty s).clc.c = s.clc.c ∧ (handIfEmpty s).clc.w1 = s.clc.w1 ∧
    (handIfEmpty s).clc.s = s.clc.s ∧ (handIfEmpty s).clc.e = s.clc.e ∧ (handIfEmpty s).clc.vdrv = s.clc.vdrv ∧
    (handIfEmpty s).trc.drvMode = s.trc.drvMode ∧ (handIfEmpty s).trc.conMode = s.trc.conMode ∧
    (handIfEmpty s).trc.effMode = s.trc.effMode ∧ (handIfEmpty s).trc.trip.number = s.trc.trip.number ∧
    (handIfEmpty s).trc.trip.origin = s.trc.trip.origin ∧
    (handIfEmpty s).trc.trip.destination = s.trc.trip.destination ∧
    (handIfEmpty s).trc.trip.direction = s.trc.trip.direction ∧ (handIfEmpty s).trc.trip.owner = s.trc.trip.owner ∧
    (handIfEmpty s).trc.trip.lastDir = s.trc.trip.lastDir ∧ (handIfEmpty s).trc.debounced = s.trc.debounced ∧
    (handIfEmpty s).trc.elapsed = s.trc.elapsed ∧ (handIfEmpty s).niu.resetCauses = s.niu.resetCauses := by
  and_intros <;>
    (unfold handIfEmpty; (try dsimp only); (repeat' split) <;> (try simp) <;> (try with_reducible rfl))

@[simp] theorem onLoad_frame (c : Car) (f : Load → Load) (s : State) :
    (onLoad c f s).cfg = s.cfg ∧ (onLoad c f s).cru = s.cru ∧ (onLoad c f s).psu = s.psu ∧
    (onLoad c f s).clc = s.clc ∧ (onLoad c f s).brs = s.brs ∧ (onLoad c f s).trc = s.trc ∧
    (onLoad c f s).dri = s.dri ∧ (onLoad c f s).lsu = s.lsu ∧ (onLoad c f s).lbp = s.lbp ∧
    (onLoad c f s).niu = s.niu ∧ (onLoad c f s).pins = s.pins ∧ (onLoad c f s).now = s.now ∧
    (onLoad c f s).pending = s.pending ∧ (onLoad c f s).adm.lanes = s.adm.lanes ∧
    (onLoad c f s).adm.reservations = s.adm.reservations ∧ (onLoad c f s).adm.uncounted = s.adm.uncounted ∧
    (onLoad c f s).adm.releaseMark = s.adm.releaseMark := by
  and_intros <;>
    (unfold onLoad; (try dsimp only); (repeat' split) <;> (try simp) <;> (try with_reducible rfl))

@[simp] theorem grant_frame (l : Lane) (c : Car) (s : State) :
    (grant l c s).cfg = s.cfg ∧ (grant l c s).cru = s.cru ∧ (grant l c s).psu = s.psu ∧ (grant l c s).clc = s.clc ∧
    (grant l c s).brs = s.brs ∧ (grant l c s).trc = s.trc ∧ (grant l c s).dri = s.dri ∧ (grant l c s).lsu = s.lsu ∧
    (grant l c s).lbp = s.lbp ∧ (grant l c s).niu = s.niu ∧ (grant l c s).pins = s.pins ∧ (grant l c s).now = s.now ∧
    (grant l c s).pending = s.pending ∧ (grant l c s).adm.loads = s.adm.loads ∧
    (grant l c s).adm.uncounted = s.adm.uncounted ∧ (grant l c s).adm.releaseMark = s.adm.releaseMark := by
  and_intros <;>
    (unfold grant; (try dsimp only); (repeat' split) <;> (try simp) <;> (try with_reducible rfl))

@[simp] theorem countPerson_frame (pf : Platform) (s : State) :
    (countPerson pf s).cfg = s.cfg ∧ (countPerson pf s).cru = s.cru ∧ (countPerson pf s).psu = s.psu ∧
    (countPerson pf s).clc = s.clc ∧ (countPerson pf s).brs = s.brs ∧ (countPerson pf s).trc = s.trc ∧
    (countPerson pf s).dri = s.dri ∧ (countPerson pf s).lsu = s.lsu ∧ (countPerson pf s).lbp = s.lbp ∧
    (countPerson pf s).niu = s.niu ∧ (countPerson pf s).pins = s.pins ∧ (countPerson pf s).now = s.now ∧
    (countPerson pf s).pending = s.pending ∧ (countPerson pf s).adm.lanes = s.adm.lanes ∧
    (countPerson pf s).adm.reservations = s.adm.reservations ∧ (countPerson pf s).adm.releaseMark = s.adm.releaseMark := by
  and_intros <;>
    (unfold countPerson; (try dsimp only); (repeat' split) <;> (try simp) <;> (try with_reducible rfl))

@[simp] theorem passReserved_frame (l : Lane) (r : Reservation) (s : State) :
    (passReserved l r s).cfg = s.cfg ∧ (passReserved l r s).cru = s.cru ∧ (passReserved l r s).lsu = s.lsu ∧
    (passReserved l r s).lbp = s.lbp ∧ (passReserved l r s).pins = s.pins ∧ (passReserved l r s).now = s.now ∧
    (passReserved l r s).pending = s.pending ∧ (passReserved l r s).psu.count = s.psu.count ∧
    (passReserved l r s).psu.countPrev = s.psu.countPrev ∧ (passReserved l r s).psu.pRef = s.psu.pRef ∧
    (passReserved l r s).psu.countRef = s.psu.countRef ∧ (passReserved l r s).psu.ref = s.psu.ref ∧
    (passReserved l r s).psu.expected = s.psu.expected ∧ (passReserved l r s).psu.sampleTimer = s.psu.sampleTimer ∧
    (passReserved l r s).psu.vEval = s.psu.vEval ∧ (passReserved l r s).psu.vRope = s.psu.vRope ∧
    (passReserved l r s).psu.ropeDir = s.psu.ropeDir ∧ (passReserved l r s).psu.travelDir = s.psu.travelDir ∧
    (passReserved l r s).psu.stillCount = s.psu.stillCount ∧ (passReserved l r s).psu.still = s.psu.still ∧
    (passReserved l r s).psu.armed = s.psu.armed ∧ (passReserved l r s).clc.c = s.clc.c ∧
    (passReserved l r s).clc.w1 = s.clc.w1 ∧ (passReserved l r s).clc.s = s.clc.s ∧
    (passReserved l r s).clc.e = s.clc.e ∧ (passReserved l r s).clc.vdrv = s.clc.vdrv ∧
    (passReserved l r s).trc.drvMode = s.trc.drvMode ∧ (passReserved l r s).trc.conMode = s.trc.conMode ∧
    (passReserved l r s).trc.effMode = s.trc.effMode ∧ (passReserved l r s).trc.trip.number = s.trc.trip.number ∧
    (passReserved l r s).trc.trip.origin = s.trc.trip.origin ∧
    (passReserved l r s).trc.trip.destination = s.trc.trip.destination ∧
    (passReserved l r s).trc.trip.direction = s.trc.trip.direction ∧
    (passReserved l r s).trc.trip.owner = s.trc.trip.owner ∧
    (passReserved l r s).trc.trip.lastDir = s.trc.trip.lastDir ∧
    (passReserved l r s).trc.debounced = s.trc.debounced ∧ (passReserved l r s).trc.elapsed = s.trc.elapsed ∧
    (passReserved l r s).niu.resetCauses = s.niu.resetCauses := by
  and_intros <;>
    (unfold passReserved; (try dsimp only); (repeat' split) <;> (try simp) <;> (try with_reducible rfl))

@[simp] theorem passLate_frame (l : Lane) (s : State) :
    (passLate l s).cfg = s.cfg ∧ (passLate l s).cru = s.cru ∧ (passLate l s).psu = s.psu ∧
    (passLate l s).clc = s.clc ∧ (passLate l s).brs = s.brs ∧ (passLate l s).trc = s.trc ∧
    (passLate l s).dri = s.dri ∧ (passLate l s).lsu = s.lsu ∧ (passLate l s).lbp = s.lbp ∧
    (passLate l s).niu = s.niu ∧ (passLate l s).pins = s.pins ∧ (passLate l s).now = s.now ∧
    (passLate l s).pending = s.pending ∧ (passLate l s).adm.reservations = s.adm.reservations ∧
    (passLate l s).adm.releaseMark = s.adm.releaseMark := by
  and_intros <;>
    (unfold passLate; (try dsimp only); (repeat' split) <;> (try simp) <;> (try with_reducible rfl))

@[simp] theorem handLaneFault_frame (id : LaneId) (why : LaneFaultReason) (s : State) :
    (handLaneFault id why s).cfg = s.cfg ∧ (handLaneFault id why s).cru = s.cru ∧
    (handLaneFault id why s).psu = s.psu ∧ (handLaneFault id why s).clc = s.clc ∧
    (handLaneFault id why s).brs = s.brs ∧ (handLaneFault id why s).trc = s.trc ∧
    (handLaneFault id why s).dri = s.dri ∧ (handLaneFault id why s).adm = s.adm ∧
    (handLaneFault id why s).lsu = s.lsu ∧ (handLaneFault id why s).lbp = s.lbp ∧
    (handLaneFault id why s).pins = s.pins ∧ (handLaneFault id why s).now = s.now ∧
    (handLaneFault id why s).pending = s.pending ∧ (handLaneFault id why s).niu.incidents = s.niu.incidents ∧
    (handLaneFault id why s).niu.overflow = s.niu.overflow ∧ (handLaneFault id why s).niu.seq = s.niu.seq ∧
    (handLaneFault id why s).niu.resetCauses = s.niu.resetCauses := by
  and_intros <;>
    (unfold handLaneFault; (try dsimp only); (repeat' split) <;> (try simp) <;> (try with_reducible rfl))

@[simp] theorem passUnauthorised_frame (l : Lane) (s : State) :
    (passUnauthorised l s).cfg = s.cfg ∧ (passUnauthorised l s).cru = s.cru ∧ (passUnauthorised l s).psu = s.psu ∧
    (passUnauthorised l s).clc = s.clc ∧ (passUnauthorised l s).brs = s.brs ∧ (passUnauthorised l s).trc = s.trc ∧
    (passUnauthorised l s).dri = s.dri ∧ (passUnauthorised l s).lsu = s.lsu ∧ (passUnauthorised l s).lbp = s.lbp ∧
    (passUnauthorised l s).pins = s.pins ∧ (passUnauthorised l s).now = s.now ∧
    (passUnauthorised l s).pending = s.pending ∧ (passUnauthorised l s).adm.reservations = s.adm.reservations ∧
    (passUnauthorised l s).adm.releaseMark = s.adm.releaseMark ∧
    (passUnauthorised l s).niu.incidents = s.niu.incidents ∧ (passUnauthorised l s).niu.overflow = s.niu.overflow ∧
    (passUnauthorised l s).niu.seq = s.niu.seq ∧ (passUnauthorised l s).niu.resetCauses = s.niu.resetCauses := by
  and_intros <;>
    (unfold passUnauthorised; (try dsimp only); (repeat' split) <;> (try simp) <;> (try with_reducible rfl))

@[simp] theorem lapse_frame (id : LaneId) (s : State) :
    (lapse id s).cfg = s.cfg ∧ (lapse id s).cru = s.cru ∧ (lapse id s).lsu = s.lsu ∧ (lapse id s).lbp = s.lbp ∧
    (lapse id s).pins = s.pins ∧ (lapse id s).now = s.now ∧ (lapse id s).pending = s.pending ∧
    (lapse id s).psu.count = s.psu.count ∧ (lapse id s).psu.countPrev = s.psu.countPrev ∧
    (lapse id s).psu.pRef = s.psu.pRef ∧ (lapse id s).psu.countRef = s.psu.countRef ∧
    (lapse id s).psu.ref = s.psu.ref ∧ (lapse id s).psu.expected = s.psu.expected ∧
    (lapse id s).psu.sampleTimer = s.psu.sampleTimer ∧ (lapse id s).psu.vEval = s.psu.vEval ∧
    (lapse id s).psu.vRope = s.psu.vRope ∧ (lapse id s).psu.ropeDir = s.psu.ropeDir ∧
    (lapse id s).psu.travelDir = s.psu.travelDir ∧ (lapse id s).psu.stillCount = s.psu.stillCount ∧
    (lapse id s).psu.still = s.psu.still ∧ (lapse id s).psu.armed = s.psu.armed ∧ (lapse id s).clc.c = s.clc.c ∧
    (lapse id s).clc.w1 = s.clc.w1 ∧ (lapse id s).clc.s = s.clc.s ∧ (lapse id s).clc.e = s.clc.e ∧
    (lapse id s).clc.vdrv = s.clc.vdrv ∧ (lapse id s).trc.drvMode = s.trc.drvMode ∧
    (lapse id s).trc.conMode = s.trc.conMode ∧ (lapse id s).trc.effMode = s.trc.effMode ∧
    (lapse id s).trc.trip.number = s.trc.trip.number ∧ (lapse id s).trc.trip.origin = s.trc.trip.origin ∧
    (lapse id s).trc.trip.destination = s.trc.trip.destination ∧
    (lapse id s).trc.trip.direction = s.trc.trip.direction ∧ (lapse id s).trc.trip.owner = s.trc.trip.owner ∧
    (lapse id s).trc.trip.lastDir = s.trc.trip.lastDir ∧ (lapse id s).trc.debounced = s.trc.debounced ∧
    (lapse id s).trc.elapsed = s.trc.elapsed ∧ (lapse id s).niu.resetCauses = s.niu.resetCauses := by
  and_intros <;>
    (unfold lapse; (try dsimp only); (repeat' split) <;> (try simp) <;> (try with_reducible rfl))

@[simp] theorem disable_frame (id : LaneId) (s : State) :
    (disable id s).cfg = s.cfg ∧ (disable id s).cru = s.cru ∧ (disable id s).lsu = s.lsu ∧
    (disable id s).lbp = s.lbp ∧ (disable id s).pins = s.pins ∧ (disable id s).now = s.now ∧
    (disable id s).pending = s.pending ∧ (disable id s).psu.count = s.psu.count ∧
    (disable id s).psu.countPrev = s.psu.countPrev ∧ (disable id s).psu.pRef = s.psu.pRef ∧
    (disable id s).psu.countRef = s.psu.countRef ∧ (disable id s).psu.ref = s.psu.ref ∧
    (disable id s).psu.expected = s.psu.expected ∧ (disable id s).psu.sampleTimer = s.psu.sampleTimer ∧
    (disable id s).psu.vEval = s.psu.vEval ∧ (disable id s).psu.vRope = s.psu.vRope ∧
    (disable id s).psu.ropeDir = s.psu.ropeDir ∧ (disable id s).psu.travelDir = s.psu.travelDir ∧
    (disable id s).psu.stillCount = s.psu.stillCount ∧ (disable id s).psu.still = s.psu.still ∧
    (disable id s).psu.armed = s.psu.armed ∧ (disable id s).clc.c = s.clc.c ∧ (disable id s).clc.w1 = s.clc.w1 ∧
    (disable id s).clc.s = s.clc.s ∧ (disable id s).clc.e = s.clc.e ∧ (disable id s).clc.vdrv = s.clc.vdrv ∧
    (disable id s).trc.drvMode = s.trc.drvMode ∧ (disable id s).trc.conMode = s.trc.conMode ∧
    (disable id s).trc.effMode = s.trc.effMode ∧ (disable id s).trc.trip.number = s.trc.trip.number ∧
    (disable id s).trc.trip.origin = s.trc.trip.origin ∧
    (disable id s).trc.trip.destination = s.trc.trip.destination ∧
    (disable id s).trc.trip.direction = s.trc.trip.direction ∧ (disable id s).trc.trip.owner = s.trc.trip.owner ∧
    (disable id s).trc.trip.lastDir = s.trc.trip.lastDir ∧ (disable id s).trc.debounced = s.trc.debounced ∧
    (disable id s).trc.elapsed = s.trc.elapsed ∧ (disable id s).niu.resetCauses = s.niu.resetCauses := by
  and_intros <;>
    (unfold disable; (try dsimp only); (repeat' split) <;> (try simp) <;> (try with_reducible rfl))

@[simp] theorem zeroUncounted_frame (t : UncountedTarget) (s : State) :
    (zeroUncounted t s).cfg = s.cfg ∧ (zeroUncounted t s).cru = s.cru ∧ (zeroUncounted t s).psu = s.psu ∧
    (zeroUncounted t s).clc = s.clc ∧ (zeroUncounted t s).brs = s.brs ∧ (zeroUncounted t s).trc = s.trc ∧
    (zeroUncounted t s).dri = s.dri ∧ (zeroUncounted t s).lsu = s.lsu ∧ (zeroUncounted t s).lbp = s.lbp ∧
    (zeroUncounted t s).niu = s.niu ∧ (zeroUncounted t s).pins = s.pins ∧ (zeroUncounted t s).now = s.now ∧
    (zeroUncounted t s).pending = s.pending ∧ (zeroUncounted t s).adm.lanes = s.adm.lanes ∧
    (zeroUncounted t s).adm.reservations = s.adm.reservations ∧
    (zeroUncounted t s).adm.releaseMark = s.adm.releaseMark := by
  and_intros <;>
    (unfold zeroUncounted; (try dsimp only); (repeat' split) <;> (try simp) <;> (try with_reducible rfl))

@[simp] theorem openAt_frame (k : Stop) (s : State) :
    (openAt k s).cfg = s.cfg ∧ (openAt k s).cru = s.cru ∧ (openAt k s).lbp = s.lbp ∧ (openAt k s).pins = s.pins ∧
    (openAt k s).now = s.now ∧ (openAt k s).pending = s.pending ∧ (openAt k s).psu.count = s.psu.count ∧
    (openAt k s).psu.countPrev = s.psu.countPrev ∧ (openAt k s).psu.pRef = s.psu.pRef ∧
    (openAt k s).psu.countRef = s.psu.countRef ∧ (openAt k s).psu.ref = s.psu.ref ∧
    (openAt k s).psu.expected = s.psu.expected ∧ (openAt k s).psu.sampleTimer = s.psu.sampleTimer ∧
    (openAt k s).psu.vEval = s.psu.vEval ∧ (openAt k s).psu.vRope = s.psu.vRope ∧
    (openAt k s).psu.ropeDir = s.psu.ropeDir ∧ (openAt k s).psu.travelDir = s.psu.travelDir ∧
    (openAt k s).psu.stillCount = s.psu.stillCount ∧ (openAt k s).psu.still = s.psu.still ∧
    (openAt k s).psu.mismatch = s.psu.mismatch ∧ (openAt k s).psu.armed = s.psu.armed ∧ (openAt k s).clc.c = s.clc.c ∧
    (openAt k s).clc.w1 = s.clc.w1 ∧ (openAt k s).clc.s = s.clc.s ∧ (openAt k s).clc.e = s.clc.e ∧
    (openAt k s).clc.vdrv = s.clc.vdrv ∧ (openAt k s).brs.stage = s.brs.stage ∧
    (openAt k s).brs.causes = s.brs.causes ∧ (openAt k s).brs.sbFb = s.brs.sbFb ∧ (openAt k s).brs.ebFb = s.brs.ebFb ∧
    (openAt k s).brs.lastRefresh = s.brs.lastRefresh ∧ (openAt k s).brs.overspeedCount = s.brs.overspeedCount ∧
    (openAt k s).brs.warnArmed = s.brs.warnArmed ∧ (openAt k s).brs.effectiveness = s.brs.effectiveness ∧
    (openAt k s).trc.drvMode = s.trc.drvMode ∧ (openAt k s).trc.conMode = s.trc.conMode ∧
    (openAt k s).trc.trip.number = s.trc.trip.number ∧ (openAt k s).trc.trip.origin = s.trc.trip.origin ∧
    (openAt k s).trc.trip.destination = s.trc.trip.destination ∧
    (openAt k s).trc.trip.direction = s.trc.trip.direction ∧ (openAt k s).trc.trip.owner = s.trc.trip.owner ∧
    (openAt k s).trc.trip.lastDir = s.trc.trip.lastDir ∧ (openAt k s).trc.frozen = s.trc.frozen ∧
    (openAt k s).trc.debounced = s.trc.debounced ∧ (openAt k s).lsu.clearInInspection = s.lsu.clearInInspection ∧
    (openAt k s).niu.incidents = s.niu.incidents ∧ (openAt k s).niu.overflow = s.niu.overflow ∧
    (openAt k s).niu.seq = s.niu.seq ∧ (openAt k s).niu.resetCauses = s.niu.resetCauses := by
  and_intros <;>
    (unfold openAt; (try dsimp only); (repeat' split) <;> (try simp) <;> (try with_reducible rfl))

@[simp] theorem closeLine_frame (s : State) :
    (closeLine s).cfg = s.cfg ∧ (closeLine s).cru = s.cru ∧ (closeLine s).lbp = s.lbp ∧ (closeLine s).pins = s.pins ∧
    (closeLine s).now = s.now ∧ (closeLine s).pending = s.pending ∧ (closeLine s).psu.count = s.psu.count ∧
    (closeLine s).psu.countPrev = s.psu.countPrev ∧ (closeLine s).psu.pRef = s.psu.pRef ∧
    (closeLine s).psu.countRef = s.psu.countRef ∧ (closeLine s).psu.ref = s.psu.ref ∧
    (closeLine s).psu.expected = s.psu.expected ∧ (closeLine s).psu.sampleTimer = s.psu.sampleTimer ∧
    (closeLine s).psu.vEval = s.psu.vEval ∧ (closeLine s).psu.vRope = s.psu.vRope ∧
    (closeLine s).psu.ropeDir = s.psu.ropeDir ∧ (closeLine s).psu.travelDir = s.psu.travelDir ∧
    (closeLine s).psu.stillCount = s.psu.stillCount ∧ (closeLine s).psu.still = s.psu.still ∧
    (closeLine s).psu.mismatch = s.psu.mismatch ∧ (closeLine s).psu.armed = s.psu.armed ∧
    (closeLine s).clc.c = s.clc.c ∧ (closeLine s).clc.w1 = s.clc.w1 ∧ (closeLine s).clc.s = s.clc.s ∧
    (closeLine s).clc.e = s.clc.e ∧ (closeLine s).clc.vdrv = s.clc.vdrv ∧ (closeLine s).brs.stage = s.brs.stage ∧
    (closeLine s).brs.causes = s.brs.causes ∧ (closeLine s).brs.sbFb = s.brs.sbFb ∧
    (closeLine s).brs.ebFb = s.brs.ebFb ∧ (closeLine s).brs.lastRefresh = s.brs.lastRefresh ∧
    (closeLine s).brs.overspeedCount = s.brs.overspeedCount ∧ (closeLine s).brs.warnArmed = s.brs.warnArmed ∧
    (closeLine s).brs.effectiveness = s.brs.effectiveness ∧ (closeLine s).trc.drvMode = s.trc.drvMode ∧
    (closeLine s).trc.conMode = s.trc.conMode ∧ (closeLine s).trc.trip.number = s.trc.trip.number ∧
    (closeLine s).trc.trip.origin = s.trc.trip.origin ∧ (closeLine s).trc.trip.destination = s.trc.trip.destination ∧
    (closeLine s).trc.trip.direction = s.trc.trip.direction ∧ (closeLine s).trc.trip.owner = s.trc.trip.owner ∧
    (closeLine s).trc.trip.lastDir = s.trc.trip.lastDir ∧ (closeLine s).trc.frozen = s.trc.frozen ∧
    (closeLine s).trc.debounced = s.trc.debounced ∧ (closeLine s).trc.elapsed = s.trc.elapsed ∧
    (closeLine s).lsu.clearInInspection = s.lsu.clearInInspection ∧ (closeLine s).niu.incidents = s.niu.incidents ∧
    (closeLine s).niu.overflow = s.niu.overflow ∧ (closeLine s).niu.seq = s.niu.seq ∧
    (closeLine s).niu.resetCauses = s.niu.resetCauses := by
  and_intros <;>
    (unfold closeLine; (try dsimp only); (repeat' split) <;> (try simp) <;> (try with_reducible rfl))

@[simp] theorem enterInspection_frame (s : State) :
    (enterInspection s).cfg = s.cfg ∧ (enterInspection s).cru = s.cru ∧ (enterInspection s).lbp = s.lbp ∧
    (enterInspection s).pins = s.pins ∧ (enterInspection s).now = s.now ∧ (enterInspection s).pending = s.pending ∧
    (enterInspection s).psu.count = s.psu.count ∧ (enterInspection s).psu.countPrev = s.psu.countPrev ∧
    (enterInspection s).psu.pRef = s.psu.pRef ∧ (enterInspection s).psu.countRef = s.psu.countRef ∧
    (enterInspection s).psu.ref = s.psu.ref ∧ (enterInspection s).psu.expected = s.psu.expected ∧
    (enterInspection s).psu.sampleTimer = s.psu.sampleTimer ∧ (enterInspection s).psu.vEval = s.psu.vEval ∧
    (enterInspection s).psu.vRope = s.psu.vRope ∧ (enterInspection s).psu.ropeDir = s.psu.ropeDir ∧
    (enterInspection s).psu.travelDir = s.psu.travelDir ∧ (enterInspection s).psu.stillCount = s.psu.stillCount ∧
    (enterInspection s).psu.still = s.psu.still ∧ (enterInspection s).psu.mismatch = s.psu.mismatch ∧
    (enterInspection s).psu.armed = s.psu.armed ∧ (enterInspection s).clc.c = s.clc.c ∧
    (enterInspection s).clc.w1 = s.clc.w1 ∧ (enterInspection s).clc.s = s.clc.s ∧
    (enterInspection s).clc.e = s.clc.e ∧ (enterInspection s).clc.vdrv = s.clc.vdrv ∧
    (enterInspection s).brs.stage = s.brs.stage ∧ (enterInspection s).brs.causes = s.brs.causes ∧
    (enterInspection s).brs.sbFb = s.brs.sbFb ∧ (enterInspection s).brs.ebFb = s.brs.ebFb ∧
    (enterInspection s).brs.lastRefresh = s.brs.lastRefresh ∧
    (enterInspection s).brs.overspeedCount = s.brs.overspeedCount ∧
    (enterInspection s).brs.warnArmed = s.brs.warnArmed ∧
    (enterInspection s).brs.effectiveness = s.brs.effectiveness ∧ (enterInspection s).trc.drvMode = s.trc.drvMode ∧
    (enterInspection s).trc.conMode = s.trc.conMode ∧ (enterInspection s).trc.trip.number = s.trc.trip.number ∧
    (enterInspection s).trc.trip.origin = s.trc.trip.origin ∧
    (enterInspection s).trc.trip.destination = s.trc.trip.destination ∧
    (enterInspection s).trc.trip.direction = s.trc.trip.direction ∧
    (enterInspection s).trc.trip.owner = s.trc.trip.owner ∧
    (enterInspection s).trc.trip.lastDir = s.trc.trip.lastDir ∧ (enterInspection s).trc.frozen = s.trc.frozen ∧
    (enterInspection s).trc.debounced = s.trc.debounced ∧
    (enterInspection s).lsu.clearInInspection = s.lsu.clearInInspection ∧
    (enterInspection s).niu.incidents = s.niu.incidents ∧ (enterInspection s).niu.overflow = s.niu.overflow ∧
    (enterInspection s).niu.seq = s.niu.seq ∧ (enterInspection s).niu.resetCauses = s.niu.resetCauses := by
  and_intros <;>
    (unfold enterInspection; (try dsimp only); (repeat' split) <;> (try simp) <;> (try with_reducible rfl))

@[simp] theorem onNotices_frame (st : Station) (f : NoticeRecord → NoticeRecord) (s : State) :
    (onNotices st f s).cfg = s.cfg ∧ (onNotices st f s).cru = s.cru ∧ (onNotices st f s).psu = s.psu ∧
    (onNotices st f s).clc = s.clc ∧ (onNotices st f s).brs = s.brs ∧ (onNotices st f s).trc = s.trc ∧
    (onNotices st f s).dri = s.dri ∧ (onNotices st f s).adm = s.adm ∧ (onNotices st f s).lsu = s.lsu ∧
    (onNotices st f s).lbp = s.lbp ∧ (onNotices st f s).pins = s.pins ∧ (onNotices st f s).now = s.now ∧
    (onNotices st f s).pending = s.pending ∧ (onNotices st f s).niu.incidents = s.niu.incidents ∧
    (onNotices st f s).niu.overflow = s.niu.overflow ∧ (onNotices st f s).niu.seq = s.niu.seq ∧
    (onNotices st f s).niu.resetCauses = s.niu.resetCauses := by
  and_intros <;>
    (unfold onNotices; (try dsimp only); (repeat' split) <;> (try simp) <;> (try with_reducible rfl))

@[simp] theorem onIncident_frame (seq : Int) (f : Incident → Incident) (s : State) :
    (onIncident seq f s).cfg = s.cfg ∧ (onIncident seq f s).cru = s.cru ∧ (onIncident seq f s).psu = s.psu ∧
    (onIncident seq f s).clc = s.clc ∧ (onIncident seq f s).brs = s.brs ∧ (onIncident seq f s).trc = s.trc ∧
    (onIncident seq f s).dri = s.dri ∧ (onIncident seq f s).adm = s.adm ∧ (onIncident seq f s).lsu = s.lsu ∧
    (onIncident seq f s).lbp = s.lbp ∧ (onIncident seq f s).pins = s.pins ∧ (onIncident seq f s).now = s.now ∧
    (onIncident seq f s).pending = s.pending ∧ (onIncident seq f s).niu.notices = s.niu.notices ∧
    (onIncident seq f s).niu.overflow = s.niu.overflow ∧ (onIncident seq f s).niu.seq = s.niu.seq ∧
    (onIncident seq f s).niu.resetCauses = s.niu.resetCauses := by
  and_intros <;>
    (unfold onIncident; (try dsimp only); (repeat' split) <;> (try simp) <;> (try with_reducible rfl))

end Sys2Proof.Machine
end

