-- ==== Sys2Proof/Laws/Commands.lean ====
section
/-! SUPPORT. What every command has in common, said once: the four outcomes of a request, the two of an event, the
reply, what `finish` changes, and how a frame (`KeepsBut`) passes through them. A proof about one request rewrites
with `request_fields` and is left with what its owning block answers. -/

namespace Sys2Proof.Machine

variable {α : Type} (r : Request) (st : Station) (body : α → State → Answer) (s t u : State)

/-! ## Requests and events -/

theorem request_fields {r : Request} {st : Station} {s : State} (h : Heard r st s) (f : α) :
    request r st (.fields f) body s = .next (replyTo r st s (body f s)) := by
  simp [request, h.1, h.2]

theorem request_malformed {r : Request} {st : Station} {s : State} (h : Heard r st s) (bs : List Byte) :
    request r st (.malformed bs) body s = .next (replyTo r st s (refuse .badRequest (refusalData r s) s)) := by
  simp [request, h.1, h.2]

theorem request_notYours {r : Request} {st : Station} {s : State} (p : Payload α) (h : s.pins.resetLow = false)
    (hp : permitted (catalogue r).permit st = false) :
    request r st p body s = .next (replyTo r st s (refuse .notYours (refusalData r s) s)) := by
  cases p <;> simp [request, h, hp]

theorem request_resetLow {s : State} (p : Payload α) (h : s.pins.resetLow = true) :
    request r st p body s = .next (noReply s) := by
  simp [request, h]

/-- Every outcome of a request is a next state. -/
theorem request_next (p : Payload α) : ∃ t, request r st p body s = .next t := by
  unfold request
  repeat' split
  all_goals exact ⟨_, rfl⟩

theorem event_run {s : State} (f : State → State) (h : s.pins.resetLow = false) : event f s = .next (finish s (f s)) := by
  simp [event, h]

theorem event_resetLow {s : State} (f : State → State) (h : s.pins.resetLow = true) : event f s = .next s := by
  simp [event, h]

/-- Every outcome of a timed event is a next state. -/
theorem timedEvent_next (i : Instr) (f : State → State) : ∃ t, timedEvent i f s = .next t := by
  unfold timedEvent
  split <;> exact ⟨_, rfl⟩

/-- A timed event that nothing has overtaken acts. -/
theorem timedEvent_run {i : Instr} {s : State} (f : State → State) (h : s.pins.resetLow = false)
    (ho : isOvertaken s i = false) : timedEvent i f s = .next (takenUp i (finish s (f s))) := by
  simp [timedEvent, h, ho]

/-- One that another command has overtaken leaves the parts of the machine as they are. -/
theorem timedEvent_overtaken {i : Instr} {s : State} (f : State → State) (h : s.pins.resetLow = false)
    (ho : isOvertaken s i = true) : timedEvent i f s = .next (takenUp i (finish s s)) := by
  simp [timedEvent, h, ho]

theorem timedEvent_resetLow {i : Instr} {s : State} (f : State → State) (h : s.pins.resetLow = true) :
    timedEvent i f s = .next s := by
  simp [timedEvent, h]

/-! ## The reply and what ends a command -/

theorem replied_replyTo (a : Answer) : Replied r st a.status a.data (replyTo r st s a) := rfl

@[simp] theorem replyTo_niu (a : Answer) : (replyTo r st s a).niu = (finish s a.state).niu := rfl

@[simp] theorem finish_pendingOf (who : Station) :
    ((finish s t).niu.notices.get who).pending = (t.niu.notices.get who).pending := by
  simp only [finish, markOvertaken_niu, markChanged, latchAll, State.onLbp_niu, State.onNiu_niu, PerStation.get_map, latch]
  split <;> rfl

@[simp] theorem finish_enabledOf (who : Station) :
    ((finish s t).niu.notices.get who).enabled = (t.niu.notices.get who).enabled := by
  simp only [finish, markOvertaken_niu, markChanged, latchAll, State.onLbp_niu, State.onNiu_niu, PerStation.get_map, latch]
  split <;> rfl

/-- A kind is fresh after a command where it was fresh, or where its record shows something else (R162). -/
theorem mem_finish_fresh (who : Station) (k : SnapKind) :
    k ∈ (finish s t).lbp.fresh.get who ↔ k ∈ t.lbp.fresh.get who ∨ recordCore s k ≠ recordCore (latchAll t) k := by
  have h : k ∈ allSnapKinds := by cases k <;> decide
  simp only [finish, markOvertaken_lbp, markChanged, State.onLbp_lbp, PerStation.get_map, unionKinds, changedKinds, List.mem_filter,
    List.contains_eq_mem, decide_eq_true_eq, h, true_and, latchAll, State.onNiu_lbp, ne_eq]
  exact or_congr .rfl decide_eq_true_iff

/-- Latching changes nothing that a record shows. -/
@[simp] theorem recordCore_latchAll (k : SnapKind) : recordCore (latchAll t) k = recordCore t k := by
  cases k <;> rfl

/-! ## Frames -/

theorem KeepsBut.refl (ps : List StatePart) : KeepsBut ps s s :=
  ⟨rfl, fun p _ => by cases p <;> simp [StatePart.same]⟩

/-- A frame holds for any longer list of parts. -/
theorem KeepsBut.mono {ps qs : List StatePart} {s t : State} (h : KeepsBut ps s t) (hq : ∀ p ∈ ps, p ∈ qs) :
    KeepsBut qs s t :=
  ⟨h.1, fun p hp => h.2 p fun hm => hp (hq p hm)⟩

/-- A frame, part by part: with the list written out, `simp` is left with the parts outside it. -/
theorem keepsBut_iff (ps : List StatePart) :
    KeepsBut ps s t ↔
      t.pending = s.pending ∧ (StatePart.cfg ∉ ps → t.cfg = s.cfg) ∧ (StatePart.cru ∉ ps → t.cru = s.cru) ∧
      (StatePart.psu ∉ ps → t.psu = s.psu) ∧ (StatePart.clc ∉ ps → t.clc = s.clc) ∧
      (StatePart.brs ∉ ps → t.brs = s.brs) ∧ (StatePart.trc ∉ ps → t.trc = s.trc) ∧
      (StatePart.dri ∉ ps → t.dri = s.dri) ∧ (StatePart.adm ∉ ps → t.adm = s.adm) ∧
      (StatePart.lsu ∉ ps → t.lsu = s.lsu) ∧
      (StatePart.selections ∉ ps →
        t.lbp.selection = s.lbp.selection ∧ t.lbp.continuation = s.lbp.continuation) ∧
      (StatePart.notices ∉ ps → ∀ st, (t.niu.notices.get st).pending = (s.niu.notices.get st).pending ∧
        (t.niu.notices.get st).enabled = (s.niu.notices.get st).enabled) ∧
      (StatePart.incidents ∉ ps →
        t.niu.incidents = s.niu.incidents ∧ t.niu.overflow = s.niu.overflow ∧ t.niu.seq = s.niu.seq) ∧
      (StatePart.resetCauses ∉ ps → t.niu.resetCauses = s.niu.resetCauses) ∧
      (StatePart.pins ∉ ps → t.pins = s.pins) ∧ (StatePart.now ∉ ps → t.now = s.now) := by
  constructor
  · exact fun ⟨h0, h⟩ => ⟨h0, h _, h _, h _, h _, h _, h _, h _, h _, h _, h _, h _, h _, h _, h _, h _⟩
  · rintro ⟨h0, h1, h2, h3, h4, h5, h6, h7, h8, h9, h10, h11, h12, h13, h14, h15⟩
    exact ⟨h0, fun p => by cases p <;> assumption⟩

/-- A frame speaks of nothing that the end of a command changes. -/
@[simp] theorem keepsBut_finish (ps : List StatePart) : KeepsBut ps s (Machine.finish u t) ↔ KeepsBut ps s t := by
  simp [keepsBut_iff]

/-- A frame speaks of nothing that the taking up of a timed event changes. -/
@[simp] theorem keepsBut_takenUp (ps : List StatePart) (i : Instr) :
    KeepsBut ps s (takenUp i t) ↔ KeepsBut ps s t := by
  simp [keepsBut_iff]

/-- A frame speaks of nothing that a reply changes. -/
@[simp] theorem keepsBut_replyTo (ps : List StatePart) (a : Answer) :
    KeepsBut ps s (Machine.replyTo r st u a) ↔ KeepsBut ps s a.state := by
  simp [keepsBut_iff]

@[simp] theorem replied_replyTo_iff (a : Answer) (status : Status) (data : ReplyData) :
    Replied r st status data (Machine.replyTo r st s a) ↔ a.status = status ∧ a.data = data := by
  constructor
  · intro h
    have h' := h.symm.trans (replied_replyTo r st s a)
    simp only [Option.some.injEq, Reply.mk.injEq] at h'
    exact ⟨h'.1.symm, h'.2.2.2.2.2.symm⟩
  · rintro ⟨rfl, rfl⟩
    exact replied_replyTo r st s a

/-- What a request that is taken does: its answer, replied and framed. -/
theorem request_taken {r : Request} {st : Station} {s : State} {ps : List StatePart} (h : Heard r st s) (f : α)
    (hf : KeepsBut ps s (body f s).state) :
    ∃ t, request r st (.fields f) body s = .next t ∧ Replied r st (body f s).status (body f s).data t ∧
      KeepsBut ps s t ∧ t = replyTo r st s (body f s) :=
  ⟨_, request_fields body h f, replied_replyTo r st s _, by simpa using hf, rfl⟩

/-- What a request that is refused with the state as it was does. -/
theorem request_refused {r : Request} {st : Station} {s : State} {status : Status} {data : ReplyData} (h : Heard r st s)
    (f : α) (hb : body f s = ⟨s, status, data⟩) :
    ∃ t, request r st (.fields f) body s = .next t ∧ Replied r st status data t ∧ KeepsBut [] s t := by
  refine ⟨_, request_fields body h f, ?_, ?_⟩
  · simp [hb]
  · simp [hb, KeepsBut.refl]

end Sys2Proof.Machine
end

