-- ==== Sys2Proof/Laws/Effects.lean ====
section
/-! SUPPORT. What the shared operations do to the fields their frames leave open: the trip state after each of them,
the brake outputs, the slots after an abort and after pending slots are settled, and the notices that are pending. -/

namespace Sys2Proof.Machine

variable (s t : State)

/-! ## Trip states -/

@[simp] theorem setTripState_state (ts : TripState) : (setTripState ts s).trc.state = ts := by
  simp [setTripState, clcOnTrip]
  split <;> simp [trcOnTrip]

@[simp] theorem setReleaseMark_mark (v : Bool) : (setReleaseMark v s).adm.releaseMark = v := by
  simp [setReleaseMark]

@[simp] theorem resumedDwell_state (k : Stop) : (resumedDwell k s).trc.state = .dwell k := by
  simp [resumedDwell]

@[simp] theorem newDwell_state (k : Stop) : (newDwell k s).trc.state = .dwell k := by
  simp [newDwell, driNewDwell]

@[simp] theorem newDwell_elapsed (k : Stop) : (newDwell k s).trc.elapsed = false := by
  simp [newDwell, driNewDwell]

@[simp] theorem newDwell_minDwell (k : Stop) :
    (newDwell k s).trc.minDwell = some ⟨s.now, s.now + s.params.minDwell * 1000⟩ := by
  simp [newDwell, driNewDwell, timer, startAt, State.params]

/-- Where an abort leaves the trip state (R103). -/
@[simp] theorem abortTrip_state (cause : AbortCause) : (abortTrip cause s).trc.state = abortState s := by
  unfold abortTrip abortState
  simp only [State.onTrip_trc]
  split <;> simp_all

@[simp] theorem pendingsUnderStage_state : (pendingsUnderStage s).trc.state = s.trc.state := by
  unfold pendingsUnderStage
  split <;> simp

/-- Where a rise of the stage leaves the trip state (R103, R104). -/
@[simp] theorem tripOnRise_state : (tripOnRise s).trc.state = riseState s := by
  unfold tripOnRise riseState
  split <;> simp_all

/-! ## Causes -/

/-- Only the cause set decides whether a cause is in it. -/
theorem hasCause_congr {s t : State} (c : Cause) (h : t.brs.causes = s.brs.causes) : hasCause t c = hasCause s c := by
  simp [hasCause, h]

/-- A cause raised is in the set. -/
@[simp] theorem hasCause_raiseCause (c : Cause) (d : Detail) : hasCause (raiseCause c d s) c = true := by
  unfold raiseCause
  split
  · assumption
  · simp only []
    split <;> simp [hasCause, addCause]

/-- A cause once in the set stays there when another is raised. -/
theorem hasCause_raiseCause_of (c j : Cause) (d : Detail) (h : hasCause s j = true) :
    hasCause (raiseCause c d s) j = true := by
  unfold raiseCause
  split
  · assumption
  · simp only [hasCause, List.any_eq_true, decide_eq_true_eq] at h ⊢
    obtain ⟨x, hx, he⟩ := h
    split <;> exact ⟨x, by simp [addCause, hx], he⟩

/-! ## The brake outputs (R64) -/

@[simp] theorem updateOutputs_drivePermit : (updateOutputs s).brs.drivePermit = (wantedOutputs s).drivePermit := rfl

@[simp] theorem updateOutputs_sbHoldoff : (updateOutputs s).brs.sbHoldoff = (wantedOutputs s).sbHoldoff := rfl

@[simp] theorem updateOutputs_ebHoldoff : (updateOutputs s).brs.ebHoldoff = (wantedOutputs s).ebHoldoff := rfl

/-- The outputs called for are those of the new state too: setting them again changes nothing. -/
@[simp] theorem outputsWith_updateOutputs (locked : Bool) :
    outputsWith locked (updateOutputs s) = outputsWith locked s := by
  rcases hs : s.brs.stage <;> simp [outputsWith, hs]
  simp [wantedOutputs, outputsWith, hs]

@[simp] theorem wantedOutputs_updateOutputs : wantedOutputs (updateOutputs s) = wantedOutputs s :=
  outputsWith_updateOutputs s (allLocked s)

/-- Setting the outputs establishes what R64 asks of them. -/
theorem outputInv_updateOutputs : OutputInv (updateOutputs s) := by
  refine ⟨by simp, by simp, by simp, fun h => ?_⟩
  rw [outputsWith_updateOutputs]
  have hm : allLocked s = true → markedLocked (updateOutputs s) = true := by
    simp only [allLocked, markedLocked, isFresh, updateOutputs_frame, decide_eq_true_eq, Bool.decide_and,
      Bool.and_eq_true]
    exact fun ⟨⟨a, _⟩, ⟨b, _⟩, c⟩ => ⟨a, b, c⟩
  simp only [updateOutputs_drivePermit, wantedOutputs, outputsWith] at h ⊢
  split at h <;> try split at h
  all_goals simp_all

/-! ## Notices that are pending (R167) -/

/-- Whether a notice is pending after another joins. -/
@[simp] theorem isPending_joinPending (r : NoticeRecord) (k j : NoticeKind) (d : NoticeDetail) :
    isPending (joinPending k d r) j = (isPending r j || decide (j = k)) := by
  unfold joinPending
  split
  · rename_i h
    have hm : isPending { r with pending := r.pending.map fun n => if n.kind = k then { n with repeated := true } else n } j
        = isPending r j := by
      simp only [isPending, List.any_map]
      congr 1
      funext n
      simp only [Function.comp]
      split <;> rfl
    rw [hm]
    by_cases hj : j = k
    · subst hj; simp [h]
    · simp [hj]
  · by_cases hj : k = j
    · subst hj; simp [isPending]
    · simp [isPending, hj, Ne.symm hj]

@[simp] theorem isPending_handTo_self (k j : NoticeKind) (d : NoticeDetail) (st : Station) :
    isPending ((handTo k d st s).niu.notices.get st) j = (isPending (s.niu.notices.get st) j || decide (j = k)) := by
  simp [handTo]

theorem isPending_handTo_other (k j : NoticeKind) (d : NoticeDetail) {st who : Station} (h : who ≠ st) :
    isPending ((handTo k d st s).niu.notices.get who) j = isPending (s.niu.notices.get who) j := by
  simp [handTo, PerStation.get_set_other _ _ h]

/-- Handing a notice takes none away. -/
theorem isPending_hand_of (k j : NoticeKind) (d : NoticeDetail) (sts : List Station) (who : Station)
    (h : isPending (s.niu.notices.get who) j = true) : isPending ((hand k d sts s).niu.notices.get who) j = true := by
  induction sts generalizing s with
  | nil => exact h
  | cons st rest ih =>
    refine ih (handTo k d st s) ?_
    by_cases hw : who = st
    · subst hw; simp [h]
    · rw [isPending_handTo_other s k j d hw, h]

/-- A notice handed is pending for each master it is handed to. -/
theorem isPending_hand (k : NoticeKind) (d : NoticeDetail) {sts : List Station} {who : Station} (h : who ∈ sts) :
    isPending ((hand k d sts s).niu.notices.get who) k = true := by
  induction sts generalizing s with
  | nil => simp at h
  | cons st rest ih =>
    rcases List.mem_cons.mp h with rfl | h
    · exact isPending_hand_of _ k k d rest who (by simp)
    · exact ih (handTo k d st s) h

/-- The end of a command leaves what is pending. -/
@[simp] theorem isPending_finish (who : Station) (k : NoticeKind) :
    isPending ((finish s t).niu.notices.get who) k = isPending (t.niu.notices.get who) k := by
  simp [isPending]

/-! ## Slots (R91, R102, R103) -/

@[simp] theorem abortTrip_slot0 (cause : AbortCause) :
    (abortTrip cause s).trc.slot0 = freed (cause = .cancelled) s.trc.slot0 := by
  simp only [abortTrip, freeSlots]
  split <;> simp [resumedDwell]

@[simp] theorem abortTrip_slot1 (cause : AbortCause) :
    (abortTrip cause s).trc.slot1 = freed (cause = .cancelled) s.trc.slot1 := by
  simp only [abortTrip, freeSlots]
  split <;> simp [resumedDwell]

/-- What an abort leaves in the trip record (R103). -/
@[simp] theorem abortTrip_trip (cause : AbortCause) :
    (abortTrip cause s).trc.trip = { s.trc.trip with outcome := .aborted, abortCause := some cause } := by
  simp only [abortTrip, freeSlots]
  split <;> simp [resumedDwell, setTripState, clcOnTrip, trcOnTrip]

@[simp] theorem abortTrip_mismatch (cause : AbortCause) : (abortTrip cause s).psu.mismatch = ⟨0, 0⟩ := by
  simp [abortTrip, zeroMismatch]

/-- Freeing makes no slot PENDING. -/
theorem freed_name (cancelled : Bool) {v : Slot} (h : v.name ≠ .pending) : (freed cancelled v).name ≠ .pending := by
  cases v with
  | inFlight r => simp only [freed]; split <;> simp [Slot.name]
  | _ => simpa [freed] using h

/-- With no slot PENDING an abort tests none (R91). -/
theorem abortAndTest_nonePending (cause : AbortCause) (h : NonePending s) : abortAndTest cause s = abortTrip cause s := by
  have h0 : ∀ r, slotOf (abortTrip cause s) .slot0 ≠ .pending r := fun r he =>
    freed_name (cause = .cancelled) h.1 (by rw [← abortTrip_slot0]; exact congrArg Slot.name he)
  have h1 : ∀ r, slotOf (abortTrip cause s) .slot1 ≠ .pending r := fun r he =>
    freed_name (cause = .cancelled) h.2 (by rw [← abortTrip_slot1]; exact congrArg Slot.name he)
  have a : ∀ {id}, (∀ r, slotOf (abortTrip cause s) id ≠ .pending r) →
      stopPending id (abortTrip cause s) = abortTrip cause s := fun {id} hid => by
    unfold stopPending
    split
    · exact absurd ‹_› (hid _)
    · rfl
  have b : ∀ {id}, (∀ r, slotOf (abortTrip cause s) id ≠ .pending r) →
      testPending id (abortTrip cause s) = abortTrip cause s := fun {id} hid => by
    unfold testPending
    split
    · exact absurd ‹_› (hid _)
    · rfl
  unfold abortAndTest pendingsAfterAbort stopPendings
  rw [a h0, a h1, b h0, b h1, ite_self]

/-! ## The line state (R143) -/

@[simp] theorem changeLine_line (new : LineState) (slots : Bool) : (changeLine new slots s).lsu.line = new := by
  simp [changeLine]
  split <;> simp

/-! ## The speed sample (R27 to R29, R57) -/

@[simp] theorem sampleSpeed_vRope :
    (sampleSpeed s).psu.vRope =
      ropeSpeed s.params.kEnc (s.psu.sampleTimer.due - s.psu.sampleTimer.start) (countDiff s.psu.count s.psu.countPrev) := by
  simp only [sampleSpeed]
  split <;> simp

@[simp] theorem sampleSpeed_vEval : (sampleSpeed s).psu.vEval = evalSpeed s (sampleSpeed s).psu.vRope := by
  rw [sampleSpeed_vRope]
  simp only [sampleSpeed]
  split <;> simp

@[simp] theorem sampleSpeed_ropeDir :
    (sampleSpeed s).psu.ropeDir = dirOf (countDiff s.psu.count s.psu.countPrev) := by
  simp only [sampleSpeed]
  split <;> simp

@[simp] theorem sampleSpeed_countPrev : (sampleSpeed s).psu.countPrev = s.psu.count := by
  simp only [sampleSpeed]
  split <;> simp

@[simp] theorem sampleSpeed_sampleTimer : (sampleSpeed s).psu.sampleTimer = startAt s.now s.params.ts := by
  simp only [sampleSpeed]
  split <;> simp

@[simp] theorem loseStill_stillCount : (loseStill s).psu.stillCount = s.psu.stillCount := by
  simp only [loseStill]
  split <;> simp

@[simp] theorem loseStill_still : (loseStill s).psu.still = false := by
  simp only [loseStill]
  split <;> simp

/-- The still-sample count after a sample (R29). -/
@[simp] theorem updateStill_stillCount :
    (updateStill s).psu.stillCount =
      if s.psu.vEval ≤ s.params.vstill then satAdd Config.stillMax s.psu.stillCount 1 else 0 := by
  simp only [updateStill]
  repeat' split
  all_goals simp [confirmStill, clearExpected]

/-- Standstill after a sample (R29). -/
@[simp] theorem updateStill_still :
    (updateStill s).psu.still =
      (decide (s.psu.vEval ≤ s.params.vstill) &&
        (s.psu.still || decide (s.params.nStill ≤ satAdd Config.stillMax s.psu.stillCount 1))) := by
  simp only [updateStill]
  repeat' split
  all_goals simp_all [confirmStill, clearExpected]
  all_goals
    intro h
    first
    | omega
    | (cases hs : s.psu.still <;> simp_all [Nat.not_le.mpr])

@[simp] theorem setCeiling_c (c : Nat) : (setCeiling c s).clc.c = c := rfl

/-! ## Freshness (R39) -/

/-- When a report counts as fresh. -/
theorem isFresh_iff (c : Car) :
    isFresh s c = true ↔ (s.cru.get c).fresh = true ∧ reportAge s c ≤ s.params.tCar := by
  simp [isFresh]

/-- Only a car's record, the clock and the stored T_CAR decide whether its report is fresh. -/
theorem isFresh_congr {s t : State} (c : Car) (hr : t.cru.get c = s.cru.get c) (hn : t.now = s.now)
    (hp : t.params.tCar = s.params.tCar) : isFresh t c = isFresh s c := by
  simp [isFresh, reportAge, hr, hn, hp]

/-- A record whose fresh field stands is fresh, or its staleness is due. -/
theorem staleDue_eq (c : Car) : staleDue s c = ((s.cru.get c).fresh && !isFresh s c) := by
  by_cases h : reportAge s c ≤ s.params.tCar
  · simp [staleDue, isFresh, h, Nat.not_lt.mpr h]
  · simp [staleDue, isFresh, h, Nat.lt_of_not_le h]

/-! ## The dispatcher's line (R87) -/

/-- The debounced level is the one taken, and nothing of the state but it, the line, the input and the clock changes. -/
theorem debounce_eq (v : Bool) :
    debounce v s =
      { s with
        trc := { s.trc with debounced := v }
        pins :=
          { s.pins with
            dispatchIn := (debounce v s).pins.dispatchIn, dispatchLine := (debounce v s).pins.dispatchLine }
        now := (debounce v s).now } := by
  simp only [debounce, heldPins]
  split <;> rfl

/-- The clock never falls behind at a debounced change. -/
theorem le_debounce_now (v : Bool) : s.now ≤ (debounce v s).now := by
  simp only [debounce, advanceTo]
  exact Nat.le_max_left ..

/-! ## The slot of a request (R83) -/

/-- A request is for a slot where that slot is the one given and its requester owns it. -/
theorem resolveSlot_eq_some (st : Station) (n : Option Nat) (id : SlotId) :
    resolveSlot s st n = some id ↔ slotGiven s st n = some id ∧ ownerOf s id = roleOf st := by
  simp [resolveSlot, Option.filter_eq_some_iff]

/-- A request whose slot is not its requester's is refused NOT_YOURS and changes nothing. -/
theorem slotNotYours_state (st : Station) (n : Option Nat) :
    (slotNotYours s st n).state = s ∧ (slotNotYours s st n).status = .refused .notYours := by
  unfold slotNotYours
  split <;> exact ⟨rfl, rfl⟩

end Sys2Proof.Machine
end

