-- ==== Sys2Proof/Laws/Payloads.lean ====
section
/-! SUPPORT. Each payload form read back from its own bytes: one lemma per form of Operands.lean. `Carries take put ok`
says that `take` gives back every field that `ok` allows, with whatever stands after its bytes. -/

namespace Sys2Proof.Machine

variable {α β : Type}

/-- The bytes that `put` gives for a field are read back by `take` as that field, whatever follows them. -/
def Carries (take : List Byte → Option (α × List Byte)) (put : α → List Byte) (ok : α → Bool) : Prop :=
  ∀ f, ok f = true → ∀ rest, take (put f ++ rest) = some (f, rest)

/-- The same for a form that takes the rest of the payload. -/
def CarriesAlone (take : List Byte → Option (α × List Byte)) (put : α → List Byte) (ok : α → Bool) : Prop :=
  ∀ f, ok f = true → take (put f) = some (f, [])

theorem Carries.alone {take : List Byte → Option (α × List Byte)} {put : α → List Byte} {ok : α → Bool}
    (h : Carries take put ok) : CarriesAlone take put ok := fun f hf => by simpa using h f hf []

/-- A well-formed payload is read back from its bytes. -/
theorem CarriesAlone.read [DecidableEq α] {take : List Byte → Option (α × List Byte)} {put : α → List Byte} {ok : α → Bool}
    (h : CarriesAlone take put ok) {p : Payload α} (hp : payloadOk take ok p = true) :
    readPayload take (payloadBytes put p) = p := by
  cases p with
  | fields f => simp [readPayload, payloadBytes, h f hp]
  | malformed bs =>
    simp only [payloadOk, Bool.decide_and, Bool.and_eq_true, decide_eq_true_eq] at hp
    exact hp.2

/-! ## Bytes and numbers -/

theorem byteOf_toNat {n : Nat} (h : n < 256) : (byteOf n).toNat = n := by
  simp [byteOf, Nat.mod_eq_of_lt h]

theorem codedIn_codeIn [DecidableEq α] (l : List α) {c : Coded α} (hl : l.length ≤ 256) (h : codedOk l c = true) :
    codedIn l (byteOf (codeIn l c)).toNat = c := by
  cases c with
  | listed a =>
    have ha : a ∈ l := by simpa [codedOk] using h
    have hi : l.idxOf a < l.length := List.idxOf_lt_length_iff.mpr ha
    rw [codeIn, byteOf_toNat (by omega), codedIn, List.getElem?_eq_getElem hi, List.getElem_idxOf hi]
  | unlisted code =>
    simp only [codedOk, Bool.decide_and, Bool.and_eq_true, decide_eq_true_eq] at h
    rw [codeIn, byteOf_toNat h.2, codedIn, List.getElem?_eq_none h.1]

theorem carries_unit : CarriesAlone takeUnit unitBytes unitOk := fun _ _ => rfl

theorem carries_byte : Carries takeByte (fun n => [byteOf n]) byteOk := fun n h rest => by
  simp [takeByte, byteOf_toNat (of_decide_eq_true h)]

theorem word_of_bytes (w : BitVec 32) :
    (w.extractLsb' 24 8 ++ w.extractLsb' 16 8 ++ w.extractLsb' 8 8 ++ w.extractLsb' 0 8 : BitVec 32) = w := by
  rw [BitVec.extractLsb'_append_extractLsb'_eq_extractLsb' (by omega), BitVec.extractLsb'_append_extractLsb'_eq_extractLsb' (by omega),
    BitVec.extractLsb'_append_extractLsb'_eq_extractLsb' (by omega)]
  simp

theorem carries_num : Carries takeNum numBytes numOk := fun n h rest => by
  simp only [numOk, Bool.decide_and, Bool.and_eq_true, decide_eq_true_eq] at h
  simp only [numBytes, takeNum, List.cons_append, List.nil_append, word_of_bytes, BitVec.toInt_ofInt]
  rw [Int.bmod_eq_of_le (by omega) (by omega)]

theorem carries_coded [DecidableEq α] (l : List α) (hl : l.length ≤ 256) :
    Carries (takeCoded l) (codedByte l) (codedOk l) := fun c h rest => by
  simp [takeCoded, codedByte, takeByte, codedIn_codeIn l hl h]

theorem Carries.pair {p : List Byte → Option (α × List Byte)} {q : List Byte → Option (β × List Byte)}
    {a : α → List Byte} {b : β → List Byte} {u : α → Bool} {v : β → Bool} (hp : Carries p a u) (hq : Carries q b v) :
    Carries (takePair p q) (pairBytes a b) (pairOk u v) := fun x h rest => by
  simp only [pairOk, Bool.and_eq_true] at h
  simp [takePair, pairBytes, hp x.1 h.1, hq x.2 h.2]

theorem carries_optByte : Carries takeOptByte optByteBytes optByteOk := fun n h rest => by
  cases n with
  | none => simp [optByteBytes, takeOptByte]
  | some k =>
    have hk : k < 256 := by simpa [optByteOk, byteOk] using h
    simp [optByteBytes, takeOptByte, takeByte, byteOf_toNat hk]

theorem carries_laneRef : Carries takeLaneRef laneRefBytes laneRefOk := fun r h rest => by
  obtain ⟨g, n⟩ := r
  simp only [laneRefOk, byteOk, Bool.and_eq_true, decide_eq_true_eq] at h
  have hg : gateCoded (byteOf (gateCode g)).toNat = g := by
    cases g with
    | listed g => cases g <;> rfl
    | unlisted k =>
      simp only [gateOk, Bool.decide_and, Bool.and_eq_true, decide_eq_true_eq] at h
      rw [gateCode, byteOf_toNat h.1.1, gateCoded, if_neg (by omega), if_neg (by omega), if_neg (by omega)]
  simp [laneRefBytes, takeLaneRef, hg, byteOf_toNat h.2]

/-! ## The payloads of single requests -/

theorem carries_tripRequest : Carries takeTripRequest tripRequestBytes tripRequestOk := fun f h rest => by
  obtain ⟨slot, d, m, t, o, k⟩ := f
  simp only [tripRequestOk, Bool.and_eq_true] at h
  obtain ⟨⟨⟨⟨⟨h1, h2⟩, h3⟩, h4⟩, h5⟩, h6⟩ := h
  simp [takeTripRequest, tripRequestBytes, List.append_assoc, carries_optByte slot h1, codedIn_codeIn _ (by decide) h2,
    codedIn_codeIn _ (by decide) h3, codedIn_codeIn _ (by decide) h4, codedIn_codeIn _ (by decide) h5,
    codedIn_codeIn _ (by decide) h6]

theorem carries_maintTarget : Carries takeMaintTarget maintTargetBytes maintTargetOk := fun f h rest => by
  cases f with
  | all => simp [maintTargetBytes, takeMaintTarget]
  | side c d =>
    simp only [maintTargetOk, Bool.and_eq_true] at h
    simp [maintTargetBytes, takeMaintTarget, codedIn_codeIn _ (by decide) h.1, codedIn_codeIn _ (by decide) h.2]

theorem carries_setParameter : Carries takeSetParameter setParameterBytes setParameterOk := fun f h rest => by
  obtain ⟨c, v⟩ := f
  simp only [setParameterOk, Bool.and_eq_true] at h
  obtain ⟨hc, hv⟩ := h
  have hb := codedIn_codeIn allParams (by decide) hc
  rcases c with (p | _ | _) | code
  · simp [setParameterBytes, takeSetParameter, hb, carries_num v (by simpa using hv)]
  · simp only [Bool.decide_and, Bool.and_eq_true, decide_eq_true_eq] at hv
    simp [setParameterBytes, takeSetParameter, hb, takeByte, byteOf_toNat (show v.toNat < 256 by omega)]
    omega
  · simp only [Bool.decide_and, Bool.and_eq_true, decide_eq_true_eq] at hv
    simp [setParameterBytes, takeSetParameter, hb, takeByte, byteOf_toNat (show v.toNat < 256 by omega)]
    omega
  · simp [setParameterBytes, takeSetParameter, hb, carries_num v (by simpa using hv)]

theorem carries_lanePut : Carries takeLanePut lanePutBytes lanePutOk := fun f h rest => by
  obtain ⟨r, k, p⟩ := f
  simp only [lanePutOk, Bool.and_eq_true] at h
  simp [takeLanePut, lanePutBytes, List.append_assoc, carries_laneRef r h.1.1, codedIn_codeIn _ (by decide) h.1.2,
    codedIn_codeIn _ (by decide) h.2]

theorem carries_entryRef : Carries takeEntryRef entryRefBytes entryRefOk := fun e h rest => by
  cases e with
  | segment n => simp [entryRefBytes, takeEntryRef, takeByte, byteOf_toNat (of_decide_eq_true h)]
  | marker n => simp [entryRefBytes, takeEntryRef, takeByte, byteOf_toNat (of_decide_eq_true h)]
  | lane r => simp [entryRefBytes, takeEntryRef, carries_laneRef r h]
  | unlistedTable t n =>
    simp only [entryRefOk, byteOk, Bool.decide_and, Bool.and_eq_true, decide_eq_true_eq] at h
    obtain ⟨⟨h2, ht⟩, hn⟩ := h
    have hne : ∀ k : Nat, k ≤ 2 → byteOf t ≠ BitVec.ofNat 8 k := fun k hk he => by
      have := congrArg BitVec.toNat he
      rw [byteOf_toNat ht] at this
      simp at this
      omega
    have h0 : byteOf t ≠ 0#8 := hne 0 (by omega)
    have h1 : byteOf t ≠ 1#8 := hne 1 (by omega)
    have h2' : byteOf t ≠ 2#8 := hne 2 (by omega)
    simp [entryRefBytes, takeEntryRef, h0, h1, h2', takeByte, byteOf_toNat ht, byteOf_toNat hn]

theorem carries_codedList [DecidableEq α] (l : List α) (hl : l.length ≤ 256) :
    CarriesAlone (takeCodedList l) (codedListBytes l) (codedListOk l) := fun xs h => by
  simp only [codedListOk, Bool.and_eq_true, decide_eq_true_eq, List.all_eq_true] at h
  have hlen : xs.length < 256 := Nat.lt_trans h.1 (by decide)
  have hmap : xs.map (fun x => codedIn l (byteOf (codeIn l x)).toNat) = xs :=
    (List.map_congr_left fun x hx => codedIn_codeIn l hl (h.2 x hx)).trans (List.map_id' xs)
  simp only [codedListBytes, takeCodedList, List.length_map, byteOf_toNat hlen, if_true, List.map_map]
  exact congrArg (fun y => some (y, [])) hmap

end Sys2Proof.Machine
end

