-- ==== Sys2Proof/Laws/PerInstr.lean ====
section
/-! SUPPORT. The family FrameRoundTrip: for each command, what its frame is read as. The step from the bits on the wire
to the frame (stuffing, length, check) is not part of it. -/

namespace Sys2Proof.Machine

/-- Each line of the catalogue is found by its class and code (R155, check 1). -/
theorem requestOf_catalogue (r : Request) : requestOf (catalogue r).cls (catalogue r).code = some r := by
  cases r <;> decide

/-- Each station is found by its number (R155, check 2). -/
theorem stationOf_number (st : Station) : stationOf (BitVec.ofNat 3 (stationNumber st)).toNat = some st := by
  cases st <;> rfl

/-- A frame with the head of a request from a station is that request's command with its payload. -/
theorem commandOf_requestHead (r : Request) (st : Station) (bs : List Byte) :
    commandOf ⟨requestHead r st, bs⟩ = requestCommand r st bs := by
  simp only [commandOf, requestHead, requestOf_catalogue, stationOf_number]

end Sys2Proof.Machine

namespace Sys2Proof.Laws.FrameRoundTrip

open Sys2Proof Sys2Proof.Machine

/-- A well-formed command that has a frame is what its frame is read as. -/
def Statement (i : Instr) : Prop := wellFormed i = true → ∀ f, frameOf i = some f → commandOf f = i

/-- From a request's parts: it is enough that its payload reads back. -/
theorem of_parts {i : Instr} {r : Request} {st : Station} {bs : List Byte} (h : requestParts i = some (r, st, bs))
    (hc : wellFormed i = true → requestCommand r st bs = i) : Statement i := by
  intro hw f hf
  rw [frameOf, h, Option.map_some, Option.some.injEq] at hf
  rw [← hf, commandOf_requestHead, hc hw]

/-- An event has no frame. -/
theorem of_event {i : Instr} (h : requestParts i = none) : Statement i := by
  intro _ f hf
  rw [frameOf, h] at hf
  cases hf

theorem carPoll (st : Station) (bs : List Byte) : Statement (.carPoll st bs) := of_parts rfl fun _ => rfl

theorem stop (st : Station) (p : Payload Unit) : Statement (.stop st p) :=
  of_parts rfl fun h => congrArg (Instr.stop st) (carries_unit.read h)

theorem estop (st : Station) (p : Payload Unit) : Statement (.estop st p) :=
  of_parts rfl fun h => congrArg (Instr.estop st) (carries_unit.read h)

theorem runRefresh (st : Station) (p : Payload Unit) : Statement (.runRefresh st p) :=
  of_parts rfl fun h => congrArg (Instr.runRefresh st) (carries_unit.read h)

theorem clearBrake (st : Station) (p : Payload Unit) : Statement (.clearBrake st p) :=
  of_parts rfl fun h => congrArg (Instr.clearBrake st) (carries_unit.read h)

theorem tripRequest (st : Station) (p : Payload TripRequestFields) : Statement (.tripRequest st p) :=
  of_parts rfl fun h => congrArg (Instr.tripRequest st) (carries_tripRequest.alone.read h)

theorem cancelTrip (st : Station) (p : Payload (Option Nat)) : Statement (.cancelTrip st p) :=
  of_parts rfl fun h => congrArg (Instr.cancelTrip st) (carries_optByte.alone.read h)

theorem setMode (st : Station) (p : Payload (Coded Mode)) : Statement (.setMode st p) :=
  of_parts rfl fun h => congrArg (Instr.setMode st) ((carries_coded allModes (by decide)).alone.read h)

theorem setLimit (st : Station) (p : Payload Int) : Statement (.setLimit st p) :=
  of_parts rfl fun h => congrArg (Instr.setLimit st) (carries_num.alone.read h)

theorem evacuate (st : Station) (p : Payload (Coded Car)) : Statement (.evacuate st p) :=
  of_parts rfl fun h => congrArg (Instr.evacuate st) ((carries_coded allCars (by decide)).alone.read h)

theorem evacuateEnd (st : Station) (p : Payload (Coded Car)) : Statement (.evacuateEnd st p) :=
  of_parts rfl fun h => congrArg (Instr.evacuateEnd st) ((carries_coded allCars (by decide)).alone.read h)

theorem maintRelease (st : Station) (p : Payload (Coded Car × Coded Side)) : Statement (.maintRelease st p) :=
  of_parts rfl fun h => congrArg (Instr.maintRelease st)
    ((Carries.pair (carries_coded allCars (by decide)) (carries_coded allSides (by decide))).alone.read h)

theorem maintEnd (st : Station) (p : Payload MaintTarget) : Statement (.maintEnd st p) :=
  of_parts rfl fun h => congrArg (Instr.maintEnd st) (carries_maintTarget.alone.read h)

theorem admitPerson (st : Station) (p : Payload LaneRef) : Statement (.admitPerson st p) :=
  of_parts rfl fun h => congrArg (Instr.admitPerson st) (carries_laneRef.alone.read h)

theorem passed (st : Station) (p : Payload LaneRef) : Statement (.passed st p) :=
  of_parts rfl fun h => congrArg (Instr.passed st) (carries_laneRef.alone.read h)

theorem abandoned (st : Station) (p : Payload LaneRef) : Statement (.abandoned st p) :=
  of_parts rfl fun h => congrArg (Instr.abandoned st) (carries_laneRef.alone.read h)

theorem exited (st : Station) (p : Payload LaneRef) : Statement (.exited st p) :=
  of_parts rfl fun h => congrArg (Instr.exited st) (carries_laneRef.alone.read h)

theorem openLine (st : Station) (p : Payload Unit) : Statement (.openLine st p) :=
  of_parts rfl fun h => congrArg (Instr.openLine st) (carries_unit.read h)

theorem closeLine (st : Station) (p : Payload Unit) : Statement (.closeLine st p) :=
  of_parts rfl fun h => congrArg (Instr.closeLine st) (carries_unit.read h)

theorem inspectionEnter (st : Station) (p : Payload Unit) : Statement (.inspectionEnter st p) :=
  of_parts rfl fun h => congrArg (Instr.inspectionEnter st) (carries_unit.read h)

theorem inspectionLeave (st : Station) (p : Payload Unit) : Statement (.inspectionLeave st p) :=
  of_parts rfl fun h => congrArg (Instr.inspectionLeave st) (carries_unit.read h)

theorem setReference (st : Station) (p : Payload (Coded Stop)) : Statement (.setReference st p) :=
  of_parts rfl fun h => congrArg (Instr.setReference st) ((carries_coded allStops (by decide)).alone.read h)

theorem setClearInInspection (st : Station) (p : Payload (Coded Bool)) : Statement (.setClearInInspection st p) :=
  of_parts rfl fun h => congrArg (Instr.setClearInInspection st) ((carries_coded allFlags (by decide)).alone.read h)

theorem resetPart (st : Station) (p : Payload Unit) : Statement (.resetPart st p) :=
  of_parts rfl fun h => congrArg (Instr.resetPart st) (carries_unit.read h)

theorem setParameter (st : Station) (p : Payload (Coded Param × Int)) : Statement (.setParameter st p) :=
  of_parts rfl fun h => congrArg (Instr.setParameter st) (carries_setParameter.alone.read h)

theorem platformSide (st : Station) (p : Payload (Coded Platform × Coded Side)) : Statement (.platformSide st p) :=
  of_parts rfl fun h => congrArg (Instr.platformSide st)
    ((Carries.pair (carries_coded allPlatforms (by decide)) (carries_coded allSides (by decide))).alone.read h)

theorem profilePut (st : Station) (p : Payload (Int × Int)) : Statement (.profilePut st p) :=
  of_parts rfl fun h => congrArg (Instr.profilePut st) ((Carries.pair carries_num carries_num).alone.read h)

theorem profileRemove (st : Station) (p : Payload Nat) : Statement (.profileRemove st p) :=
  of_parts rfl fun h => congrArg (Instr.profileRemove st) (carries_byte.alone.read h)

theorem profileClear (st : Station) (p : Payload Unit) : Statement (.profileClear st p) :=
  of_parts rfl fun h => congrArg (Instr.profileClear st) (carries_unit.read h)

theorem markerPut (st : Station) (p : Payload Int) : Statement (.markerPut st p) :=
  of_parts rfl fun h => congrArg (Instr.markerPut st) (carries_num.alone.read h)

theorem markerRemove (st : Station) (p : Payload Nat) : Statement (.markerRemove st p) :=
  of_parts rfl fun h => congrArg (Instr.markerRemove st) (carries_byte.alone.read h)

theorem markerClear (st : Station) (p : Payload Unit) : Statement (.markerClear st p) :=
  of_parts rfl fun h => congrArg (Instr.markerClear st) (carries_unit.read h)

theorem lanePut (st : Station) (p : Payload LanePutFields) : Statement (.lanePut st p) :=
  of_parts rfl fun h => congrArg (Instr.lanePut st) (carries_lanePut.alone.read h)

theorem laneRemove (st : Station) (p : Payload LaneRef) : Statement (.laneRemove st p) :=
  of_parts rfl fun h => congrArg (Instr.laneRemove st) (carries_laneRef.alone.read h)

theorem commit (st : Station) (p : Payload Unit) : Statement (.commit st p) :=
  of_parts rfl fun h => congrArg (Instr.commit st) (carries_unit.read h)

theorem enableLane (st : Station) (p : Payload LaneRef) : Statement (.enableLane st p) :=
  of_parts rfl fun h => congrArg (Instr.enableLane st) (carries_laneRef.alone.read h)

theorem disableLane (st : Station) (p : Payload LaneRef) : Statement (.disableLane st p) :=
  of_parts rfl fun h => congrArg (Instr.disableLane st) (carries_laneRef.alone.read h)

theorem adjustLoad (st : Station) (p : Payload (Coded Car × Int)) : Statement (.adjustLoad st p) :=
  of_parts rfl fun h => congrArg (Instr.adjustLoad st)
    ((Carries.pair (carries_coded allCars (by decide)) carries_num).alone.read h)

theorem clearUncounted (st : Station) (p : Payload (Coded UncountedTarget)) : Statement (.clearUncounted st p) :=
  of_parts rfl fun h => congrArg (Instr.clearUncounted st) ((carries_coded allTargets (by decide)).alone.read h)

theorem clearAlarm (st : Station) (p : Payload (Coded Car)) : Statement (.clearAlarm st p) :=
  of_parts rfl fun h => congrArg (Instr.clearAlarm st) ((carries_coded allCars (by decide)).alone.read h)

theorem readParameter (st : Station) (p : Payload (Coded ReadName)) : Statement (.readParameter st p) :=
  of_parts rfl fun h => congrArg (Instr.readParameter st) ((carries_coded allReadNames (by decide)).alone.read h)

theorem readEntry (st : Station) (p : Payload EntryRef) : Statement (.readEntry st p) :=
  of_parts rfl fun h => congrArg (Instr.readEntry st) (carries_entryRef.alone.read h)

theorem snapshotSelect (st : Station) (p : Payload (List (Coded SnapKind))) : Statement (.snapshotSelect st p) :=
  of_parts rfl fun h => congrArg (Instr.snapshotSelect st) ((carries_codedList allSnapKinds (by decide)).read h)

theorem snapshot (st : Station) (p : Payload Unit) : Statement (.snapshot st p) :=
  of_parts rfl fun h => congrArg (Instr.snapshot st) (carries_unit.read h)

theorem nextNotice (st : Station) (p : Payload Unit) : Statement (.nextNotice st p) :=
  of_parts rfl fun h => congrArg (Instr.nextNotice st) (carries_unit.read h)

theorem noticeEnable (st : Station) (p : Payload (List (Coded NoticeKind))) : Statement (.noticeEnable st p) :=
  of_parts rfl fun h => congrArg (Instr.noticeEnable st) ((carries_codedList allNoticeKinds (by decide)).read h)

theorem incidentRead (st : Station) (p : Payload Int) : Statement (.incidentRead st p) :=
  of_parts rfl fun h => congrArg (Instr.incidentRead st) (carries_num.alone.read h)

theorem incidentAck (st : Station) (p : Payload Int) : Statement (.incidentAck st p) :=
  of_parts rfl fun h => congrArg (Instr.incidentAck st) (carries_num.alone.read h)

theorem resetCauseRead (st : Station) (p : Payload Unit) : Statement (.resetCauseRead st p) :=
  of_parts rfl fun h => congrArg (Instr.resetCauseRead st) (carries_unit.read h)

theorem unknownRequestFrame (head : Head) : Statement (.unknownRequestFrame head) := of_event rfl

theorem frameDiscarded (why : DiscardCause) : Statement (.frameDiscarded why) := of_event rfl

theorem replyCollision : Statement .replyCollision := of_event rfl

theorem speedSample : Statement .speedSample := of_event rfl

theorem encoderEdge (dir : TripDir) : Statement (.encoderEdge dir) := of_event rfl

theorem carReportStale (car : Car) : Statement (.carReportStale car) := of_event rfl

theorem driveRefreshTimerExpiry : Statement .driveRefreshTimerExpiry := of_event rfl

theorem releaseWaitExpiry : Statement .releaseWaitExpiry := of_event rfl

theorem applyTimerExpiry (brake : Brake) : Statement (.applyTimerExpiry brake) := of_event rfl

theorem brakeFeedbackChange (brake : Brake) (level : Feedback) : Statement (.brakeFeedbackChange brake level) := of_event rfl

theorem dispatchInputChange (high : Bool) : Statement (.dispatchInputChange high) := of_event rfl

theorem dispatch : Statement .dispatch := of_event rfl

theorem minDwellExpiry : Statement .minDwellExpiry := of_event rfl

theorem settleTimerExpiry : Statement .settleTimerExpiry := of_event rfl

theorem leadTimerExpiry : Statement .leadTimerExpiry := of_event rfl

theorem doorCloseTimerExpiry : Statement .doorCloseTimerExpiry := of_event rfl

theorem lapse (lane : LaneId) : Statement (.lapse lane) := of_event rfl

theorem powerOnReset : Statement .powerOnReset := of_event rfl

theorem pinReset (released : Bool) : Statement (.pinReset released) := of_event rfl

theorem supplyLow : Statement .supplyLow := of_event rfl

theorem resetPinReleased : Statement .resetPinReleased := of_event rfl

theorem supplyRestored : Statement .supplyRestored := of_event rfl

theorem debouncedLevelFall : Statement .debouncedLevelFall := of_event rfl

theorem feedbackInputChange (brake : Brake) (level : Feedback) : Statement (.feedbackInputChange brake level) := of_event rfl

end Sys2Proof.Laws.FrameRoundTrip
end

