-- ==== Sys2Proof/Tests/Slice0.lean ====
section
/-! SUPPORT. Tests: an ill-formed command for each check of WellFormed.lean; the worked cases of Chapters 2, 3, 9 and
11 against the model; and, for each statement of Obligations.lean that has hypotheses, states and operands that meet
them (`test_hyp_…`), at the bounds of their ranges where a clause has a range. -/

namespace Sys2Proof.Tests

open Sys2Proof Sys2Proof.Machine

/-! ## WellFormed: one ill-formed command for each check -/

theorem test_wf_poll_too_long : wellFormed (.carPoll .carA (List.replicate 241 0)) = false := by decide +kernel
theorem test_wf_malformed_too_long : wellFormed (.stop .con (.malformed (List.replicate 241 0))) = false := by decide +kernel
theorem test_wf_malformed_carries_fields : wellFormed (.stop .con (.malformed [])) = false := by decide
theorem test_wf_slot_byte :
    wellFormed (.tripRequest .con (.fields ⟨some 256, .listed (.stop .top), .listed .normal, .listed .dwell, .listed true,
      .listed false⟩)) = false := by decide
theorem test_wf_code_listed : wellFormed (.setMode .con (.fields (.unlisted 2))) = false := by decide
theorem test_wf_code_too_large : wellFormed (.setMode .con (.fields (.unlisted 256))) = false := by decide
theorem test_wf_number : wellFormed (.setLimit .drv (.fields 2147483648)) = false := by decide
theorem test_wf_cancel_slot : wellFormed (.cancelTrip .con (.fields (some 256))) = false := by decide
theorem test_wf_gate_code : wellFormed (.passed .gateBot (.fields ⟨.unlisted 5, 0⟩)) = false := by decide
theorem test_wf_lane_byte : wellFormed (.passed .gateBot (.fields ⟨.listed .bot, 256⟩)) = false := by decide
theorem test_wf_pair : wellFormed (.profilePut .con (.fields (-2147483649, 0))) = false := by decide
theorem test_wf_entry_byte : wellFormed (.profileRemove .con (.fields 256)) = false := by decide
theorem test_wf_maint_side : wellFormed (.maintEnd .con (.fields (.side (.listed .a) (.unlisted 1)))) = false := by decide
theorem test_wf_enumerated_value :
    wellFormed (.setParameter .con (.fields (.listed .slotMode, 256))) = false := by decide
theorem test_wf_lane_kind :
    wellFormed (.lanePut .con (.fields ⟨⟨.listed .bot, 0⟩, .unlisted 1, .listed .botBoard⟩)) = false := by decide
theorem test_wf_table_code : wellFormed (.readEntry .con (.fields (.unlistedTable 2 0))) = false := by decide
theorem test_wf_list_too_long :
    wellFormed (.snapshotSelect .con (.fields (List.replicate 240 (.listed .line)))) = false := by decide +kernel
theorem test_wf_known_head : wellFormed (.unknownRequestFrame ⟨0, 7, 2⟩) = false := by decide
theorem test_wf_takes : wellFormed (.setParameter .con (.fields (.listed (.num .ts), -5))) = true := by decide

/-! ## The reference line (section 3.11) and states on it -/

/-- The parameters of the reference line, with CAPACITY 120 (section 11.1). -/
def refParams : Params := { Params.powerOn with trackLen := 211200, midStop := 105600, kEnc := 10053, capacity := 120 }

/-- The profile of the reference line. -/
def refProfile : List Segment := [⟨0, 400⟩, ⟨3000, 1000⟩, ⟨100000, 500⟩, ⟨111000, 1000⟩, ⟨208000, 400⟩]

def entryLane : LaneId := ⟨.bot, 0⟩
def exitLane : LaneId := ⟨.bot, 4⟩

/-- The reference line: committed, CLOSED, at the bottom stop and REFERENCED, at standstill, both cars reporting. -/
def atRest : State :=
  { State.reset with
    cfg :=
      { cfgPowerOn with
        params := refParams, profile := refProfile, markers := [5000, 100000]
        lanes := [⟨entryLane, .entry, .botBoard⟩, ⟨exitLane, .exit, .botAlight⟩], committed := true }
    adm := admReset [⟨entryLane, .entry, .botBoard⟩, ⟨exitLane, .exit, .botAlight⟩]
    psu := { State.reset.psu with ref := .referenced, still := true, stillCount := 10 }
    brs := { State.reset.brs with lastRefresh := some 0 }
    cru :=
      ⟨{ carReportReset 0 with poll := { (carReportReset 0).poll with left := .locked, right := .locked }, fresh := true },
       { carReportReset 0 with poll := { (carReportReset 0).poll with left := .locked, right := .locked }, fresh := true }⟩ }

/-- In service in DWELL at the bottom stop, boarding, MIN_DWELL elapsed. -/
def boarding : State :=
  { atRest with
    lsu := { lsuReset with line := .inService }
    trc := { trcReset false with state := .dwell .bottom, elapsed := true }
    dri := { driReset with phase := .boarding }
    adm := { atRest.adm with releaseMark := true } }

/-- A request of DRV's slot for the middle stop. -/
def toMiddle (t : Trigger) : TripReq := ⟨.stop .middle, .normal, t, false, false⟩

def toMiddleFields (t : Trigger) : TripRequestFields :=
  ⟨none, .listed (.stop .middle), .listed .normal, .listed t, .listed false, .listed false⟩

/-- Lane 0's reservation for car A. -/
def reserved : Reservation := ⟨entryLane, .botBoard, .a, ⟨0, 8000⟩⟩

def boardingOne : State := { boarding with adm := { boarding.adm with reservations := [reserved] } }

/-- A trip of DRV's slot 0 from the bottom stop to the middle stop, in the trip state given. -/
def onTrip (ts : TripState) : State :=
  { boarding with
    trc :=
      { boarding.trc with
        state := ts, slot0 := .inFlight (toMiddle .dispatch)
        trip :=
          { tripReset with
            number := 502, slot := some .slot0, owner := some .drv, mode := some .normal, direction := some .upA
            origin := some .bottom, destination := some .middle, tpos := some 105600, lastDir := some .upA
            derating := some (deratingOf refParams .upA ⟨40, 120⟩) } }
    dri := driReset
    adm := { boarding.adm with releaseMark := false } }

/-- RUNNING: both brakes lifted, the refresh timer running, the profile binding. -/
def running : State :=
  { onTrip .running with
    clc := { clcPowerOn with basis := some .profile }
    psu := { atRest.psu with still := false, stillCount := 0, furthest := some 0, travelDir := some .upA }
    brs :=
      { atRest.brs with
        drivePermit := true, sbHoldoff := true, ebHoldoff := true, sbFb := .released, ebFb := .released
        refreshTimer := some ⟨0, 200⟩ } }

/-- A SERVICE stage on the line in BRAKING, at standstill. -/
def braked : State :=
  { onTrip .braking with
    brs := { atRest.brs with stage := .service, causes := [⟨.stopRequest, .asker (.station .con)⟩] } }

/-- An EMERGENCY stage in BRAKING, at standstill. -/
def emergency : State :=
  { braked with brs := { braked.brs with stage := .emergency, causes := [⟨.estopRequest, .asker (.station .con)⟩] } }

/-- RELEASE with the release wait running and one brake still applied. -/
def releasing : State :=
  { onTrip .release with
    brs :=
      { atRest.brs with
        sbHoldoff := true, ebHoldoff := true, ebFb := .released, releaseWait := some ⟨0, 500⟩
        refreshTimer := some ⟨0, 200⟩ } }

/-- A stored SETTLE_T of 0. -/
def noSettle (s : State) : State :=
  { s with cfg := { s.cfg with params := { s.cfg.params with settleT := 0 } } }

/-- Both brakes showing RELEASED. -/
def lifted (s : State) : State := { s with brs := { s.brs with sbFb := .released, ebFb := .released } }

/-- The line in INSPECTION, in DWELL at the bottom stop. -/
def inspecting : State :=
  { boarding with
    lsu := { lsuReset with line := .inspection }
    trc := { boarding.trc with effMode := .inspection }
    dri := driReset
    adm := { boarding.adm with releaseMark := false } }

/-! ## Worked cases of Chapters 2 and 3 -/

theorem test_rope_speed_one_count : ropeSpeed 10000 20 1 = 7 := by decide
theorem test_rope_speed_down : ropeSpeed 10000 20 (-131) = 999 := by decide
theorem test_rope_speed_ascent : ropeSpeed 10053 20 108 = 828 := by decide
theorem test_power_on_ceiling : (clcPowerOn.c, clcPowerOn.w1, clcPowerOn.s, clcPowerOn.e) = (30, 31, 33, 37) := by decide

theorem test_derating_ascent : deratingOf refParams .upA ⟨40, 120⟩ = ⟨3200, 9600, 6400, 40⟩ := by decide
theorem test_derating_balanced : (deratingOf refParams .upA ⟨80, 80⟩).aEff = 80 := by decide
theorem test_derating_descent : deratingOf refParams .downA ⟨61, 40⟩ = ⟨4880, 3200, 1680, 60⟩ := by decide

theorem test_braking_curve : brakingCurve 30 40 7200 = 788 := by decide
theorem test_look_ahead_up : aheadTerms .upA 40 105600 98400 refProfile = [857] := by decide
theorem test_look_ahead_down : aheadTerms .downA 60 105600 112000 refProfile = [846] := by decide
theorem test_ceiling_ascent : ceilingProfile refParams refProfile .normal .upA 40 105600 none 98400 = 788 := by decide
theorem test_ceiling_balanced : ceilingProfile refParams refProfile .normal .upA 80 105600 none 98400 = 1000 := by decide
theorem test_ceiling_descent :
    ceilingProfile refParams refProfile .normal .downA 60 105600 (some 800) 112000 = 800 := by decide
theorem test_ceiling_at_t0_800 : ceilingProfile refParams refProfile .normal .upA 40 105600 none 99126 = 749 := by decide

theorem test_thresholds_ascent : (threshW1 refParams 788, threshS refParams 788, threshE refParams 788) = (824, 868, 985) := by
  decide
theorem test_thresholds_balanced :
    (threshW1 refParams 1000, threshS refParams 1000, threshE refParams 1000) = (1046, 1101, 1250) := by decide
theorem test_thresholds_reduced : (threshS refParams 600, threshE refParams 600) = (660, 750) := by decide

/-- Section 11.2: the monitor's limit 800 ms after a SERVICE stage at 875 cm/s. -/
theorem test_effectiveness_limit : effectivenessLimit refParams 875 800 = 859 := by decide

/-- Section 3.11: the CLC at the sample at P = 98,400 (d, C, peak and margin). -/
theorem test_sample_ceiling :
    let s := sampleCeiling { running with psu := { running.psu with pRef := 98400, vEval := 828 } }
    (s.clc.d, s.clc.c, s.trc.trip.peak, s.trc.trip.margin) = (some 7200, 788, some 828, some (-40)) := by decide

/-- Section 11.2, sample 1: the warning goes to DRV and no stage is raised. -/
theorem test_sample_warns :
    let s := sampleBrakes { running with psu := { running.psu with vEval := 828 }, clc := ⟨788, 824, 868, 985, none, none, none⟩ }
    (isPending s.niu.notices.drv .overspeedWarn, s.brs.warnArmed, s.brs.stage) = (true, false, .none) := by decide

/-- Section 11.2, sample 3: the second sample above S raises OVERSPEED_SERVICE, and EB_HOLDOFF stays on. -/
theorem test_second_overspeed_brakes :
    let s := sampleBrakes
      { running with
        psu := { running.psu with vEval := 875 }, clc := ⟨787, 823, 866, 983, none, some .profile, none⟩
        brs := { running.brs with overspeedCount := 1 } }
    (s.brs.stage, s.trc.state, s.brs.drivePermit, s.brs.sbHoldoff, s.brs.ebHoldoff, s.brs.effectiveness.map (·.v0)) =
      (.service, .braking, false, false, true, some 875) := by decide

/-! ## Chapter 9: the wire, the head and the snapshots -/

/-- Section 9.2: DRV's STOP head is 131. -/
theorem test_stop_head_value : headValue (requestHead .stop .drv) = 131 := by decide

/-- Section 9.2: STOP of DRV wins against CON's OPEN and a gate's ADMIT. -/
theorem test_stop_wins :
    arbitrate [requestHead .openLine .con, requestHead .stop .drv, requestHead .admitPerson .gateBot] =
      [requestHead .stop .drv] := by decide

theorem test_stuffing : stuff [false, false, false, false, false, false] =
    [false, false, false, false, false, true, false] := by decide

theorem test_request_on_wire :
    commandOnWire (requestWire ⟨requestHead .setLimit .drv, [0, 0, 3, 32]⟩) = .setLimit .drv (.fields 800) := by decide +kernel

theorem test_flipped_bit_discarded :
    commandOnWire ((requestWire ⟨requestHead .stop .drv, []⟩).set 3 true) = .frameDiscarded .wrongCheck := by decide +kernel

theorem test_poll_bytes :
    pollOf 3 0x3C 1 0 0 255 0 =
      some { speed := 828, dir := .up, left := .locked, right := .locked, marker := none, alarm := false
             stopReq := .none, trackBrake := false } := by decide

/-- Section 9.9, the worked example: which records of twelve the first and the second SNAPSHOT carry. -/
theorem test_snapshot_cycle :
    let s : State :=
      { atRest with
        brs := { atRest.brs with causes := braked.brs.causes }
        adm :=
          { atRest.adm with
            lanes := List.replicate 10 (laneOpReset entryLane), reservations := List.replicate 5 reserved }
        niu := { niuPowerOn with incidents := [incidentOf (.cause .stopRequest) atRest] } }
    fitting s 238 allSnapKinds =
        ([.line, .trip, .slots, .carA, .carB, .speed, .brakes, .platforms],
         [.lanes, .reservations, .incidentHead, .resetCause]) ∧
      (fitting s 238 [.lanes, .reservations, .incidentHead, .resetCause]).2 = [] := by decide

/-! ## Chapter 11: steps of the worked sequences -/

/-- Section 11.1, t = 30: MIN_DWELL expires with slot 0 PENDING (SHUTTLE-ALL at the middle stop after an ascent). -/
theorem test_min_dwell_starts_trip :
    let dwelling : State :=
      { boardingOne with
        psu := { atRest.psu with pRef := 105602 }
        trc :=
          { boarding.trc with
            state := .dwell .middle, elapsed := false, minDwell := some ⟨0, 30000⟩
            slot0 := .pending ⟨.shuttleAll, .normal, .dispatch, false, false⟩
            trip := { tripReset with number := 420, lastDir := some .upA } } }
    let s := dwellElapsed dwelling
    (s.trc.state, s.trc.slot0.name, s.trc.trip.number, s.trc.trip.destination, s.trc.trip.direction) =
      (.closing .middle, .inFlight, 421, some .top, some .upA) := by decide

/-- Section 11.3, step 8: a tailgater at a full car is uncounted, and the lane goes to FAULT. -/
theorem test_tailgater :
    let full : State := { boarding with adm := { boarding.adm with loads := ⟨⟨120, 0, false⟩, ⟨0, 0, false⟩⟩ } }
    let s := (takePassed .gateBot ⟨.listed .bot, 0⟩ full).state
    ((s.adm.loads.get .a).aboard, (s.adm.loads.get .a).uncounted, laneEnabled s entryLane) = (120, 1, false) := by decide

/-- Section 11.3, step 4: the last place of a car. -/
theorem test_last_place :
    let s : State := { boarding with adm := { boarding.adm with loads := ⟨⟨119, 0, false⟩, ⟨0, 0, false⟩⟩ } }
    (takeAdmit .gateBot ⟨.listed .bot, 0⟩ s).data = .granted .a 0 := by decide

/-- Section 11.3, step 14: an uncounted person stops the departure. -/
theorem test_uncounted_refuses :
    departureTest { boarding with adm := { boarding.adm with loads := ⟨⟨120, 1, false⟩, ⟨0, 0, false⟩⟩ } } .slot0
      (toMiddle .dispatch) .bottom = some (.causePresent (.uncounted .a)) := by decide

/-- Section 11.2: CLEAR BRAKE from DRV is refused under an EMERGENCY stage and taken from CON on the line. -/
theorem test_clear_brake :
    (takeClearBrake .drv emergency).status = .refused .notYours ∧
      (takeClearBrake .con { emergency with psu := { emergency.psu with pRef := 100361 } }).state.trc.state =
        .stoppedOnLine := by decide

/-- Section 11.4: a latched notice stays against one of higher priority; two at once are latched by priority. -/
theorem test_latching :
    (latch ⟨[⟨.overspeedWarn, .overspeed 828 824 788, false⟩, ⟨.serviceBrake, .cause .overspeedService, false⟩],
      allNoticeKinds, some .overspeedWarn⟩).latched = some .overspeedWarn ∧
    (latch ⟨[⟨.incidentCaptured, .overflow 0, false⟩, ⟨.serviceBrake, .cause .overspeedService, false⟩],
      allNoticeKinds, none⟩).latched = some .serviceBrake := by decide

/-- Section 8.2: opening the committed line at rest succeeds (R144, R145). -/
theorem test_open :
    (takeOpen () atRest).status = .ok ∧ (takeOpen () atRest).state.trc.state = .dwell .bottom := by decide

/-! ## What the hypotheses of the statements ask for

Each theorem below shows states and operands that meet all hypotheses of one statement together, clause by clause. -/

/-- `Heard` of a station with RESET_N high. -/
theorem heard {r : Request} {st : Station} {s : State} (h : s.pins.resetLow = false)
    (hp : permitted (catalogue r).permit st = true) : Heard r st s := ⟨h, hp⟩

/-- A command and the state after it. -/
def after (c : Instr) (s : State) : State :=
  match exec c s with
  | .next t => t
  | _ => s

/-- A state in which RESET_N is low. -/
def heldInReset : State := { atRest with pins := { pinsReset with resetLow := true } }

/-- INSPECTION with SET CLEAR IN INSPECTION on: no flag protection; `inspecting` has it. -/
def unprotected : State := { inspecting with lsu := { inspecting.lsu with clearInInspection := true } }

/-- Two incidents, the first read. -/
def recorded : State :=
  { atRest with
    niu :=
      { niuPowerOn with
        incidents :=
          [{ incidentOf (.cause .stopRequest) atRest with read := true },
           { incidentOf (.cause .estopRequest) atRest with seq := 65535 }] } }

/-- A master with two notices pending and enabled, one of them latched. -/
def noticed : State :=
  { atRest with
    niu :=
      { niuPowerOn with
        notices := noticesReset.set .con
          ⟨[⟨.incidentCaptured, .overflow 0, false⟩, ⟨.serviceBrake, .cause .stopRequest, false⟩], allNoticeKinds,
            some .serviceBrake⟩ } }

theorem test_hyp_IdleStepIsOneMillisecond : State.reset.pending = [] ∧ heldInReset.pending = [] := by decide

/-- Which events are due: a lapse, a stale report and an expiry at their times and not before. -/
theorem test_due_events :
    (Instr.lapse entryLane ∈ dueEvents { boardingOne with now := 8000 } ∧
        Instr.lapse entryLane ∉ dueEvents { boardingOne with now := 7999 }) ∧
      (Instr.carReportStale .a ∈ dueEvents { atRest with now := atRest.params.tCar + 1 } ∧
        Instr.carReportStale .a ∉ dueEvents { atRest with now := atRest.params.tCar }) ∧
      (Instr.releaseWaitExpiry ∈ dueEvents { releasing with now := 500 } ∧
        Instr.releaseWaitExpiry ∉ dueEvents { releasing with now := 499 }) := by decide

theorem test_hyp_UnpermittedStationIsRefused :
    (requestParts (.stop .gateTop (.fields ())) = some (.stop, .gateTop, []) ∧ atRest.pins.resetLow = false ∧
      permitted (catalogue .stop).permit .gateTop = false ∧ isStoreRequest .stop = false) ∧
      (requestParts (.commit .drv (.fields ())) = some (.commit, .drv, []) ∧
        permitted (catalogue .commit).permit .drv = false ∧ isStoreRequest .commit = true) := by decide

theorem test_hyp_BadFramesChangeNothing :
    Heard .stop .con atRest ∧ Heard .commit .con atRest ∧ Heard .carPoll .carA atRest ∧
      (requestParts (.stop .con (.malformed [7])) = some (.stop, .con, [7]) ∧
        carriesFields (.stop .con (.malformed [7])) = false) ∧
      (requestParts (.commit .con (.malformed [7])) = some (.commit, .con, [7]) ∧
        carriesFields (.commit .con (.malformed [7])) = false) ∧
      ([0, 0, 0, 0, 0, 0] : List Byte).length ≠ 7 ∧
      headUnknown ⟨0, 0, 3⟩ = true ∧ headUnknown ⟨1, 7, 3⟩ = true ∧ headUnknown ⟨0, 7, 105⟩ = true :=
  ⟨heard rfl rfl, heard rfl rfl, heard rfl rfl, by decide⟩

theorem test_hyp_LowResetPinSilencesThePart :
    heldInReset.pins.resetLow = true ∧ isPinCommand .speedSample = false ∧ isPinCommand (.stop .con (.fields ())) = false := by
  decide

/-- The notice records of `noticed` are as `LatchInv` asks. -/
theorem noticed_latchInv : LatchInv noticed := by
  refine ⟨fun st => ⟨?_, fun k h => ?_⟩, fun st h => ?_⟩
  · cases st <;> decide
  · cases st <;> cases k <;> revert h <;> decide
  · cases st <;> revert h <;> decide

theorem test_hyp_EveryStepKeepsLatching : LatchInv noticed ∧ ∃ t, step noticed = .next t := ⟨noticed_latchInv, _, rfl⟩

theorem test_hyp_LatchPicksHighestPriority :
    let r : NoticeRecord := noticed.niu.notices.con
    r.latched.isSome = true ∧ (latch { r with latched := none }).latched = some .serviceBrake ∧
      (latch { r with latched := none, enabled := [] }).latched = none := by decide

theorem test_hyp_FreshMarksFollowChanges :
    ∃ t, step { atRest with pending := [.setMode .con (.fields (.listed .reduced))] } = .next t ∧
      recordCore { atRest with pending := [.setMode .con (.fields (.listed .reduced))] } .slots ≠ recordCore t .slots :=
  ⟨_, rfl, by decide⟩

/-- The second clause of FreshMarksFollowChanges: a command that leaves a record, and another master's SNAPSHOT. -/
theorem test_hyp_FreshMarksFollowChanges_unchanged :
    (∃ t, exec (.setMode .con (.fields (.listed .reduced))) atRest = .next t ∧
        recordCore atRest .line = recordCore t .line) ∧
      (∃ t, exec (.snapshot .drv (.fields ())) atRest = .next t ∧ recordCore atRest .line = recordCore t .line) ∧
      (isReset (.setMode .con (.fields (.listed .reduced))) = false ∧ isReset (.snapshot .drv (.fields ())) = false) ∧
      ∀ p, Instr.snapshot .drv (.fields ()) ≠ .snapshot .con p :=
  ⟨⟨_, rfl, by decide⟩, ⟨_, rfl, by decide⟩, by decide, fun _ h => by cases h⟩

theorem test_hyp_SnapshotRequests :
    atRest.pins.resetLow = false ∧ allListed [(.listed .line : Coded SnapKind), .unlisted 12] = none ∧
      fitting atRest 238 (kindsFrom (some .line) [.line]) = ([.line], []) := by decide

theorem test_hyp_SnapshotCarriesWhatFits :
    fitting atRest 16 [.line, .trip] = ([.line], [.trip]) ∧ fitting atRest 15 [.line, .trip] = ([], [.line, .trip]) := by
  decide

theorem test_hyp_NoticeAndIncidentRequests :
    ((atRest.niu.notices.get .drv).latched = none ∧ atRest.pins.resetLow = false) ∧
      ((noticed.niu.notices.get .con).latched = some .serviceBrake ∧
        (noticed.niu.notices.get .con).pending.find? (fun m => m.kind = .serviceBrake) =
          some ⟨.serviceBrake, .cause .stopRequest, false⟩) ∧
      allListed [(.unlisted 18 : Coded NoticeKind)] = none ∧
      ((incidentAt recorded 0).map (·.read) = some true ∧ flagProtection recorded = false) ∧
      (incidentAt recorded 65535).map (·.read) = some false ∧ incidentAt recorded 1 = none ∧
      ((incidentAt { recorded with lsu := inspecting.lsu } 0).map (·.read) = some true ∧
        flagProtection { recorded with lsu := inspecting.lsu } = true) := by decide

theorem test_hyp_ResetCausesRule :
    atRest.pins.resetLow = false ∧ atRest.lsu.line = .closed ∧ atRest.psu.still = true ∧ (Station.drv ≠ .con) ∧
      flagProtection atRest = false ∧ flagProtection inspecting = true ∧ inspecting.pins.resetLow = false ∧
      heldInReset.pins.resetLow = true := by decide

theorem test_hyp_SetParameterNumeric :
    (State.reset.pins.resetLow = false ∧ State.reset.lsu.line = .closed) ∧ isPowered State.reset.trc.state = false ∧
      OutputInv State.reset := ⟨by decide, by decide, by unfold OutputInv; decide⟩

theorem test_hyp_EnumeratedWrites :
    atRest.pins.resetLow = false ∧ atRest.lsu.line = .closed ∧ fromCode allSlotModes 0 = some .shared ∧
      fromCode allSlotModes 2 = some .driveBoth ∧ fromCode allSides 1 = some .right ∧ fromCode allSlotModes 3 = none ∧
      fromCode allSlotModes (-1) = none ∧ fromCode allSides 2 = none ∧ listed? (.unlisted 8 : Coded Platform) = none ∧
      listed? (.unlisted 2 : Coded Side) = none := by decide

/-- The tables of the reference line are in order. -/
theorem atRest_tableInv : TableInv atRest := by constructor <;> decide

/-- A profile of 24 segments. -/
def fullProfile : State :=
  { atRest with cfg := { atRest.cfg with profile := (List.range 24).map fun n => ⟨n * 1000, 100⟩ } }

/-- A table of 48 markers. -/
def fullMarkers : State := { atRest with cfg := { atRest.cfg with markers := (List.range 48).map fun n => n * 100 } }

theorem test_hyp_ProfileWrites :
    TableInv atRest ∧ (atRest.cfg.profile.any (fun u => u.start = clampNat 0 400000 3000) = true ∧
      atRest.cfg.profile.length < 24) ∧
      (fullProfile.cfg.profile.any (fun u => u.start = clampNat 0 400000 500000) = false ∧
        24 ≤ fullProfile.cfg.profile.length) ∧ 4 < atRest.cfg.profile.length ∧ atRest.cfg.profile.length ≤ 5 :=
  ⟨atRest_tableInv, by decide⟩

theorem test_hyp_MarkerWrites :
    (clampNat 0 400000 (-1) ∉ atRest.cfg.markers ∧ atRest.cfg.markers.length < 48) ∧
      clampNat 0 400000 5000 ∈ atRest.cfg.markers ∧
      (clampNat 0 400000 500000 ∉ fullMarkers.cfg.markers ∧ 48 ≤ fullMarkers.cfg.markers.length) ∧
      1 < atRest.cfg.markers.length ∧ atRest.cfg.markers.length ≤ 2 ∧ atRest.cfg.markers.Pairwise (· < ·) := by decide

theorem test_hyp_LaneWrites :
    atRest.lsu.line = .closed ∧ laneId? ⟨.listed .bot, 8⟩ = none ∧ laneId? ⟨.unlisted 3, 0⟩ = none ∧
      listed? (.unlisted 2 : Coded LaneKind) = none ∧ listed? (.unlisted 8 : Coded Platform) = none ∧
      namedLane atRest ⟨.listed .bot, 0⟩ = some ⟨entryLane, .entry, .botBoard⟩ ∧
      namedLane atRest ⟨.listed .bot, 7⟩ = none := by decide

theorem test_hyp_CommitAndReads :
    (atRest.pins.resetLow = false ∧ atRest.lsu.line = .closed ∧ commitFailure atRest = none) ∧
      (State.reset.lsu.line = .closed ∧ commitFailure State.reset = some (2, .segment 0)) ∧
      atRest.cfg.profile[4]? = some ⟨208000, 400⟩ ∧ atRest.cfg.markers[0]? = some 5000 ∧
      (namedLane atRest ⟨.listed .bot, 4⟩).isSome = true ∧ entryAt atRest (.segment 5) = none ∧
      entryAt atRest (.unlistedTable 3 0) = none := by decide

theorem test_hyp_ConfigWritesNeedClosedLine :
    Heard .commit .con boarding ∧ isConfigWrite (.commit .con (.fields ())) = true ∧
      requestParts (.commit .con (.fields ())) = some (.commit, .con, []) ∧ boarding.lsu.line ≠ .closed :=
  ⟨heard rfl rfl, by decide⟩

/-- RUNNING at the moment at which the drive refresh timer is due. -/
def refreshDue : State := { running with now := 200 }

theorem test_hyp_RunRefreshAndSetLimit :
    (running.pins.resetLow = false ∧ isPowered running.trc.state = true) ∧
      refreshDue.pins.resetLow = false ∧ isPowered refreshDue.trc.state = true ∧ refreshDue.brs.stage = .none ∧
      refreshDue.brs.refreshTimer = some ⟨0, 200⟩ ∧ 200 ≤ refreshDue.now ∧ 0 < refreshDue.params.tDrv ∧
      hasCause refreshDue .driveSilent = false ∧ isOvertaken refreshDue .driveRefreshTimerExpiry = false := by decide

/-- R69: RUN REFRESH and the expiry arrive together, either first; an expiry of the restarted timer raises as before. -/
theorem test_refresh_and_expiry_together :
    (let t := after .driveRefreshTimerExpiry (after (.runRefresh .drv (.fields ())) refreshDue)
     t.brs.causes = [] ∧ t.brs.refreshTimer = some ⟨200, 400⟩ ∧
       hasCause (after .driveRefreshTimerExpiry { t with now := 400 }) .driveSilent = true) ∧
      (let t := after (.runRefresh .drv (.fields ())) (after .driveRefreshTimerExpiry refreshDue)
       hasCause t .driveSilent = true ∧ t.brs.refreshTimer = none) := by decide

/-- RUNNING with an incident list of 16 records, the newest of them as given, and an overflow count of 255. -/
def runningFull (acked : Bool) : State :=
  { running with
    niu :=
      { running.niu with
        incidents :=
          List.replicate 15 (incidentOf (.cause .rollback) running) ++
            [{ incidentOf (.cause .rollback) running with acked := acked }]
        overflow := 255 } }

theorem test_hyp_RaiseCauseRule :
    hasCause braked .stopRequest = true ∧ (hasCause running .stopRequest = false ∧
      running.brs.stage.rank < Cause.stopRequest.stage.rank) ∧
      (hasCause emergency .stopRequest = false ∧ ¬ emergency.brs.stage.rank < Cause.stopRequest.stage.rank) ∧
      running.niu.incidents.length < 16 ∧
      (hasCause (runningFull true) .stopRequest = false ∧ (runningFull true).niu.incidents.length = 16 ∧
        (runningFull true).niu.incidents.any (·.acked) = true) ∧
      ((runningFull false).niu.incidents.length = 16 ∧ (runningFull false).niu.incidents.any (·.acked) = false) := by decide

/-- R172: in a full list the acknowledged record goes for the new one; with none the list and the number stay and the
overflow count stays at 255. -/
theorem test_full_incident_list :
    (let t := raiseCause .stopRequest (.asker (.station .drv)) (runningFull true)
     t.niu.incidents.length = 16 ∧ (t.niu.incidents.getLast?).map (·.cause) = some (.cause .stopRequest)) ∧
      (let t := raiseCause .stopRequest (.asker (.station .drv)) (runningFull false)
       t.niu.incidents = (runningFull false).niu.incidents ∧ t.niu.overflow = 255) := by decide

theorem test_hyp_StopRequestsRaise :
    Heard .stop .drv running ∧ hasCause running .stopRequest = false ∧ hasCause running .estopRequest = false ∧
      Heard .stop .con braked ∧ hasCause braked .stopRequest = true ∧ emergency.pins.resetLow = false ∧
      hasCause emergency .estopRequest = true := ⟨heard rfl rfl, by decide, by decide, heard rfl rfl, by decide⟩

/-- A SERVICE stage whose service brake has not reported applied. -/
def releasedLate : State := { braked with brs := { braked.brs with sbFb := .released, sbApply := some ⟨0, 500⟩ } }

theorem test_hyp_SilenceAndBrakeTimersRaise :
    (releasedLate.pins.resetLow = false ∧ releasedLate.brs.apply .service = some ⟨0, 500⟩ ∧
        releasedLate.brs.holdoff .service = false ∧ hasCause releasedLate (failCause .service) = false ∧
        isOvertaken releasedLate (.applyTimerExpiry .service) = false) ∧
      (let s : State := { releasedLate with brs := { releasedLate.brs with causes := [⟨.sbFail, .applyTimer 500 .released⟩] } }
       s.brs.apply .service = some ⟨0, 500⟩ ∧ hasCause s (failCause .service) = true ∧
         isOvertaken s (.applyTimerExpiry .service) = false) ∧
      (running.brs.refreshTimer = some ⟨0, 200⟩ ∧ hasCause running .driveSilent = false ∧
        isOvertaken running .driveRefreshTimerExpiry = false) ∧
      (let s : State := { running with brs := { running.brs with causes := [⟨.driveSilent, .silentDrive none⟩] } }
       s.brs.refreshTimer = some ⟨0, 200⟩ ∧ hasCause s .driveSilent = true ∧
         isOvertaken s .driveRefreshTimerExpiry = false) ∧
      ((running.cru.get .a).fresh = true ∧ isPowered running.trc.state = true ∧ hasCause running .carSilent = false ∧
        isOvertaken running (.carReportStale .a) = false) ∧
      ((boarding.cru.get .b).fresh = true ∧ isPowered boarding.trc.state = false ∧
        isOvertaken boarding (.carReportStale .b) = false) ∧
      (let s : State := { running with brs := { running.brs with causes := [⟨.carSilent, .silentCar .a 501⟩] } }
       (s.cru.get .b).fresh = true ∧ hasCause s .carSilent = true) ∧ boarding.brs.apply .emergency = none ∧
      boarding.brs.refreshTimer = none ∧ (State.reset.cru.get .a).fresh = false ∧
      (let s := after (.runRefresh .drv (.fields ())) refreshDue
       s.pins.resetLow = false ∧ isTimedEvent .driveRefreshTimerExpiry = true ∧
         isOvertaken s .driveRefreshTimerExpiry = true) := by decide

theorem test_hyp_BrakeFeedbackTaken :
    (running.pins.resetLow = false ∧ running.brs.fb .service ≠ .applied ∧ running.trc.state = .running) ∧
      (braked.brs.fb .emergency ≠ .released ∧ braked.brs.holdoff .emergency = false ∧
        ¬ (braked.trc.state = .release ∧ braked.brs.releaseWait.isSome = true)) ∧
      (releasing.brs.fb .service ≠ .released ∧ releasing.trc.state = .release ∧ releasing.brs.releaseWait.isSome = true ∧
        releasing.brs.fb .emergency = .released) ∧
      (releasing.brs.fb .emergency ≠ .applied ∧ releasing.trc.state ≠ .running) ∧ braked.brs.fb .service = .applied := by
  decide

theorem test_hyp_ClearBrakeRequest :
    Heard .clearBrake .drv braked ∧ Heard .clearBrake .con emergency ∧
      (braked.brs.stage ≠ .none ∧ braked.brs.stage = .service ∧ braked.psu.still = true ∧ persisting braked = none ∧
        braked.trc.state = .braking ∧ braked.trc.trip.owner = some .drv ∧ trustedStop braked = some .bottom ∧
        trustedStop { braked with psu := { braked.psu with pRef := 50000 } } = none ∧
        (let s : State := { braked with cfg := { braked.cfg with params := { braked.params with alightLead := 0 } } }
         newlyOpen s (after (.clearBrake .drv (.fields ())) s) .bot = [.botBoard])) ∧
      (emergency.brs.stage = .emergency ∧ persisting emergency = none) ∧ atRest.brs.stage = .none ∧
      (let s : State := { braked with psu := { braked.psu with still := false } }
       s.brs.stage = .service ∧ s.psu.still = false) ∧
      (let s : State := { braked with cru := cruReset 0, trc := { braked.trc with state := .stoppedOnLine } }
       s.brs.stage = .service ∧ s.psu.still = true ∧ persisting s = some .carSilent ∧ s.trc.state ≠ .braking) :=
  ⟨heard rfl rfl, heard rfl rfl, by decide⟩

theorem test_hyp_StageFallsOnlyByClear :
    (∃ t, exec (.clearBrake .con (.fields ())) emergency = .next t ∧ t.brs.stage.rank < emergency.brs.stage.rank) ∧
      ∃ t, exec .powerOnReset emergency = .next t ∧ t.brs.stage.rank < emergency.brs.stage.rank :=
  ⟨⟨_, rfl, by decide⟩, ⟨_, rfl, by decide⟩⟩

/-- The state with both cars' reports taken at a time. -/
def reported (now : Nat) (s : State) : State :=
  { s with cru := ⟨{ s.cru.a with takenAt := now }, { s.cru.b with takenAt := now }⟩ }

/-- Car A's report with its left door open, both cars reporting. -/
def openDoor (s : State) : State :=
  { s with cru := s.cru.set .a { s.cru.get .a with poll := { (s.cru.get .a).poll with left := .opened } } }

/-- DOORS of a trip from the origin given, a door open, with slot 1 as given. -/
def doorsFrom (origin : Option Stop) (elapsed : Bool) (v : Slot) : State :=
  let s := openDoor (reported 20000 (onTrip .doors))
  { s with
    trc := { s.trc with elapsed := elapsed, slot1 := v, trip := { s.trc.trip with origin := origin } }
    dri := { driReset with doorTimer := some ⟨0, 20000⟩ } }

theorem test_hyp_AbortsReturnToOrigin :
    (releasing.pins.resetLow = false ∧ releasing.trc.state = .release ∧ releasing.brs.releaseWait = some ⟨0, 500⟩ ∧
        NonePending releasing ∧ isOvertaken releasing .releaseWaitExpiry = false) ∧
      (doorsFrom (some .bottom) true .empty).trc.state = .doors ∧
      (doorsFrom (some .bottom) true .empty).dri.doorTimer = some ⟨0, 20000⟩ ∧
      NonePending (doorsFrom (some .bottom) true .empty) ∧
      isOvertaken (doorsFrom (some .bottom) true .empty) .doorCloseTimerExpiry = false ∧
      (let s := onTrip (.closing .bottom)
       Heard .cancelTrip .drv s ∧ resolveSlot s .drv none = some .slot0 ∧
         slotOf s .slot0 = .inFlight (toMiddle .dispatch) ∧ cancellable s.trc.state = true ∧ NonePending s ∧
         s.trc.trip.owner = some .drv ∧ newlyOpen s (after (.cancelTrip .drv (.fields none)) s) .bot = [.botBoard]) ∧
      boarding.brs.releaseWait = none ∧ boarding.dri.doorTimer = none :=
  ⟨⟨by decide, by decide, by decide, ⟨by decide, by decide⟩, by decide⟩, by decide, by decide,
    ⟨by decide, by decide⟩, by decide, ⟨heard rfl rfl, by decide, by decide, by decide, ⟨by decide, by decide⟩, by decide⟩,
    by decide, by decide⟩

/-- The clauses of AbortsReturnToOrigin on PENDING slots: at an abort with no origin, at one that tests a departure which
passes with a door open, and which fails; at a stop; and at a clear with and without a trusted stop. -/
theorem test_hyp_AbortsReturnToOrigin_pending :
    ((doorsFrom none true (.pending (toMiddle .dwell))).trc.trip.origin = none ∧
        isOvertaken (doorsFrom none true (.pending (toMiddle .dwell))) .doorCloseTimerExpiry = false) ∧
      (let s := doorsFrom (some .bottom) true (.pending (toMiddle .dwell))
       let t := after .doorCloseTimerExpiry s
       (s.trc.trip.origin = some .bottom ∧ s.trc.elapsed = true ∧ slotOf s .slot1 = .pending (toMiddle .dwell) ∧
         (slotOf s .slot0).name ≠ .pending ∧ s.adm.reservations = [] ∧
         isOvertaken s .doorCloseTimerExpiry = false) ∧
       departureTest { s with now := t.now, adm := t.adm } .slot1 (toMiddle .dwell) .bottom = none ∧
       allLocked { s with now := t.now } = false) ∧
      (let r : TripReq := ⟨.stop .bottom, .normal, .immediate, false, false⟩
       let s := doorsFrom (some .bottom) true (.pending r)
       let t := after .doorCloseTimerExpiry s
       slotOf s .slot1 = .pending r ∧ departureTest { s with now := t.now, adm := t.adm } .slot1 r .bottom =
         some (.causePresent .atDestination)) ∧
      (let s := doorsFrom (some .bottom) true (.pending (toMiddle .dwell))
       Heard .stop .con s ∧ s.brs.stage = .none ∧ hasCause s .stopRequest = false ∧ s.trc.state = .doors) ∧
      (let s : State := { braked with trc := { braked.trc with slot1 := .pending (toMiddle .dwell) } }
       Heard .clearBrake .drv s ∧ s.trc.state = .braking ∧ s.brs.stage = .service ∧ s.psu.still = true ∧
         persisting s = none ∧ trustedStop s = some .bottom) ∧
      (let s : State :=
        { braked with trc := { braked.trc with slot1 := .pending (toMiddle .dwell) }, psu := { braked.psu with pRef := 50000 } }
       Heard .clearBrake .drv s ∧ s.trc.state = .braking ∧ s.brs.stage = .service ∧ persisting s = none ∧
         trustedStop s = none) :=
  ⟨by decide, by decide, by decide, ⟨heard rfl rfl, by decide⟩, ⟨heard rfl rfl, by decide⟩, ⟨heard rfl rfl, by decide⟩⟩

theorem test_hyp_SlotsFilledAndEmptied :
    (Heard .tripRequest .drv boarding ∧ resolveSlot boarding .drv none = some .slot0 ∧
        requestFields boarding (toMiddleFields .dispatch) = some (toMiddle .dispatch) ∧
        takesTrips boarding .drv = true ∧ (slotOf boarding .slot0).name ≠ .inFlight) ∧
      (let s : State := { boarding with trc := { boarding.trc with elapsed := false } }
       requestFields s (toMiddleFields .immediate) = some (toMiddle .immediate) ∧ isDwell s.trc.state = true ∧
         s.trc.elapsed = false) ∧
      (resolveSlot running .con none = some .slot1 ∧ inFlight running.trc.state = true ∧
        (slotOf running .slot1).name ≠ .inFlight) ∧
      (Heard .cancelTrip .con boarding ∧ resolveSlot boarding .con none = some .slot1) ∧
      (resolveSlot running .drv (some 0) = some .slot0 ∧ (slotOf running .slot0).name = .inFlight ∧
        cancellable running.trc.state = false) :=
  ⟨⟨heard rfl rfl, by decide⟩, by decide, by decide, ⟨heard rfl rfl, by decide⟩, by decide⟩

/-- The last clause of SlotsFilledAndEmptied: a slot of another owner, named or given as the default, and no slot's number. -/
theorem test_hyp_SlotsFilledAndEmptied_foreign :
    Heard .cancelTrip .drv boarding ∧ (slotGiven boarding .drv (some 1) = some .slot1 ∧ ownerOf boarding .slot1 ≠ roleOf .drv) ∧
      (let s : State := { boarding with cfg := { boarding.cfg with params := { boarding.params with slotMode := .driveBoth } } }
       slotGiven s .con none = some .slot0 ∧ ownerOf s .slot0 ≠ roleOf .con) ∧
      slotGiven boarding .drv (some 2) = none := ⟨heard rfl rfl, by decide⟩

/-- STOPPED_ON_LINE in INSPECTION, between the stops. -/
def onLine : State :=
  { inspecting with trc := { inspecting.trc with state := .stoppedOnLine }, psu := { inspecting.psu with pRef := 50000 } }

/-- CON's request of an inspection trip to the top stop. -/
def inspectionFields : TripRequestFields :=
  ⟨none, .listed (.stop .top), .listed .inspection, .listed .immediate, .listed false, .listed false⟩

/-- R104: a brake stop cleared at a stop hands TRIP_STOPPED with the number, the outcome and the stop to the owner. -/
theorem test_trip_stopped :
    ⟨.tripStopped, .stopped 502 .stopped (.stop .bottom), false⟩ ∈
      ((after (.clearBrake .con (.fields ())) braked).niu.notices.get .drv).pending := by decide

theorem test_hyp_TripRequestStartsTrip :
    (Heard .tripRequest .drv boardingOne ∧ resolveSlot boardingOne .drv none = some .slot0 ∧
        requestFields boardingOne (toMiddleFields .immediate) = some (toMiddle .immediate) ∧
        takesTrips boardingOne .drv = true ∧ (slotOf boardingOne .slot0).name ≠ .inFlight ∧
        boardingOne.trc.state = .dwell .bottom ∧ boardingOne.trc.elapsed = true ∧
        departureTest boardingOne .slot0 (toMiddle .immediate) .bottom = none ∧ boardingOne.lsu.line = .inService ∧
        boardingOne.adm.reservations ≠ [] ∧
        newlyOpen (after (.tripRequest .drv (.fields (toMiddleFields .immediate))) boardingOne) boardingOne .bot =
          [.botBoard]) ∧
      (takesTrips boarding .drv = true ∧ departureTest boarding .slot0 (toMiddle .immediate) .bottom = none ∧
        boarding.lsu.line = .inService ∧ boarding.adm.reservations = [] ∧ allLocked boarding = true ∧
        boarding.params.settleT ≠ 0) ∧
      (let s := noSettle boarding
       takesTrips s .drv = true ∧ departureTest s .slot0 (toMiddle .immediate) .bottom = none ∧
         allLocked s = true ∧ s.params.settleT = 0 ∧ s.brs.stage = .none ∧
         ¬ (s.brs.sbFb = .released ∧ s.brs.ebFb = .released)) ∧
      (let r : TripReq := ⟨.stop .top, .inspection, .immediate, false, false⟩
       resolveSlot inspecting .con none = some .slot1 ∧ requestFields inspecting inspectionFields = some r ∧
         takesTrips inspecting .con = true ∧ (slotOf inspecting .slot1).name ≠ .inFlight ∧
         departureTest inspecting .slot1 r .bottom = none ∧ inspecting.lsu.line = .inspection ∧
         allLocked inspecting = true ∧ allLocked (openDoor inspecting) = false ∧
         departureTest (openDoor inspecting) .slot1 r .bottom = none) ∧
      (let r : TripReq := ⟨.stop .top, .inspection, .immediate, false, false⟩
       Heard .tripRequest .con onLine ∧ resolveSlot onLine .con none = some .slot1 ∧
         requestFields onLine inspectionFields = some r ∧ takesTrips onLine .con = true ∧
         (slotOf onLine .slot1).name ≠ .inFlight ∧ onLine.trc.state = .stoppedOnLine ∧ ownerOf onLine .slot1 = .con ∧
         r.mode ≠ .normal ∧ preconditions onLine .con (restrict r.mode onLine.trc.effMode) = none ∧
         onLine.params.settleT ≠ 0) := ⟨⟨heard rfl rfl, by decide⟩, by decide, by decide, by decide, ⟨heard rfl rfl, by decide⟩⟩

theorem test_hyp_TripRequestChecks :
    (Heard .tripRequest .drv boarding ∧ slotGiven boarding .drv (some 2) = none) ∧
      (slotGiven boarding .drv (some 1) = some .slot1 ∧ ownerOf boarding .slot1 ≠ roleOf .drv) ∧
      resolveSlot boarding .drv (some 0) = some .slot0 ∧
      requestFields { boarding with cfg := cfgPowerOn } (toMiddleFields .dispatch) = none ∧
      takesTrips atRest .drv = false ∧ (takesTrips running .drv = true ∧ (slotOf running .slot0).name = .inFlight) ∧
      (takesTrips boarding .drv = true ∧ boarding.trc.elapsed = true ∧
        departureTest boarding .slot0 ⟨.stop .bottom, .normal, .immediate, false, false⟩ .bottom =
          some (.causePresent .atDestination)) ∧
      (takesTrips onLine .con = true ∧ (slotOf onLine .slot1).name ≠ .inFlight ∧ onLine.trc.state = .stoppedOnLine ∧
        ownerOf onLine .slot1 = .con ∧ ownerOf onLine .slot0 ≠ .con) ∧
      (let s : State := { onLine with cru := cruReset 0 }
       s.trc.state = .stoppedOnLine ∧ (preconditions s .con .inspection).isSome = true) :=
  ⟨⟨heard rfl rfl, by decide⟩, by decide⟩

theorem test_hyp_SetModeRule :
    Heard .setMode .drv boarding ∧ Heard .setMode .con inspecting ∧
      (after (.setMode .con (.fields (.listed .reduced))) boarding).trc.effMode ≠ boarding.trc.effMode ∧
      (after (.setMode .con (.fields (.listed .reduced))) inspecting).trc.effMode = inspecting.trc.effMode :=
  ⟨heard rfl rfl, heard rfl rfl, by decide⟩

/-- In DWELL with MIN_DWELL elapsed and a reservation, DRV's slot ARMED for a DISPATCH event. -/
def armedAt (dest : Destination) (other : Slot) : State :=
  { boardingOne with
    trc := { boardingOne.trc with slot0 := .armed { toMiddle .dispatch with dest := dest }, slot1 := other } }

theorem test_hyp_DispatcherLine :
    (let s : State :=
      { boarding with
        trc := { boarding.trc with elapsed := false, slot0 := .armed (toMiddle .dispatch), slot1 := .armed (toMiddle .dwell) } }
     s.pins.resetLow = false ∧ s.trc.debounced = false ∧ s.trc.state = .dwell .bottom ∧ s.trc.elapsed = false) ∧
      (let s : State := { boarding with trc := { boarding.trc with debounced := true } }
       s.pins.resetLow = false ∧ s.trc.debounced = true) ∧
      (let s := armedAt (.stop .middle) .empty
       let t := after .dispatch s
       s.trc.state = .dwell .bottom ∧ s.trc.elapsed = true ∧ slotOf s .slot0 = .armed (toMiddle .dispatch) ∧
         departureTest { s with now := t.now } .slot0 (toMiddle .dispatch) .bottom = none ∧ s.adm.reservations ≠ []) ∧
      (let s := armedAt (.stop .bottom) .empty
       let t := after .dispatch s
       departureTest { s with now := t.now } .slot0 ⟨.stop .bottom, .normal, .dispatch, false, false⟩ .bottom =
         some (.causePresent .atDestination)) ∧
      (let s := armedAt (.stop .middle) (.armed { toMiddle .dispatch with mask := true })
       let t := after .dispatch s
       s.trc.slot1 = .armed { toMiddle .dispatch with mask := true } ∧
         departureTest { s with now := t.now } .slot0 (toMiddle .dispatch) .bottom = none) ∧
      (let s := armedAt (.stop .bottom) (.armed (toMiddle .dispatch))
       let t := after .dispatch s
       departureTest { s with now := t.now } .slot0 ⟨.stop .bottom, .normal, .dispatch, false, false⟩ .bottom ≠ none ∧
         departureTest { s with now := t.now } .slot1 (toMiddle .dispatch) .bottom = none) ∧
      (let s : State := { running with trc := { running.trc with slot1 := .armed { toMiddle .dispatch with mask := true } } }
       s.trc.debounced = false ∧ inFlight s.trc.state = true ∧
         slotOf s .slot1 = .armed { toMiddle .dispatch with mask := true }) ∧
      (atRest.trc.debounced = false ∧ atRest.trc.state = .none) ∧
      (let s : State := { onLine with trc := { onLine.trc with slot1 := .armed (toMiddle .dispatch) } }
       s.trc.debounced = false ∧ s.trc.state = .stoppedOnLine ∧ slotOf s .slot1 = .armed (toMiddle .dispatch)) := by decide

/-- R87: a line held high for 50 ms gives its DISPATCH event though the input drops before the filter passes the drop; a
line whose drop passes the filter first gives it only for the input's next rise (log 16). -/
theorem test_late_drop_dispatches :
    let dropped (t : Nat) : State :=
      { boarding with
        pins := { boarding.pins with dispatchIn := ⟨false, t⟩, dispatchLine := ⟨true, 2⟩ }
        now := 52 }
    (after .dispatch (dropped 50)).now = 52 ∧ (after .dispatch (dropped 49)).now = 104 := by decide

/-- In DWELL at the bottom stop with MIN_DWELL running, a reservation and fresh reports, the slots as given. -/
def dwelling (v0 v1 : Slot) : State :=
  reported 30000
    { boardingOne with
      trc := { boarding.trc with elapsed := false, minDwell := some ⟨0, 30000⟩, slot0 := v0, slot1 := v1 } }

/-- A request for the stop of the dwell, whose departure test fails. -/
def toBottom (t : Trigger) : TripReq := { toMiddle t with dest := .stop .bottom }

theorem test_hyp_DwellTimersElapse :
    (let s := dwelling (.armed (toMiddle .dispatch)) .empty
     s.pins.resetLow = false ∧ s.trc.minDwell = some ⟨0, 30000⟩ ∧ isOvertaken s .minDwellExpiry = false ∧ NonePending s ∧
       ∀ id r, slotOf s id = .armed r → r.trigger ≠ .dwell) ∧
      boarding.trc.minDwell = none ∧
      (let s : State :=
        { boarding with
          dri := { driReset with phase := .alighting, leadTimer := some ⟨0, 10000⟩ }
          adm := { boarding.adm with releaseMark := false } }
       s.dri.leadTimer = some ⟨0, 10000⟩ ∧ isOvertaken s .leadTimerExpiry = false ∧
         newlyOpen s (after .leadTimerExpiry s) .bot = [.botBoard]) ∧
      boarding.dri.leadTimer = none := by
  refine ⟨⟨rfl, rfl, rfl, ⟨by decide, by decide⟩, fun id r h => ?_⟩, rfl, by decide, rfl⟩
  cases id <;> cases h
  decide

/-- The clauses of DwellTimersElapse on slots that take their turn: slot 0 starts before a PENDING slot 1 and before a masked
ARMED one; slot 1 starts alone, and after slot 0 has failed; no reservation; in INSPECTION; and both fail. -/
theorem test_hyp_DwellTimersElapse_turns :
    (let s := dwelling (.pending (toMiddle .dispatch)) (.pending (toMiddle .immediate))
     s.pins.resetLow = false ∧ isOvertaken s .minDwellExpiry = false ∧ s.trc.minDwell = some ⟨0, 30000⟩ ∧
       s.trc.state = .dwell .bottom ∧
       turnAtExpiry s.trc.slot0 = some (toMiddle .dispatch) ∧ turnAtExpiry s.trc.slot1 = some (toMiddle .immediate) ∧
       departureTest (advanceTo 30000 s) .slot0 (toMiddle .dispatch) .bottom = none ∧ s.lsu.line = .inService ∧
       s.adm.reservations ≠ [] ∧ newlyOpen (after .minDwellExpiry s) s .bot = [.botBoard]) ∧
      (let s := dwelling (.armed (toMiddle .dwell)) (.armed { toMiddle .dwell with mask := true })
       turnAtExpiry s.trc.slot0 = some (toMiddle .dwell) ∧ s.trc.slot1 = .armed { toMiddle .dwell with mask := true } ∧
         departureTest (advanceTo 30000 s) .slot0 (toMiddle .dwell) .bottom = none) ∧
      (let s := dwelling .empty (.pending (toMiddle .dispatch))
       turnAtExpiry s.trc.slot0 = none ∧ turnAtExpiry s.trc.slot1 = some (toMiddle .dispatch) ∧
         departureTest (advanceTo 30000 s) .slot1 (toMiddle .dispatch) .bottom = none) ∧
      (let s := dwelling (.pending (toBottom .immediate)) (.pending (toMiddle .dispatch))
       turnAtExpiry s.trc.slot0 = some (toBottom .immediate) ∧
         departureTest (advanceTo 30000 s) .slot0 (toBottom .immediate) .bottom ≠ none ∧
         departureTest (advanceTo 30000 s) .slot1 (toMiddle .dispatch) .bottom = none) ∧
      (let s : State := { dwelling (.pending (toMiddle .dispatch)) .empty with adm := boarding.adm }
       departureTest (advanceTo 30000 s) .slot0 (toMiddle .dispatch) .bottom = none ∧ s.adm.reservations = []) ∧
      (let r : TripReq := { toMiddle .dispatch with mode := .inspection }
       let s : State := { dwelling .empty (.pending r) with lsu := inspecting.lsu, adm := inspecting.adm }
       turnAtExpiry s.trc.slot1 = some r ∧ departureTest (advanceTo 30000 s) .slot1 r .bottom = none ∧
         s.lsu.line = .inspection) ∧
      (let s := dwelling (.pending (toBottom .immediate)) (.armed (toBottom .dwell))
       s.trc.minDwell = some ⟨0, 30000⟩ ∧ s.trc.state = .dwell .bottom ∧
         turnAtExpiry s.trc.slot0 = some (toBottom .immediate) ∧ turnAtExpiry s.trc.slot1 = some (toBottom .dwell) ∧
         departureTest (advanceTo 30000 s) .slot0 (toBottom .immediate) .bottom ≠ none ∧
         departureTest (advanceTo 30000 s) .slot1 (toBottom .dwell) .bottom ≠ none) := by decide

/-- R90, R91: of two PENDING slots at one expiry the second keeps its turn where the first starts, and starts where the
first fails; an IMMEDIATE one that fails is EMPTY. -/
theorem test_two_pending_slots :
    (let t := after .minDwellExpiry (dwelling (.pending (toMiddle .dispatch)) (.pending (toMiddle .immediate)))
     t.trc.slot0 = .inFlight (toMiddle .dispatch) ∧ t.trc.slot1 = .pending (toMiddle .immediate)) ∧
      (let t := after .minDwellExpiry (dwelling (.pending (toBottom .immediate)) (.pending (toMiddle .dispatch)))
       t.trc.slot0 = .empty ∧ t.trc.slot1 = .inFlight (toMiddle .dispatch)) := by decide

/-- SETTLE with its timer running and both brakes applied. -/
def settling : State :=
  reported 1400 { onTrip .settle with trc := { (onTrip .settle).trc with settleTimer := some ⟨0, 1500⟩ } }

theorem test_hyp_SettleExpiryReleases :
    (settling.pins.resetLow = false ∧ settling.trc.settleTimer = some ⟨0, 1500⟩ ∧ settling.trc.state = .settle ∧
        settling.brs.stage = .none ∧ allLocked (advanceTo 1500 settling) = true ∧
        isOvertaken settling .settleTimerExpiry = false ∧
        ¬ (settling.brs.sbFb = .released ∧ settling.brs.ebFb = .released)) ∧
      (let s : State := { settling with brs := { settling.brs with sbFb := .released, ebFb := .released } }
       s.brs.sbFb = .released ∧ s.brs.ebFb = .released ∧ allLocked (advanceTo 1500 s) = true) ∧
      boarding.trc.settleTimer = none ∧
      (settling.brs.causes = [] ∧ allLocked (advanceTo 1500 (reported 0 settling)) = false ∧
        isOvertaken (reported 0 settling) .settleTimerExpiry = false ∧
        isFresh (advanceTo 1500 (reported 0 settling)) .a = false) ∧
      (allLocked (advanceTo 1500 (openDoor settling)) = false ∧ isFresh (advanceTo 1500 (openDoor settling)) .a = true ∧
        bothLocked ((openDoor settling).cru.get .a).poll = false) := by decide

theorem test_hyp_DoorReleaseRequests :
    (braked.pins.resetLow = false ∧ braked.trc.state = .braking ∧ braked.brs.stage ≠ .none ∧ braked.psu.still = true ∧
        braked.brs.sbFb = .applied) ∧
      (inspecting.lsu.line = .inspection ∧ inFlight inspecting.trc.state = false ∧ inspecting.psu.still = true ∧
        inspecting.brs.sbFb = .applied) ∧
      (atRest.lsu.line = .closed ∧ inFlight atRest.trc.state = false) ∧
      (boarding.brs.stage = .none ∧ boarding.lsu.line = .inService) ∧
      (releasedLate.psu.still = true ∧ releasedLate.brs.sbFb ≠ .applied) ∧
      (let s : State := { braked with psu := { braked.psu with still := false } }
       s.trc.state = .braking ∧ s.brs.stage ≠ .none ∧ s.psu.still = false) ∧
      (State.reset.lsu.line = .closed ∧ inFlight State.reset.trc.state = false ∧ State.reset.psu.still = false) := by decide

theorem test_hyp_RiseWithdrawsPermits :
    ∃ t, exec (.stop .con (.fields ())) boarding = .next t ∧ boarding.brs.stage.rank < t.brs.stage.rank :=
  ⟨_, rfl, by decide⟩

/-- R108, R109: a permit on each of the three grounds (the door side of the bound platform, an evacuated car's walkway
side, a maintenance release), and none on the other side, for an unbound car or with a stale report. -/
theorem test_release_permits :
    (permit boarding .a .left = true ∧ permit boarding .a .right = false ∧
        permit { boarding with now := boarding.params.tCar + 1 } .a .left = false) ∧
      (let s : State := { braked with dri := { driReset with evac := ⟨true, false⟩ } }
       permit s .a s.params.walkwaySide = true ∧ permit s .b s.params.walkwaySide = false) ∧
      (let s : State := { inspecting with dri := { driReset with maint := ⟨⟨false, true⟩, ⟨false, false⟩⟩ } }
       permit s .a .right = true ∧ permit s .a .left = false) := by decide

/-- The three ways in which a lane is refused to a gate's request for a lane of a kind, on `boarding`. -/
def refusedLanes (k : LaneKind) : Prop :=
  LaneRefusal boarding .gateBot ⟨.listed .bot, 7⟩ k .badValue ∧ LaneRefusal boarding .gateBot ⟨.unlisted 3, 0⟩ k .badValue ∧
    LaneRefusal boarding .gateTop ⟨.listed .bot, 0⟩ k .notYours ∧
    LaneRefusal boarding .gateBot ⟨.listed .bot, if k = .entry then 4 else 0⟩ k .badValue

theorem refusedLanes_meet : refusedLanes .entry ∧ refusedLanes .exit :=
  ⟨⟨.inl (by decide), .inl (by decide), .inr ⟨⟨entryLane, .entry, .botBoard⟩, by decide⟩,
      .inr ⟨⟨exitLane, .exit, .botAlight⟩, by decide⟩⟩,
    ⟨.inl (by decide), .inl (by decide), .inr ⟨⟨entryLane, .entry, .botBoard⟩, by decide⟩,
      .inr ⟨⟨entryLane, .entry, .botBoard⟩, by decide⟩⟩⟩

/-- CLOSING with lane 0's reservation the last, no report fresh. -/
def closingLast : State := { onTrip (.closing .bottom) with adm := boardingOne.adm, cru := cruReset 0 }

/-- CLOSING with lane 0's reservation the last and every door LOCKED in a fresh report. -/
def closingLocked : State := { closingLast with cru := boarding.cru }

/-- CLOSING with a second reservation open. -/
def closingTwo : State :=
  { onTrip (.closing .bottom) with
    adm := { boardingOne.adm with reservations := [reserved, { reserved with lane := ⟨.bot, 1⟩ }] } }

theorem test_hyp_AdmitGrants :
    (namedLane boarding ⟨.listed .bot, 0⟩ = some ⟨entryLane, .entry, .botBoard⟩ ∧ laneEnabled boarding entryLane = true ∧
        reservationOf boarding entryLane = none ∧ boundCar boarding .botBoard = some .a ∧
        admissionOpen boarding .bot = true ∧ hasRoom boarding .a = true) ∧
      laneEnabled (after (.disableLane .con (.fields ⟨.listed .bot, 0⟩)) boarding) entryLane = false ∧
      (laneEnabled boardingOne entryLane = true ∧ (reservationOf boardingOne entryLane).isSome = true) ∧
      (laneEnabled inspecting entryLane = true ∧ reservationOf inspecting entryLane = none ∧
        admissionOpen inspecting .bot = false) ∧
      (let s : State := { boarding with adm := { boarding.adm with loads := ⟨⟨120, 0, false⟩, ⟨0, 0, false⟩⟩ } }
       boundCar s .botBoard = some .a ∧ admissionOpen s .bot = true ∧ hasRoom s .a = false) ∧
      refusedLanes .entry := ⟨by decide, by decide, by decide, by decide, by decide, refusedLanes_meet.1⟩

theorem test_hyp_PassageCounted :
    (reservationOf boardingOne entryLane = some reserved ∧ isClosing boardingOne.trc.state = false) ∧
      (reservationOf closingTwo entryLane = some reserved ∧ othersWait closingTwo entryLane = true) ∧
      (closingLast.trc.state = .closing .bottom ∧ closingLast.adm.reservations = [reserved] ∧
        reserved.lane = entryLane ∧ allLocked closingLast = false) ∧
      (closingLocked.adm.reservations = [reserved] ∧ allLocked closingLocked = true ∧ closingLocked.params.settleT ≠ 0 ∧
        allLocked (noSettle closingLocked) = true ∧ (noSettle closingLocked).params.settleT = 0 ∧
        closingLocked.brs.stage = .none) ∧
      (let s := after (.lapse entryLane) boardingOne
       namedLane s ⟨.listed .bot, 0⟩ = some ⟨entryLane, .entry, .botBoard⟩ ∧ reservationOf s entryLane = none ∧
         laneLapsed s entryLane = true) ∧
      (reservationOf boarding entryLane = none ∧ laneLapsed boarding entryLane = false) ∧ refusedLanes .entry :=
  ⟨by decide, by decide, by decide, by decide, by decide, by decide, refusedLanes_meet.1⟩

/-- R97 to R100, R133: the last passage in CLOSING with every door LOCKED takes the trip to SETTLE; with a SETTLE_T of 0 to
RELEASE, and to RUNNING where both brakes show RELEASED. -/
theorem test_last_passage_departs :
    (after (.passed .gateBot (.fields ⟨.listed .bot, 0⟩)) closingLocked).trc.state = .settle ∧
      (after (.passed .gateBot (.fields ⟨.listed .bot, 0⟩)) (noSettle closingLocked)).trc.state = .release ∧
      (after (.passed .gateBot (.fields ⟨.listed .bot, 0⟩)) (noSettle (lifted closingLocked))).trc.state = .running := by
  decide

theorem test_hyp_ReservationsEnd :
    ((reservationOf boardingOne entryLane).isSome = true ∧ isClosing boardingOne.trc.state = false) ∧
      (reservationOf closingTwo entryLane = some reserved ∧ othersWait closingTwo entryLane = true ∧
        isOvertaken closingTwo (.lapse entryLane) = false) ∧
      reservationOf boarding entryLane = none ∧
      (closingLast.trc.state = .closing .bottom ∧ closingLast.adm.reservations = [reserved] ∧
        reserved.lane = entryLane ∧ isOvertaken closingLast (.lapse entryLane) = false ∧ allLocked closingLast = false ∧
        allLocked { closingLast with now := max closingLast.now reserved.timer.due } = false) ∧
      (let s := reported 8000 closingLocked
       s.adm.reservations = [reserved] ∧ allLocked { s with now := max s.now reserved.timer.due } = true ∧
         (noSettle s).params.settleT = 0) ∧
      (laneOpAt boardingOne entryLane).map (·.lapses) = some 0 ∧
      (let s : State :=
        { boardingOne with adm := { boardingOne.adm with lanes := [⟨entryLane, .enabled, false, 2⟩] } }
       (laneOpAt s entryLane).map (·.lapses) = some 2 ∧ reservationOf s entryLane = some reserved) ∧
      refusedLanes .entry :=
  ⟨by decide, by decide, by decide, by decide, by decide, by decide, by decide, refusedLanes_meet.1⟩

theorem test_hyp_ExitsLanesAndLoads :
    (namedLane boarding ⟨.listed .bot, 4⟩ = some ⟨exitLane, .exit, .botAlight⟩ ∧ alightingOpen boarding .bot = true ∧
        boundCar boarding .botAlight = some .a) ∧
      alightingOpen inspecting .bot = false ∧ isClosing boardingOne.trc.state = false ∧
      (closingLast.trc.state = .closing .bottom ∧ closingLast.adm.reservations = [reserved] ∧
        reserved.lane = entryLane ∧ allLocked closingLast = false ∧ allLocked closingLocked = true ∧
        allLocked (noSettle closingLocked) = true) ∧
      othersWait closingTwo entryLane = true ∧ reservationOf (onTrip (.closing .bottom)) entryLane = none ∧
      (inFlight boarding.trc.state = false ∧ inFlight running.trc.state = true) ∧
      (flagProtection boarding = false ∧ flagProtection inspecting = true ∧ flagProtection unprotected = false) ∧
      namedLane boarding ⟨.listed .bot, 7⟩ = none ∧ refusedLanes .exit :=
  ⟨by decide, by decide, by decide, by decide, by decide, by decide, by decide, by decide, by decide, refusedLanes_meet.2⟩

theorem test_hyp_ClearUncountedRule :
    (Station.gateBot ≠ .con ∧ boarding.pins.resetLow = false) ∧ flagProtection inspecting = true ∧
      flagProtection unprotected = false := by decide

theorem test_hyp_OpenLineRequest :
    (atRest.pins.resetLow = false ∧ atRest.lsu.line = .closed ∧ openCheck atRest = none ∧
        stopHere atRest = some .bottom) ∧ boarding.lsu.line ≠ .closed ∧
      openCheck State.reset = some .uncommitted := by decide

theorem test_hyp_CloseAndInspection :
    (boarding.pins.resetLow = false ∧ boarding.lsu.line = .inService ∧ inFlight boarding.trc.state = false ∧
        boarding.adm.reservations = [] ∧ boarding.cfg.committed = true ∧
        newlyOpen (after (.closeLine .con (.fields ())) boarding) boarding .bot = [.botBoard] ∧
        newlyOpen (after (.inspectionEnter .con (.fields ())) boarding) boarding .bot = [.botBoard]) ∧
      (inspecting.lsu.line = .inspection ∧ inFlight inspecting.trc.state = false) ∧
      (atRest.lsu.line = .closed ∧ atRest.cfg.committed = true) ∧
      (State.reset.lsu.line ≠ .inspection ∧ State.reset.cfg.committed = false) ∧
      (running.lsu.line = .inService ∧ inFlight running.trc.state = true ∧ running.cfg.committed = true) ∧
      (boardingOne.lsu.line = .inService ∧ boardingOne.adm.reservations ≠ []) ∧
      (let s : State := { inspecting with trc := { (onTrip .doors).trc with effMode := .inspection } }
       s.lsu.line = .inspection ∧ inFlight s.trc.state = true) := by decide

theorem test_hyp_ReferenceAndProtectionSettings :
    (atRest.pins.resetLow = false ∧ atRest.lsu.line = .closed ∧ inFlight atRest.trc.state = false ∧
        stopExists atRest.params .middle = true ∧ atRest.psu.still = true) ∧
      ¬ (boarding.lsu.line = .closed ∨ boarding.lsu.line = .inspection) ∧
      stopExists State.reset.params .middle = false ∧
      (State.reset.lsu.line = .closed ∧ stopExists State.reset.params .top = true ∧ State.reset.psu.still = false) ∧
      boarding.lsu.line ≠ .closed := by decide

/-- A SET CLEAR IN INSPECTION of a value that is not listed, on a CLOSED line and on another (log 36). -/
theorem test_unlisted_setting :
    (after (.setClearInInspection .con (.fields (.unlisted 2))) atRest).lbp.reply.map (·.status) =
        some (.refused .badValue) ∧
      (after (.setClearInInspection .con (.fields (.unlisted 2))) boarding).lbp.reply.map (·.status) =
        some (.refused .wrongState) := by decide

theorem test_hyp_LineStateChangesByRequest :
    (∃ t, exec (.openLine .con (.fields ())) atRest = .next t ∧ t.lsu.line ≠ atRest.lsu.line) ∧
      (∃ t, exec (.closeLine .con (.fields ())) boarding = .next t ∧ t.lsu.line ≠ boarding.lsu.line) ∧
      (∃ t, exec (.inspectionEnter .con (.fields ())) atRest = .next t ∧ t.lsu.line ≠ atRest.lsu.line) ∧
      (∃ t, exec (.inspectionLeave .con (.fields ())) inspecting = .next t ∧ t.lsu.line ≠ inspecting.lsu.line) ∧
      ∃ t, exec (.pinReset true) boarding = .next t ∧ t.lsu.line ≠ boarding.lsu.line :=
  ⟨⟨_, rfl, by decide⟩, ⟨_, rfl, by decide⟩, ⟨_, rfl, by decide⟩, ⟨_, rfl, by decide⟩, ⟨_, rfl, by decide⟩⟩

theorem test_hyp_EncoderEdgeCounts : running.pins.resetLow = false := by decide

theorem test_hyp_SpeedSampleReads :
    atRest.pins.resetLow = false ∧ isOvertaken atRest .speedSample = false ∧ atRest.cfg.committed = true ∧
      isMoving atRest.trc.state = false ∧
      State.reset.cfg.committed = false ∧
      (running.trc.trip.direction = some .upA ∧ running.psu.furthest = some 0 ∧
        running.trc.trip.tpos = some 105600 ∧ isMoving running.trc.state = true ∧ running.trc.state = .running) := by decide

/-- The clauses of SpeedSampleReads on d and on the held count, and that of OverspeedAtOnce on confirmed standstill: a
moving trip that stays one, and the sample that confirms standstill 40 counts on under an active monitor. -/
theorem test_hyp_SpeedSampleReads_still :
    (isMoving (after .speedSample running).trc.state = true ∧ (after .speedSample running).clc.d = some 105600) ∧
      (let s : State :=
        { braked with
          psu := { braked.psu with still := false, stillCount := 9, count := 40, countPrev := 40 }
          brs := { braked.brs with effectiveness := some ⟨100, 0⟩ } }
       let t := after .speedSample s
       StageInv s ∧ s.psu.still = false ∧ t.psu.still = true ∧ t.psu.heldCount = 40 ∧ t.brs.effectiveness = none) :=
  ⟨by decide, ⟨by unfold StageInv; decide, by decide⟩⟩

/-- R74: a rise to SERVICE off standstill starts the effectiveness monitor, one at standstill does not. -/
theorem test_monitor_starts_off_standstill :
    (raiseCause .stopRequest (.asker (.station .con)) running).brs.effectiveness = some ⟨0, 0⟩ ∧
      (raiseCause .stopRequest (.asker (.station .con)) boarding).brs.effectiveness = none := by decide

/-- The clauses of SpeedSampleReads on the monitors, each with its condition: 3,000 counts are 460 cm, and a position lies
1 cm past its tolerance. -/
theorem test_hyp_SpeedSampleReads_monitors :
    (let s : State := { running with psu := { running.psu with count := -3000 } }
     isPowered s.trc.state = true ∧ s.params.rollbackTol < fallenBack s .upA 0) ∧
      (let s : State := { atRest with psu := { atRest.psu with count := 3000 } }
       isMoving s.trc.state = false ∧ s.params.creepTol < drifted s (after .speedSample s).psu.heldCount) ∧
      (let s : State := { atRest with psu := { atRest.psu with pRef := -(atRest.params.ovtTol : Int) - 1 } }
       s.psu.ref = .referenced ∧ pos s < -(s.params.ovtTol : Int)) ∧
      (let s : State := { running with psu := { running.psu with pRef := 105600 + (running.params.overshootTol : Int) + 1 } }
       s.psu.ref = .referenced ∧ isMoving s.trc.state = true ∧ s.trc.trip.direction = some .upA ∧
         (s.params.overshootTol : Int) < pos s - 105600) := by decide

/-- The clauses of SpeedSampleReads on a missed marker, and on the changes to ARRIVING and DWELL. -/
theorem test_hyp_SpeedSampleReads_marker_and_arrival :
    (let s : State :=
      { running with
        psu :=
          { running.psu with
            pRef := 5000 + (running.params.mkMiss : Int) + 1, count := 300, expected := ⟨some 0, none⟩ } }
     let t := after .speedSample s
     s.psu.ref = .referenced ∧ s.psu.still = false ∧ t.psu.still = false ∧ s.psu.travelDir = some .upA ∧
       t.psu.travelDir = some .upA ∧ s.psu.expected.get .a = some 0 ∧ isBeyond .upA (pos s) (expectedPos s .a 0) = true ∧
       s.params.mkMiss < (pos s - expectedPos s .a 0).natAbs) ∧
      (let s : State := { running with psu := { running.psu with pRef := 105600 - (running.params.stopZone : Int) } }
       s.trc.state = .running ∧ s.cfg.committed = true ∧ (after .speedSample s).brs.stage = .none ∧
         (after .speedSample s).clc.d = some s.params.stopZone) ∧
      (let s : State :=
        { onTrip .arriving with
          psu := { atRest.psu with pRef := 105600 + (atRest.params.alignTol : Int) }, brs := running.brs }
       s.trc.state = .arriving ∧ s.trc.trip.destination = some .middle ∧ s.trc.trip.tpos = some 105600 ∧
         (after .speedSample s).brs.stage = .none ∧ (after .speedSample s).psu.still = true ∧
         (pos s - 105600).natAbs ≤ s.params.alignTol ∧ s.trc.trip.owner = some .drv) ∧
      (let s : State :=
        { onTrip .arriving with
          psu := { atRest.psu with pRef := 105600 + (atRest.params.alignTol : Int) + 1 }, brs := running.brs }
       (after .speedSample s).brs.stage = .none ∧ ¬ (pos s - 105600).natAbs ≤ s.params.alignTol) := by decide

/-- RUNNING with an encoder that has moved `n` counts since the last sample. -/
def runningAt (n : Count) (armed : Bool) : State :=
  { running with psu := { running.psu with count := n }, brs := { running.brs with warnArmed := armed } }

/-- The stage of RUNNING is what its empty cause set calls for. -/
theorem running_stageInv (n : Count) (armed : Bool) : StageInv (runningAt n armed) := ⟨List.nodup_nil, rfl⟩

theorem test_hyp_OverspeedAtOnce :
    (StageInv (runningAt 200 true) ∧ isOvertaken (runningAt 200 true) .speedSample = false) ∧
      (let t := after .speedSample (runningAt 200 true)
       t.clc.e < t.psu.vEval ∧ t.clc.w1 < t.psu.vEval) ∧
      (let t := after .speedSample (runningAt 200 false)
       t.clc.c < t.psu.vEval) ∧
      (let t := after .speedSample (runningAt 0 false)
       t.psu.vEval ≤ t.clc.c ∧ t.clc.c ≤ t.clc.w1) ∧
      (let s : State := { runningAt 200 true with brs := { (runningAt 200 true).brs with overspeedCount := 1 } }
       let t := after .speedSample s
       t.clc.s < t.psu.vEval ∧ s.brs.overspeedCount = 1) ∧
      (let s : State :=
        { runningAt 100 true with
          brs := { braked.brs with effectiveness := some ⟨500, 0⟩ }, trc := braked.trc, now := 20 + braked.params.sbGrace }
       let t := after .speedSample s
       StageInv s ∧ s.brs.effectiveness = some ⟨500, 0⟩ ∧ s.brs.stage = .service ∧ t.psu.still = false ∧
         s.params.sbGrace ≤ t.now - 0 ∧
         max s.params.vcreep (500 - s.params.aFloor * (t.now - 0) / 2000) < t.psu.vEval) :=
  ⟨⟨running_stageInv 200 true, rfl⟩, by decide, by decide, by decide, by decide,
    ⟨by unfold StageInv; decide, by decide⟩⟩

/-- The parameters of the reference line lie in their ranges. -/
theorem atRest_paramInv : ParamInv atRest := fun p => by cases p <;> decide

theorem test_hyp_CeilingStaysInBounds :
    ParamInv running ∧
      (running.pins.resetLow = false ∧ isOvertaken running .speedSample = false ∧ running.cfg.committed = true ∧
        commitFailure running = none) ∧
      (isMoving running.trc.state = true ∧ running.trc.trip.mode = some .normal) ∧
      (∃ t, exec .speedSample { running with trc := { running.trc with trip := { running.trc.trip with mode := some .reduced } } } =
        .next t) ∧
      ∃ t, exec .speedSample { running with trc := { running.trc with trip := { running.trc.trip with mode := some .inspection } } } =
        .next t := ⟨atRest_paramInv, by decide, by decide, ⟨_, rfl⟩, ⟨_, rfl⟩⟩

/-- The ceiling clauses of CeilingStaysInBounds: a trip on the PROFILE basis with its direction, target and derating, terms
of its minimum, a trip on the CAP basis, and a line that does not move. -/
theorem test_hyp_CeilingStaysInBounds_terms :
    (running.clc.basis = some .profile ∧ running.trc.trip.direction = some .upA ∧ running.trc.trip.tpos = some 105600 ∧
        running.trc.trip.derating = some (deratingOf refParams .upA ⟨40, 120⟩) ∧ running.trc.trip.margin = none) ∧
      (SegmentTerm running 400 ∧ ∃ x, CeilingTerm running .normal .upA 60 105600 x) ∧
      (let s : State := { running with clc := { running.clc with basis := some .cap } }
       isMoving s.trc.state = true ∧ s.clc.basis = some .cap ∧ commitFailure s = none) ∧
      (isMoving atRest.trc.state = false ∧ atRest.cfg.committed = true ∧ commitFailure atRest = none) :=
  have seg : SegmentTerm running 400 := ⟨⟨0, 400⟩, by decide, rfl, by decide, by decide⟩
  ⟨by decide, ⟨seg, 400, .inl seg⟩, by decide, by decide⟩

/-- R50: at the bottom the segment limit of 400 cm/s binds the reference trip. -/
theorem test_segment_binds : (after .speedSample running).clc.c = 400 := by decide

theorem test_hyp_CarPollTaken :
    Heard .carPoll .carB boarding ∧
      ((pollOf 0 0 0 0 0 255 0).map (fun p => (markerKnown boarding p, p.marker, p.stopReq, p.alarm)) =
          some (true, none, .none, false) ∧ inFlight boarding.trc.state = false) ∧
      (pollOf 0x0F 0xFF 2 4 4 1 9).map (fun p => (markerKnown boarding p, p.stopReq, p.alarm)) = some (true, .estop, true) ∧
      (pollOf 0 0 0 0 0 1 4).map (·.stopReq) = some .stop ∧
      (pollOf 0 0 3 0 0 255 0 = none ∧ pollOf 0x10 0 0 0 0 255 0 = none) ∧
      (pollOf 0 0 0 0 0 2 0).map (markerKnown boarding) = some false ∧ OutputInv boarding :=
  ⟨heard rfl rfl, by decide, by decide, by decide, by decide, by decide, by unfold OutputInv; decide⟩

/-- A poll of a car at rest with its doors LOCKED, then one that reports 828 cm/s up. -/
def restPoll : Poll :=
  { speed := 0, dir := .none, left := .locked, right := .locked, marker := none, alarm := false, stopReq := .none
    trackBrake := false }

def fastPoll : Poll := { restPoll with speed := 828, dir := .up }

/-- The clauses of CarPollTaken in a trip and on an alarm: a poll that disagrees with the rope, the third in a row, one
that agrees, a side not LOCKED on either side, a marker, and an alarm with the latch clear and set. -/
theorem test_hyp_CarPollTaken_trip :
    (let s : State := { running with psu := { running.psu with mismatch := ⟨0, 2⟩ } }
     isMoving s.trc.state = true ∧ pollOf 3 0x3C 1 0 0 255 0 = some fastPoll ∧ Disagrees s .b fastPoll ∧
       s.psu.mismatch.get .b = 2 ∧ pollOf 0 0 0 0 0 255 0 = some restPoll ∧ ¬ Disagrees s .b restPoll) ∧
      (isPowered running.trc.state = true ∧ running.psu.mismatch.get .b = 0 ∧
        pollOf 0 0 0 1 0 255 0 = some { restPoll with left := .closed } ∧
        pollOf 0 0 0 0 4 255 0 = some { restPoll with right := .obstructed }) ∧
      (pollOf 0 0 0 0 0 1 0 = some { restPoll with marker := some 1 } ∧
        markerKnown running { restPoll with marker := some 1 } = true) ∧
      (pollOf 0 0 0 0 0 255 1 = some { restPoll with alarm := true } ∧ inFlight boarding.trc.state = false ∧
        (boarding.cru.get .b).latch = false ∧ boarding.niu.incidents.length < 16) ∧
      (let s : State := { boarding with cru := boarding.cru.set .b { boarding.cru.b with latch := true } }
       inFlight s.trc.state = false ∧ (s.cru.get .b).latch = true) := by
  unfold Disagrees
  decide

/-- The DOORS clause of CarPollTaken: the poll that makes the last side LOCKED, one that leaves the other car's door open,
and a SETTLE_T of 0. -/
theorem test_hyp_CarPollTaken_doors :
    let s := openDoor (onTrip .doors)
    (s.trc.state = .doors ∧ s.brs.stage = .none ∧ s.psu.mismatch.get .a = 0 ∧ s.params.settleT ≠ 0) ∧
      (let t := after (.carPoll .carA [0, 0, 0, 0, 0, 255, 0]) s
       allLocked t = true ∧ t.trc.state = .settle ∧ t.trc.settleTimer = some ⟨0, s.params.settleT⟩) ∧
      (let t := after (.carPoll .carB [0, 0, 0, 0, 0, 255, 0]) s
       allLocked t = false ∧ t.trc.state = .doors) ∧
      (after (.carPoll .carA [0, 0, 0, 0, 0, 255, 0]) (noSettle s)).trc.state = .release := by decide

/-! ## Worked cases of the rules on freshness, the committed mark and the slot of a request -/

/-- R39: a report older than T_CAR is not fresh when it is read, with no CAR_REPORT_STALE taken; one of just T_CAR is. -/
theorem test_freshness_is_judged_when_read :
    isFresh { atRest with now := atRest.params.tCar } .a = true ∧
      isFresh { atRest with now := atRest.params.tCar + 1 } .a = false ∧
      openCheck { atRest with now := atRest.params.tCar + 1 } = some (.carStale .a) := by decide

/-- R5: the committed mark is in a reply to a configuration request of another station too. -/
theorem test_refused_commit_carries_mark :
    (after (.commit .drv (.fields ())) atRest).lbp.reply.map (·.data) = some (.cfg .nothing true) := by decide

/-- R83: NOT_YOURS carries the slot and its state. -/
theorem test_foreign_slot_is_named :
    (after (.tripRequest .drv (.fields { toMiddleFields .dispatch with slot := some 1 })) boarding).lbp.reply.map
      (fun r => (r.status, r.data)) = some (.refused .notYours, .slot .slot1 .empty none none) := by decide

theorem test_hyp_ResetsAndSupply :
    (atRest.pins.resetLow = false ∧ atRest.lsu.line = .closed ∧ atRest.psu.still = true ∧ atRest.cfg.committed = true) ∧
      boarding.lsu.line ≠ .closed ∧ (State.reset.lsu.line = .closed ∧ State.reset.psu.still = false) ∧
      (let s : State := { atRest with cfg := { atRest.cfg with committed := false } }
       s.pins.resetLow = false ∧ s.lsu.line = .closed ∧ s.psu.still = true ∧ s.cfg.committed = false) ∧
      heldInReset.pins.resetLow = true := by decide

/-- `running` with a STOP of DRV waiting. -/
def runningStop : State := { running with pending := [.stop .drv (.fields ())] }

/-- `boardingOne` with the lapse of lane 0 waiting. -/
def boardingLapse : State := { boardingOne with pending := [.lapse entryLane] }

/-- RUNNING meets every invariant of `RunSafe`. -/
theorem running_runSafe : RunSafe runningStop where
  stage := running_stageInv 0 true
  outputs := by unfold OutputInv; decide
  line := by unfold LineInv; decide
  flight := by unfold FlightInv; decide
  tripStage := by unfold TripStageInv; decide
  timers := by constructor <;> decide
  releases := ⟨fun c => by cases c <;> decide, fun c d => by cases c <;> cases d <;> decide⟩

/-- Boarding with one reservation meets every invariant of `StoreSafe`. -/
theorem boarding_storeSafe : StoreSafe boardingLapse where
  tables := by constructor <;> decide
  params := atRest_paramInv
  reservations := by
    constructor
    · decide
    · decide
    · decide
    · intro k h
      cases h
  capacity := fun _ c => by cases c <;> decide
  committed := fun _ => by decide
  thresholds := by unfold ThresholdInv; decide

theorem test_hyp_EveryStepKeepsRunSafe : RunSafe runningStop ∧ ∃ t, step runningStop = .next t :=
  ⟨running_runSafe, _, rfl⟩

theorem test_hyp_EveryStepKeepsStoreSafe : StoreSafe boardingLapse ∧ ∃ t, step boardingLapse = .next t :=
  ⟨boarding_storeSafe, _, rfl⟩

theorem test_hyp_EveryStepKeepsOutputs :
    OutputInv runningStop ∧ runningStop.brs.drivePermit = true ∧ ∃ t, step runningStop = .next t :=
  ⟨running_runSafe.outputs, rfl, _, rfl⟩

theorem test_hyp_EveryStepKeepsRecords :
    (CountInv recorded ∧ IncidentInv recorded ∧ SelectionInv recorded ∧ MirrorInv recorded) ∧
      ∃ t, step recorded = .next t := by
  refine ⟨⟨⟨by decide, fun c => ?_, by decide, fun c => ?_, fun b => ?_, by decide⟩, ?_, fun st => ?_, ?_⟩, _, rfl⟩
  · cases c <;> decide
  · cases c <;> decide
  · cases b <;> decide
  · unfold IncidentInv; decide
  · cases st <;> exact List.mem_singleton.mpr rfl
  · unfold MirrorInv; decide

theorem test_hyp_CommandSurvivesTheWire :
    wellFormed (.setLimit .drv (.fields (-2147483648))) = true ∧
      (frameOf (.setLimit .drv (.fields (-2147483648)))).map (·.payload) = some [0x80, 0, 0, 0] ∧
      wellFormed (.stop .con (.malformed [7])) = true ∧ (frameOf (.stop .con (.malformed [7]))).isSome = true := by decide

end Sys2Proof.Tests
end

section
/-! O27 (section 4.10, R78): the brake stage falls only by an accepted CLEAR BRAKE at confirmed standstill or by a
reset.

A lower bound of the stage (`StageAtLeast`) is kept by every operation but two: the clear of the stage and the reset of
the blocks. The one operation that writes the stage elsewhere is `raiseCause`, which only lets it rise; the lemmas of
`StageAtLeast` follow the composition of the model's operations down to it. -/

namespace Sys2Proof.Machine

/-! ## A lower bound of the stage -/

/-- The brake stage has at least the rank `n` (R62). -/
def StageAtLeast (n : Nat) (s : State) : Prop := n ≤ s.brs.stage.rank

variable {n : Nat} {s t u : State}

@[simp] theorem stageAtLeast_iff : StageAtLeast n s ↔ n ≤ s.brs.stage.rank := Iff.rfl

namespace StageAtLeast

/-- An operation that leaves the stage as it is keeps its bound: most do, by their frame lemmas. -/
theorem congr (h : StageAtLeast n s) (ht : t.brs.stage = s.brs.stage) : StageAtLeast n t := by
  simpa [ht] using h

theorem ite {p : Prop} [Decidable p] (ht : StageAtLeast n t) (hu : StageAtLeast n u) :
    StageAtLeast n (if p then t else u) := by
  split <;> assumption

theorem advanceTo (h : StageAtLeast n s) (time : Nat) : StageAtLeast n (advanceTo time s) := h

theorem setTripState (h : StageAtLeast n s) (new : TripState) : StageAtLeast n (setTripState new s) :=
  h.congr (by simp)

end StageAtLeast

/-! ## The stage through the fields of a brake and a raised cause -/

@[simp] theorem setApply_stage (r : Brs) (timer : Option Timer) (b : Brake) : (r.setApply timer b).stage = r.stage := by
  cases b <;> rfl

@[simp] theorem setFb_stage (r : Brs) (level : Feedback) (b : Brake) : (r.setFb level b).stage = r.stage := by
  cases b <;> rfl

@[simp] theorem timerAtFeedback_stage (b : Brake) (level : Feedback) (s : State) :
    (timerAtFeedback b level s).brs.stage = s.brs.stage := by
  unfold timerAtFeedback
  split
  · simp
  · split <;> simp

/-- The stage after a cause is raised: the one it calls for where the cause is new and calls for a higher one (R62). -/
theorem raiseCause_stage (c : Cause) (d : Detail) (s : State) :
    (raiseCause c d s).brs.stage =
      if hasCause s c = false ∧ s.brs.stage.rank < c.stage.rank then c.stage else s.brs.stage := by
  by_cases hc : hasCause s c = true
  · simp [raiseCause, hc]
  · by_cases hr : s.brs.stage.rank < c.stage.rank <;> simp [raiseCause, hc, hr, addCause]

namespace StageAtLeast

theorem raiseCause (h : StageAtLeast n s) (c : Cause) (d : Detail) : StageAtLeast n (raiseCause c d s) := by
  rw [stageAtLeast_iff, raiseCause_stage]
  split
  case isTrue hr => exact Nat.le_trans h (Nat.le_of_lt hr.2)
  case isFalse => exact h

/-! ## From CLOSING to RUNNING -/

theorem dragCheck (h : StageAtLeast n s) (b : Brake) (fb : Feedback) : StageAtLeast n (dragCheck b fb s) :=
  (h.raiseCause _ _).ite h

theorem enterRunning (h : StageAtLeast n s) : StageAtLeast n (enterRunning s) :=
  ((h.setTripState .running).dragCheck .service _).dragCheck .emergency _

theorem checkReleased (h : StageAtLeast n s) : StageAtLeast n (checkReleased s) := h.enterRunning.ite h

theorem silentCheck (h : StageAtLeast n s) (c : Car) : StageAtLeast n (silentCheck c s) := h.ite (h.raiseCause _ _)

theorem doorCheckSide (h : StageAtLeast n s) (c : Car) (d : Side) : StageAtLeast n (doorCheckSide c d s) :=
  h.ite (h.raiseCause _ _)

theorem doorCheck (h : StageAtLeast n s) (c : Car) : StageAtLeast n (doorCheck c s) :=
  ((h.doorCheckSide c .left).doorCheckSide c .right).ite h

theorem enterRelease (h : StageAtLeast n s) : StageAtLeast n (enterRelease s) :=
  (((((h.setTripState .release).silentCheck .a).silentCheck .b).doorCheck .a).doorCheck .b).checkReleased

theorem enterSettle (h : StageAtLeast n s) : StageAtLeast n (enterSettle s) :=
  (enterRelease (h.congr (by simp))).ite (h.congr (by simp))

theorem checkDoors (h : StageAtLeast n s) : StageAtLeast n (checkDoors s) := h.enterSettle.ite h

theorem enterDoors (h : StageAtLeast n s) : StageAtLeast n (enterDoors s) := (h.setTripState .doors).checkDoors

theorem reservationsEmpty (h : StageAtLeast n s) : StageAtLeast n (reservationsEmpty s) := by
  unfold Machine.reservationsEmpty
  split
  · exact h.enterDoors.ite h
  · exact h

theorem enterClosing (h : StageAtLeast n s) (k : Stop) : StageAtLeast n (enterClosing k s) :=
  (h.setTripState (.closing k)).reservationsEmpty

/-! ## Starts, triggers and aborts -/

theorem beginTrip (h : StageAtLeast n s) (id : SlotId) (r : TripReq) (dest : Stop) (origin : Option Stop) :
    StageAtLeast n (beginTrip id r dest origin s) :=
  h.congr (by simp)

theorem startFromStop (h : StageAtLeast n s) (id : SlotId) (r : TripReq) (k : Stop) :
    StageAtLeast n (startFromStop id r k s) :=
  ((h.beginTrip id r _ _).enterClosing k).ite (h.beginTrip id r _ _).enterDoors

theorem startFromLine (h : StageAtLeast n s) (id : SlotId) (r : TripReq) (dest : Stop) :
    StageAtLeast n (startFromLine id r dest s) :=
  (h.beginTrip id r dest none).enterDoors

theorem testPending (h : StageAtLeast n s) (id : SlotId) : StageAtLeast n (testPending id s) := by
  unfold Machine.testPending
  split
  · refine StageAtLeast.ite ?_ h
    split
    · exact h.startFromStop id _ _
    · exact h.congr (by simp)
  · exact h

theorem pendingsAfterAbort (h : StageAtLeast n s) : StageAtLeast n (pendingsAfterAbort s) :=
  (h.congr (by simp)).ite ((h.testPending .slot0).testPending .slot1)

theorem abortAndTest (h : StageAtLeast n s) (cause : AbortCause) : StageAtLeast n (abortAndTest cause s) :=
  pendingsAfterAbort (h.congr (by simp))

theorem takeTrigger (h : StageAtLeast n s) (id : SlotId) (r : TripReq) : StageAtLeast n (takeTrigger id r s) := by
  unfold Machine.takeTrigger
  split
  · exact h
  · refine StageAtLeast.ite ?_ (h.congr (by simp))
    split
    · exact h.startFromStop id r _
    · exact h.congr (by simp)
  · split
    · exact h
    · exact h.congr (by simp)
  · exact (h.congr (by simp)).ite (h.congr (by simp))

theorem takeEvent (h : StageAtLeast n s) (e : Trigger) (id : SlotId) : StageAtLeast n (takeEvent e id s) := by
  unfold Machine.takeEvent
  split
  · exact (h.takeTrigger id _).ite h
  · exact h

theorem atDwellExpiry (h : StageAtLeast n s) (id : SlotId) : StageAtLeast n (atDwellExpiry id s) := by
  unfold Machine.atDwellExpiry
  split
  · exact (h.takeTrigger id _).ite h
  · exact h.testPending id
  · exact h

theorem takeImmediate (h : StageAtLeast n s) {id : SlotId} {r : TripReq} (ht : takeImmediate id r s = .ok t) :
    StageAtLeast n t := by
  unfold Machine.takeImmediate at ht
  repeat' split at ht
  all_goals cases ht
  · exact h.startFromStop id r _
  · exact h.congr (by simp)
  · exact h.startFromLine id r _
  · exact h.congr (by simp)

/-! ## The expiries and the feedback of a brake -/

theorem dwellElapsed (h : StageAtLeast n s) : StageAtLeast n (dwellElapsed s) :=
  (atDwellExpiry (h.congr (by simp)) .slot0).atDwellExpiry .slot1

theorem settled (h : StageAtLeast n s) : StageAtLeast n (settled s) :=
  (enterRelease (h.congr (by simp))).ite (h.congr (by simp))

theorem notReleased (h : StageAtLeast n s) : StageAtLeast n (notReleased s) :=
  (abortAndTest (h.congr (by simp)) _).ite (h.congr (by simp))

theorem doorsTimedOut (h : StageAtLeast n s) : StageAtLeast n (doorsTimedOut s) :=
  (abortAndTest (h.congr (by simp)) _).ite (h.congr (by simp))

theorem driveSilent (h : StageAtLeast n s) : StageAtLeast n (driveSilent s) := raiseCause (h.congr (by simp)) _ _

theorem notApplied (h : StageAtLeast n s) (b : Brake) (timer : Timer) : StageAtLeast n (notApplied b timer s) :=
  raiseCause (h.congr (by simp)) _ _

theorem takeFeedback (h : StageAtLeast n s) (b : Brake) (level : Feedback) :
    StageAtLeast n (takeFeedback b level s) := by
  have hs : StageAtLeast n (Machine.checkReleased (timerAtFeedback b level (s.onBrs fun r => r.setFb level b))) :=
    checkReleased (h.congr (by simp))
  exact (hs.raiseCause _ _).ite hs

/-! ## Markers, the speed sample and the polls -/

theorem expectBeyond (h : StageAtLeast n s) (c : Car) (x : Int) : StageAtLeast n (expectBeyond c x s) :=
  h.congr (by simp)

theorem missMarker (h : StageAtLeast n s) (c : Car) (m : Nat) : StageAtLeast n (missMarker c m s) :=
  expectBeyond ((h.raiseCause _ _).ite (h.congr (by simp))) c _

theorem passExpected (h : StageAtLeast n s) (c : Car) (m : Nat) : StageAtLeast n (passExpected c m s) := by
  unfold Machine.passExpected
  split
  · exact (h.expectBeyond c _).ite (((h.missMarker c _).expectBeyond c _).ite h)
  · exact h

theorem markerPass (h : StageAtLeast n s) (c : Car) (m : Nat) : StageAtLeast n (markerPass c m s) := by
  unfold Machine.markerPass
  dsimp only
  split
  · exact h.congr (by simp)
  · exact (h.congr (by simp)).ite ((h.congr (by simp)).ite (h.congr (by simp)))
  · have hr := h.raiseCause .position (.position c m (pos s) (expectedPos s c m))
    exact (passExpected (h.congr (by simp)) c m).ite (hr.congr (by simp))

theorem runMonitor (h : StageAtLeast n s) (m : Monitor) : StageAtLeast n (runMonitor m s) :=
  ((raiseCause (h.congr (by simp)) _ _).ite h).ite (h.congr (by simp))

theorem checkMissed (h : StageAtLeast n s) (c : Car) : StageAtLeast n (checkMissed c s) := by
  unfold Machine.checkMissed
  split
  · exact (h.missMarker c _).ite h
  · exact h

theorem runMonitors (h : StageAtLeast n s) : StageAtLeast n (runMonitors s) := by
  have hf : StageAtLeast n (takeFurthest s) := h.congr (by simp)
  have hm := (((hf.runMonitor .rollback).runMonitor .unintended).runMonitor .overtravel).runMonitor .overshoot
  exact (hm.checkMissed .a).checkMissed .b

theorem checkE (h : StageAtLeast n s) : StageAtLeast n (checkE s) := (h.raiseCause _ _).ite h

theorem checkS (h : StageAtLeast n s) : StageAtLeast n (checkS s) :=
  ((raiseCause (h.congr (by simp)) _ _).ite (h.congr (by simp))).ite (h.congr (by simp))

theorem checkEffectiveness (h : StageAtLeast n s) : StageAtLeast n (checkEffectiveness s) := by
  unfold Machine.checkEffectiveness
  split
  · exact h
  · exact (h.raiseCause _ _).ite h

theorem sampleBrakes (h : StageAtLeast n s) : StageAtLeast n (sampleBrakes s) :=
  h.checkE.checkS.checkEffectiveness.congr (by simp [Machine.sampleBrakes])

theorem sample (h : StageAtLeast n s) : StageAtLeast n (sample s) := by
  have hm := runMonitors (s := updateStill (sampleSpeed s)) (h.congr (by simp))
  have hc : StageAtLeast n (sampleCeiling (Machine.runMonitors (updateStill (sampleSpeed s)))) := hm.congr (by simp)
  exact hc.sampleBrakes.congr (by simp [Machine.sample])

theorem checkMismatch (h : StageAtLeast n s) (c : Car) (p : Poll) : StageAtLeast n (checkMismatch c p s) :=
  (((raiseCause (h.congr (by simp)) _ _).ite (h.congr (by simp))).ite (h.congr (by simp))).ite h

theorem makeStale (h : StageAtLeast n s) (c : Car) : StageAtLeast n (makeStale c s) := by
  have hs : StageAtLeast n (updateOutputs (s.onCru fun r => r.set c { r.get c with fresh := false })) :=
    h.congr (by simp)
  exact (hs.raiseCause _ _).ite hs

theorem settleStale (h : StageAtLeast n s) : StageAtLeast n (settleStale s) := by
  have ha : StageAtLeast n (staleIfOld .a s) := (h.makeStale .a).ite h
  exact (ha.makeStale .b).ite ha

theorem pollStop (h : StageAtLeast n s) (c : Car) (p : Poll) : StageAtLeast n (pollStop c p s) := by
  unfold Machine.pollStop
  split
  · exact h
  · exact h.raiseCause _ _
  · exact h.raiseCause _ _

theorem pollMarker (h : StageAtLeast n s) (c : Car) (p : Poll) : StageAtLeast n (pollMarker c p s) := by
  unfold Machine.pollMarker
  split
  · exact h.markerPass c _
  · exact h

theorem pollDoors (h : StageAtLeast n s) (c : Car) : StageAtLeast n (pollDoors c s) := (h.doorCheck c).ite h.checkDoors

theorem takePoll (h : StageAtLeast n s) (c : Car) (p : Poll) : StageAtLeast n (takePoll c p s) := by
  have hs : StageAtLeast n (updateOutputs (storePoll c p s)) := h.congr (by simp)
  exact ((((hs.checkMismatch c p).pollMarker c p).pollDoors c).pollStop c p).congr (by simp [Machine.takePoll])

/-! ## The end of a reservation -/

theorem handIfEmpty (h : StageAtLeast n s) : StageAtLeast n (handIfEmpty s) := h.reservationsEmpty.ite h

theorem passReserved (h : StageAtLeast n s) (l : Lane) (r : Reservation) : StageAtLeast n (passReserved l r s) :=
  handIfEmpty (h.congr (by simp))

theorem lapse (h : StageAtLeast n s) (id : LaneId) : StageAtLeast n (lapse id s) :=
  handIfEmpty ((h.congr (by simp)).ite (h.congr (by simp)))

theorem disable (h : StageAtLeast n s) (id : LaneId) : StageAtLeast n (disable id s) :=
  (handIfEmpty (h.congr (by simp))).ite (h.congr (by simp))

end StageAtLeast

/-! ## The answers that leave the stage as it is: one lemma for each, by the branches of its definition -/

section Answers

variable (s t : State)

@[simp] theorem accept_state (data : ReplyData) : (accept data s).state = s := rfl
@[simp] theorem refuse_state (why : Reason) (data : ReplyData) : (refuse why data s).state = s := rfl
@[simp] theorem deny_state (why : Reason) : (deny why s).state = s := rfl
@[simp] theorem present_state (why : SubReason) : (present why s).state = s := rfl
@[simp] theorem cfgDeny_state (why : Reason) : (cfgDeny why s).state = s := rfl
@[simp] theorem cfgAccept_state (clamped : Bool) (d : CfgData) : (cfgAccept clamped d s).state = uncommit s := rfl
@[simp] theorem slotDeny_state (id : SlotId) (why : Reason) : (slotDeny id why s).state = s := rfl
@[simp] theorem slotAccept_state (id : SlotId) : (slotAccept id s t).state = t := rfl

/-! ### The configuration store (Chapter 1) -/

/-- What holds of the state and of what a configuration write makes of it holds after the write's request (R5). -/
theorem cfgWrite_state {P : State → Prop} {go : State → Answer} (hs : P s) (hgo : P (go s).state) :
    P (cfgWrite go s).state := by
  unfold cfgWrite
  split
  · exact hgo
  · exact hs

theorem cfgWrite_stage {go : State → Answer} (h : (go s).state.brs.stage = s.brs.stage) :
    (cfgWrite go s).state.brs.stage = s.brs.stage :=
  cfgWrite_state s (P := fun t => t.brs.stage = s.brs.stage) rfl h

@[simp] theorem takePlatformSide_stage (f : Coded Platform × Coded Side) :
    (takePlatformSide f s).state.brs.stage = s.brs.stage :=
  cfgWrite_stage s (by split <;> simp)

@[simp] theorem takeProfilePut_stage (f : Int × Int) : (takeProfilePut f s).state.brs.stage = s.brs.stage :=
  cfgWrite_stage s (by dsimp only; split <;> simp)

@[simp] theorem takeProfileRemove_stage (k : Nat) : (takeProfileRemove k s).state.brs.stage = s.brs.stage :=
  cfgWrite_stage s (by split <;> simp)

@[simp] theorem takeProfileClear_stage (u : Unit) : (takeProfileClear u s).state.brs.stage = s.brs.stage :=
  cfgWrite_stage s (by simp)

@[simp] theorem takeMarkerPut_stage (v : Int) : (takeMarkerPut v s).state.brs.stage = s.brs.stage := by
  refine cfgWrite_stage s ?_
  dsimp only
  split
  · simp
  · split <;> simp

@[simp] theorem takeMarkerRemove_stage (k : Nat) : (takeMarkerRemove k s).state.brs.stage = s.brs.stage :=
  cfgWrite_stage s (by split <;> simp)

@[simp] theorem takeMarkerClear_stage (u : Unit) : (takeMarkerClear u s).state.brs.stage = s.brs.stage :=
  cfgWrite_stage s (by simp)

@[simp] theorem writeLane_stage (f : LanePutFields) : (writeLane f s).state.brs.stage = s.brs.stage :=
  cfgWrite_stage s (by split <;> simp)

@[simp] theorem takeLaneRemove_stage (r : LaneRef) : (takeLaneRemove r s).state.brs.stage = s.brs.stage :=
  cfgWrite_stage s (by split <;> simp)

@[simp] theorem takeCommit_stage (u : Unit) : (takeCommit u s).state.brs.stage = s.brs.stage :=
  cfgWrite_stage s (by dsimp only; split <;> simp)

@[simp] theorem takeReadParameter_stage (x : Coded ReadName) :
    (takeReadParameter x s).state.brs.stage = s.brs.stage := by
  unfold takeReadParameter
  split <;> simp

@[simp] theorem takeReadEntry_stage (e : EntryRef) : (takeReadEntry e s).state.brs.stage = s.brs.stage := by
  unfold takeReadEntry
  split <;> simp

/-! ### Speed, refresh, modes and releases (Chapters 2 to 6) -/

@[simp] theorem takeSetReference_stage (k : Coded Stop) : (takeSetReference k s).state.brs.stage = s.brs.stage := by
  unfold takeSetReference
  split <;> simp

@[simp] theorem takeSetLimit_stage (v : Int) : (takeSetLimit v s).state.brs.stage = s.brs.stage := by
  simp [takeSetLimit]

@[simp] theorem takeRunRefresh_stage (u : Unit) : (takeRunRefresh u s).state.brs.stage = s.brs.stage := by
  simp [takeRunRefresh]

@[simp] theorem takeSetMode_stage (st : Station) (m : Coded Mode) :
    (takeSetMode st m s).state.brs.stage = s.brs.stage := by
  unfold takeSetMode
  split <;> simp

@[simp] theorem takeEvacuate_stage (c : Coded Car) : (takeEvacuate c s).state.brs.stage = s.brs.stage := by
  unfold takeEvacuate
  repeat' split
  all_goals simp

@[simp] theorem takeEvacuateEnd_stage (c : Coded Car) : (takeEvacuateEnd c s).state.brs.stage = s.brs.stage := by
  unfold takeEvacuateEnd
  split <;> simp

@[simp] theorem takeMaintRelease_stage (f : Coded Car × Coded Side) :
    (takeMaintRelease f s).state.brs.stage = s.brs.stage := by
  unfold takeMaintRelease
  repeat' split
  all_goals simp

@[simp] theorem takeMaintEnd_stage (m : MaintTarget) : (takeMaintEnd m s).state.brs.stage = s.brs.stage := by
  unfold takeMaintEnd
  split <;> simp

/-! ### Gates, loads and the line state (Chapters 7 and 8) -/

/-- What holds of the state and of what a gate request makes of it on any lane holds after the request (R127). -/
theorem atLane_state {P : State → Prop} {st : Station} {k : LaneKind} {r : LaneRef} {go : Lane → Answer} (hs : P s)
    (hgo : ∀ l, P (go l).state) : P (atLane st k r go s).state := by
  unfold atLane
  split
  · exact hgo _
  · exact hs

@[simp] theorem takeAdmit_stage (st : Station) (r : LaneRef) : (takeAdmit st r s).state.brs.stage = s.brs.stage :=
  atLane_state s (P := fun t => t.brs.stage = s.brs.stage) rfl fun l => by split <;> simp

@[simp] theorem takeExited_stage (st : Station) (r : LaneRef) : (takeExited st r s).state.brs.stage = s.brs.stage :=
  atLane_state s (P := fun t => t.brs.stage = s.brs.stage) rfl fun l => by split <;> simp

@[simp] theorem takeEnableLane_stage (r : LaneRef) : (takeEnableLane r s).state.brs.stage = s.brs.stage := by
  unfold takeEnableLane
  split <;> simp

@[simp] theorem takeAdjustLoad_stage (f : Coded Car × Int) : (takeAdjustLoad f s).state.brs.stage = s.brs.stage := by
  unfold takeAdjustLoad
  repeat' split
  all_goals simp

@[simp] theorem takeClearUncounted_stage (c : Coded UncountedTarget) :
    (takeClearUncounted c s).state.brs.stage = s.brs.stage := by
  unfold takeClearUncounted
  repeat' split
  all_goals simp

@[simp] theorem takeClearAlarm_stage (c : Coded Car) : (takeClearAlarm c s).state.brs.stage = s.brs.stage := by
  unfold takeClearAlarm
  repeat' split
  all_goals simp

@[simp] theorem takeOpen_stage (u : Unit) : (takeOpen u s).state.brs.stage = s.brs.stage := by
  unfold takeOpen
  repeat' split
  all_goals simp

@[simp] theorem takeClose_stage (u : Unit) : (takeClose u s).state.brs.stage = s.brs.stage := by
  unfold takeClose
  repeat' split
  all_goals simp

@[simp] theorem takeInspectionEnter_stage (u : Unit) : (takeInspectionEnter u s).state.brs.stage = s.brs.stage := by
  unfold takeInspectionEnter
  repeat' split
  all_goals simp

@[simp] theorem takeInspectionLeave_stage (u : Unit) : (takeInspectionLeave u s).state.brs.stage = s.brs.stage := by
  unfold takeInspectionLeave
  repeat' split
  all_goals simp

@[simp] theorem takeSetClear_stage (v : Coded Bool) : (takeSetClear v s).state.brs.stage = s.brs.stage := by
  unfold takeSetClear
  repeat' split
  all_goals simp

/-! ### Notices, incidents and snapshots (Chapters 9 and 10) -/

@[simp] theorem takeNextNotice_stage (st : Station) (u : Unit) :
    (takeNextNotice st u s).state.brs.stage = s.brs.stage := by
  simp [takeNextNotice]

@[simp] theorem takeNoticeEnable_stage (st : Station) (ks : List (Coded NoticeKind)) :
    (takeNoticeEnable st ks s).state.brs.stage = s.brs.stage := by
  unfold takeNoticeEnable
  split <;> simp

@[simp] theorem takeIncidentRead_stage (seq : Int) : (takeIncidentRead seq s).state.brs.stage = s.brs.stage := by
  unfold takeIncidentRead
  split <;> simp

@[simp] theorem takeIncidentAck_stage (seq : Int) : (takeIncidentAck seq s).state.brs.stage = s.brs.stage := by
  unfold takeIncidentAck
  repeat' split
  all_goals simp

@[simp] theorem takeResetCauseRead_stage (u : Unit) : (takeResetCauseRead u s).state.brs.stage = s.brs.stage := by
  unfold takeResetCauseRead
  repeat' split
  all_goals simp

@[simp] theorem takeSnapshotSelect_stage (st : Station) (ks : List (Coded SnapKind)) :
    (takeSnapshotSelect st ks s).state.brs.stage = s.brs.stage := by
  unfold takeSnapshotSelect
  split <;> simp

@[simp] theorem takeSnapshot_stage (st : Station) (u : Unit) : (takeSnapshot st u s).state.brs.stage = s.brs.stage := by
  simp [takeSnapshot]

end Answers

/-- What a request can do: leave the brakes as they are, or carry its fields to the owning block and reply with that
block's answer (R154, R155). -/
theorem request_cases {α : Type} {r : Request} {st : Station} {p : Payload α} {body : α → State → Answer}
    (ht : request r st p body s = .next t) :
    t.brs = s.brs ∨ ∃ f, p = .fields f ∧ t = replyTo r st s (body f s) := by
  unfold request at ht
  split at ht
  · cases ht
    exact .inl (by simp)
  · split at ht
    · split at ht
      · cases ht
        exact .inr ⟨_, rfl, rfl⟩
      · cases ht
        exact .inl (by simp)
    · cases ht
      exact .inl (by simp)

/-! ## The answers that can raise a cause -/

namespace StageAtLeast

theorem takeCarPoll (h : StageAtLeast n s) (st : Station) (poll : Option Poll) :
    StageAtLeast n (takeCarPoll st poll s).state := by
  unfold Machine.takeCarPoll
  split
  · split
    · exact h.takePoll _ _
    · exact h
  · exact h

theorem takeStop (h : StageAtLeast n s) (c : Cause) (st : Station) : StageAtLeast n (takeStop c st s).state :=
  h.raiseCause c _

theorem fileRequest (h : StageAtLeast n s) (id : SlotId) (r : TripReq) : StageAtLeast n (fileRequest id r s).state := by
  unfold Machine.fileRequest
  split
  · split
    next ht => exact h.takeImmediate ht
    next => exact h
  · exact h.congr (by simp)

theorem fillSlot (h : StageAtLeast n s) (st : Station) (f : TripRequestFields) :
    StageAtLeast n (fillSlot st f s).state := by
  unfold Machine.fillSlot
  split
  · unfold slotNotYours
    split <;> exact h
  · split
    · exact h
    · split
      · exact h
      · split
        · exact h
        · exact h.fileRequest _ _

theorem takeCancelTrip (h : StageAtLeast n s) (st : Station) (k : Option Nat) :
    StageAtLeast n (takeCancelTrip st k s).state := by
  unfold Machine.takeCancelTrip
  split
  · exact h
  · split
    · exact h
    · exact h.congr (by simp)
    · exact h.congr (by simp)
    · split
      · exact h.abortAndTest .cancelled
      · exact h

theorem beforeWrite (h : StageAtLeast n s) (p : NumParam) : StageAtLeast n (beforeWrite p s) :=
  (h.congr (by simp)).ite (h.settleStale.ite h)

theorem afterWrite (h : StageAtLeast n s) (p : NumParam) : StageAtLeast n (afterWrite p s) :=
  (h.congr (by simp)).ite (h.settleStale.ite h)

theorem writeNum (h : StageAtLeast n s) (p : NumParam) (v : Int) : StageAtLeast n (writeNum p v s).state := by
  have hw : StageAtLeast n ((Machine.beforeWrite p s).onCfg fun c =>
      { c with params := c.params.put (clampNat (paramRow p).lo (paramRow p).hi v) p }) :=
    (h.beforeWrite p).congr (by simp)
  exact (hw.afterWrite p).congr (t := uncommit _) (by simp)

theorem writeParam (h : StageAtLeast n s) (p : Param) (v : Int) : StageAtLeast n (writeParam p v s).state := by
  cases p with
  | num p => exact h.writeNum p v
  | slotMode =>
    dsimp only [Machine.writeParam]
    split <;> exact h.congr (by simp)
  | walkwaySide =>
    dsimp only [Machine.writeParam]
    split <;> exact h.congr (by simp)

theorem writeParameter (h : StageAtLeast n s) (f : Coded Param × Int) :
    StageAtLeast n (writeParameter f s).state := by
  refine cfgWrite_state s h ?_
  split
  · exact h.writeParam _ _
  · exact h

theorem takePassed (h : StageAtLeast n s) (st : Station) (r : LaneRef) : StageAtLeast n (takePassed st r s).state := by
  refine atLane_state s h fun l => ?_
  split
  · exact h.passReserved l _
  · split <;> exact h.congr (by simp)

theorem takeAbandoned (h : StageAtLeast n s) (st : Station) (r : LaneRef) :
    StageAtLeast n (takeAbandoned st r s).state := by
  refine atLane_state s h fun l => ?_
  split
  · exact handIfEmpty (h.congr (by simp))
  · exact h

theorem takeDisableLane (h : StageAtLeast n s) (r : LaneRef) : StageAtLeast n (takeDisableLane r s).state := by
  unfold Machine.takeDisableLane
  split
  · exact h.disable _
  · exact h

/-! ## Requests and events -/

theorem request (h : StageAtLeast n s) {α : Type} {r : Request} {st : Station} {p : Payload α}
    {body : α → State → Answer} (ht : request r st p body s = .next t)
    (hb : ∀ f, StageAtLeast n (body f s).state) : StageAtLeast n t := by
  obtain hkept | ⟨f, -, rfl⟩ := request_cases ht
  · exact h.congr (by rw [hkept])
  · exact (hb f).congr (by simp)

theorem event (h : StageAtLeast n s) {body : State → State} (ht : event body s = .next t)
    (hb : StageAtLeast n (body s)) : StageAtLeast n t := by
  unfold Machine.event at ht
  split at ht
  · cases ht
    exact h
  · cases ht
    exact hb.congr (by simp)

theorem timedEvent (h : StageAtLeast n s) {i : Instr} {body : State → State}
    (ht : timedEvent i body s = .next t) (hb : StageAtLeast n (body s)) : StageAtLeast n t := by
  unfold Machine.timedEvent at ht
  split at ht
  · cases ht
    exact h
  · cases ht
    exact (h.ite (p := isOvertaken s i = true) hb).congr (by simp)

theorem execUnknownRequestFrame (h : StageAtLeast n s) {head : Head}
    (ht : execUnknownRequestFrame head s = .next t) : StageAtLeast n t := by
  unfold Machine.execUnknownRequestFrame at ht
  repeat' split at ht
  all_goals cases ht; exact h.congr (by simp)

/-! ## The events -/

theorem execEncoderEdge (h : StageAtLeast n s) {dir : TripDir} (ht : execEncoderEdge dir s = .next t) :
    StageAtLeast n t :=
  h.event ht (h.congr (by simp))

theorem execBrakeFeedbackChange (h : StageAtLeast n s) {b : Brake} {level : Feedback}
    (ht : execBrakeFeedbackChange b level s = .next t) : StageAtLeast n t :=
  h.event ht (h.ite (takeFeedback (h.congr (by simp)) b level))

theorem execDispatch (h : StageAtLeast n s) (ht : execDispatch s = .next t) : StageAtLeast n t :=
  h.event ht (h.ite ((takeEvent (h.congr (by simp)) .dispatch .slot0).takeEvent .dispatch .slot1))

theorem execDebouncedLevelFall (h : StageAtLeast n s) (ht : execDebouncedLevelFall s = .next t) : StageAtLeast n t :=
  h.event ht ((h.congr (by simp)).ite h)

theorem execSpeedSample (h : StageAtLeast n s) (ht : execSpeedSample s = .next t) : StageAtLeast n t :=
  h.timedEvent ht (h.advanceTo _).sample

theorem execCarReportStale (h : StageAtLeast n s) {c : Car} (ht : execCarReportStale c s = .next t) :
    StageAtLeast n t :=
  h.timedEvent ht (((h.advanceTo _).makeStale c).ite h)

theorem execDriveRefreshTimerExpiry (h : StageAtLeast n s) (ht : execDriveRefreshTimerExpiry s = .next t) :
    StageAtLeast n t := by
  refine h.timedEvent ht ?_
  split
  · exact (h.advanceTo _).driveSilent
  · exact h

theorem execReleaseWaitExpiry (h : StageAtLeast n s) (ht : execReleaseWaitExpiry s = .next t) : StageAtLeast n t := by
  refine h.timedEvent ht ?_
  split
  · exact (h.advanceTo _).notReleased
  · exact h

theorem execApplyTimerExpiry (h : StageAtLeast n s) {b : Brake} (ht : execApplyTimerExpiry b s = .next t) :
    StageAtLeast n t := by
  refine h.timedEvent ht ?_
  split
  · exact (h.advanceTo _).notApplied b _
  · exact h

theorem execMinDwellExpiry (h : StageAtLeast n s) (ht : execMinDwellExpiry s = .next t) : StageAtLeast n t := by
  refine h.timedEvent ht ?_
  split
  · exact (h.advanceTo _).dwellElapsed
  · exact h

theorem execSettleTimerExpiry (h : StageAtLeast n s) (ht : execSettleTimerExpiry s = .next t) : StageAtLeast n t := by
  refine h.timedEvent ht ?_
  split
  · exact (h.advanceTo _).settled
  · exact h

theorem execLeadTimerExpiry (h : StageAtLeast n s) (ht : execLeadTimerExpiry s = .next t) : StageAtLeast n t := by
  refine h.timedEvent ht ?_
  split
  · exact h.congr (by simp)
  · exact h

theorem execDoorCloseTimerExpiry (h : StageAtLeast n s) (ht : execDoorCloseTimerExpiry s = .next t) :
    StageAtLeast n t := by
  refine h.timedEvent ht ?_
  split
  · exact (h.advanceTo _).doorsTimedOut
  · exact h

theorem execLapse (h : StageAtLeast n s) {id : LaneId} (ht : execLapse id s = .next t) : StageAtLeast n t := by
  refine h.timedEvent ht ?_
  split
  · exact (h.advanceTo _).lapse id
  · exact h

end StageAtLeast

/-! ## The commands -/

/-- A command other than a reset and CLEAR BRAKE keeps every lower bound of the stage. -/
theorem exec_stageAtLeast {c : Instr} (hr : isReset c = false) (hc : ∀ st p, c ≠ .clearBrake st p)
    (h : StageAtLeast n s) (ht : exec c s = .next t) : StageAtLeast n t := by
  cases c with
  | clearBrake st p => exact absurd rfl (hc st p)
  | powerOnReset | resetPinReleased | resetPart _ _ => cases hr
  | pinReset released =>
    cases released with
    | true => cases hr
    | false =>
      cases ht
      exact h.congr (by simp)
  | runRefresh | setMode | setLimit | evacuate | evacuateEnd | maintRelease | maintEnd | admitPerson | exited
  | openLine | closeLine | inspectionEnter | inspectionLeave | setReference | setClearInInspection | platformSide
  | profilePut | profileRemove | profileClear | markerPut | markerRemove | markerClear | lanePut | laneRemove | commit
  | enableLane | adjustLoad | clearUncounted | clearAlarm | readParameter | readEntry | snapshotSelect | snapshot
  | nextNotice | noticeEnable | incidentRead | incidentAck | resetCauseRead =>
    exact h.request ht (fun _ => h.congr (by simp))
  | carPoll st bytes => exact h.request ht (fun poll => h.takeCarPoll st poll)
  | stop st p => exact h.request ht (fun _ => h.takeStop .stopRequest st)
  | estop st p => exact h.request ht (fun _ => h.takeStop .estopRequest st)
  | tripRequest st p => exact h.request ht (fun f => h.fillSlot st f)
  | cancelTrip st p => exact h.request ht (fun k => h.takeCancelTrip st k)
  | setParameter st p => exact h.request ht (fun f => h.writeParameter f)
  | passed st p => exact h.request ht (fun r => h.takePassed st r)
  | abandoned st p => exact h.request ht (fun r => h.takeAbandoned st r)
  | disableLane st p => exact h.request ht (fun r => h.takeDisableLane r)
  | unknownRequestFrame head => exact h.execUnknownRequestFrame ht
  | frameDiscarded | replyCollision | dispatchInputChange | supplyLow | supplyRestored | feedbackInputChange =>
    cases ht
    exact h.congr (by simp)
  | encoderEdge dir => exact h.execEncoderEdge ht
  | brakeFeedbackChange b level => exact h.execBrakeFeedbackChange ht
  | dispatch => exact h.execDispatch ht
  | debouncedLevelFall => exact h.execDebouncedLevelFall ht
  | speedSample => exact h.execSpeedSample ht
  | carReportStale c => exact h.execCarReportStale ht
  | driveRefreshTimerExpiry => exact h.execDriveRefreshTimerExpiry ht
  | releaseWaitExpiry => exact h.execReleaseWaitExpiry ht
  | applyTimerExpiry b => exact h.execApplyTimerExpiry ht
  | minDwellExpiry => exact h.execMinDwellExpiry ht
  | settleTimerExpiry => exact h.execSettleTimerExpiry ht
  | leadTimerExpiry => exact h.execLeadTimerExpiry ht
  | doorCloseTimerExpiry => exact h.execDoorCloseTimerExpiry ht
  | lapse id => exact h.execLapse ht

/-! ## The two ways down (R78) -/

/-- RESET PART as its answer leaves the stage: as it was where it is refused, else NONE with no cause (R81, R175). -/
theorem takeResetPart_stage (u : Unit) (s : State) :
    (takeResetPart u s).state.brs = s.brs ∨
      (takeResetPart u s).state.brs.stage = .none ∧ (takeResetPart u s).state.brs.causes = [] := by
  unfold takeResetPart
  split
  · exact .inl rfl
  · split
    · exact .inl rfl
    · exact .inr ⟨rfl, rfl⟩

/-- A reset leaves the stage as it is, where it is a RESET PART that is not taken, or NONE with no cause (R81). -/
theorem exec_reset_stage {c : Instr} (hr : isReset c = true) (ht : exec c s = .next t) :
    t.brs.stage = s.brs.stage ∨ t.brs.stage = .none ∧ t.brs.causes = [] := by
  cases c with
  | powerOnReset | resetPinReleased =>
    cases ht
    exact .inr ⟨rfl, rfl⟩
  | pinReset released =>
    cases released with
    | true =>
      cases ht
      exact .inr ⟨rfl, rfl⟩
    | false => cases hr
  | resetPart st p =>
    obtain hkept | ⟨u, -, rfl⟩ := request_cases ht
    · exact .inl (by rw [hkept])
    · obtain hkept | hnone := takeResetPart_stage u s
      · exact .inl (by simp [hkept])
      · exact .inr (by simpa using hnone)
  | _ => cases hr

@[simp] theorem clearStage_stage (s : State) : (clearStage s).brs.stage = .none := by
  unfold clearStage
  dsimp only
  split <;> simp

@[simp] theorem clearStage_causes (s : State) : (clearStage s).brs.causes = [] := by
  unfold clearStage
  dsimp only
  split <;> simp

/-- What CLEAR BRAKE can do: leave the state as it is, or clear the stage at confirmed standstill (R79, R80). -/
theorem takeClearBrake_cases (st : Station) (s : State) :
    (takeClearBrake st s).state = s ∨
      s.psu.still = true ∧ takeClearBrake st s = accept (.stage .none) (clearStage s) := by
  unfold takeClearBrake
  split
  · exact .inl rfl
  · split
    · exact .inl rfl
    · split
      · exact .inl rfl
      next hstill =>
        split
        · exact .inl rfl
        · exact .inr ⟨by simpa using hstill, by simp⟩

theorem exec_clearBrake_stage {st : Station} {p : Payload Unit} (ht : exec (.clearBrake st p) s = .next t) :
    t.brs.stage = s.brs.stage ∨
      t.brs.stage = .none ∧ t.brs.causes = [] ∧ p = .fields () ∧ Replied .clearBrake st .ok (.stage .none) t ∧
        s.psu.still = true := by
  obtain hkept | ⟨f, rfl, rfl⟩ := request_cases ht
  · exact .inl (by rw [hkept])
  · obtain hkept | ⟨hstill, hcleared⟩ := takeClearBrake_cases st s
    · exact .inl (by simp [hkept])
    · exact .inr ⟨by simp [hcleared], by simp [hcleared], rfl, by simp [hcleared, accept], hstill⟩

/-- Settles O27: every command but a reset and CLEAR BRAKE keeps the stage at least as high as it was, and these two let
it fall only to NONE. -/
theorem stageFallsOnlyByClear : Obligations.StageFallsOnlyByClear := by
  intro c s t ht hlt
  have hne : t.brs.stage ≠ s.brs.stage := fun he => absurd hlt (by simp [he])
  by_cases hr : isReset c = true
  · obtain ⟨hstage, hcauses⟩ := (exec_reset_stage hr ht).resolve_left hne
    exact ⟨hstage, hcauses, .inl hr⟩
  · by_cases hc : ∃ st p, c = .clearBrake st p
    · obtain ⟨st, p, rfl⟩ := hc
      obtain ⟨hstage, hcauses, rfl, hreply, hstill⟩ := (exec_clearBrake_stage ht).resolve_left hne
      exact ⟨hstage, hcauses, .inr ⟨st, rfl, hreply, hstill⟩⟩
    · have hkept : StageAtLeast s.brs.stage.rank t :=
        exec_stageAtLeast (by simpa using hr) (fun st p he => hc ⟨st, p, he⟩) (Nat.le_refl _) ht
      exact absurd hlt (Nat.not_lt.mpr hkept)

end Sys2Proof.Machine
end

section
/-! O42 (section 7.8, R139): CLEAR UNCOUNTED. The request reaches the admission unit from CON alone; there one equation
per branch of `takeClearUncounted` says what it answers, and one per target what `zeroUncounted` writes. -/

namespace Sys2Proof.Machine

variable {α : Type} {r : Request} {st : Station} {body : α → State → Answer} {s : State}

/-! ## The role check -/

/-- A request that CON alone may send is refused any other station, with nothing changed (R155). -/
theorem request_notCon (p : Payload α) (hperm : (catalogue r).permit = .con) (hreset : s.pins.resetLow = false)
    (hst : st ≠ .con) :
    ∃ t, request r st p body s = .next t ∧ Replied r st (.refused .notYours) (refusalData r s) t ∧ KeepsBut [] s t := by
  have hp : permitted (catalogue r).permit st = false := by simp [hperm, permitted, hst]
  exact ⟨_, request_notYours body p hreset hp, by simp [refuse], by simp [KeepsBut.refl]⟩

theorem heard_clearUncounted_con (hreset : s.pins.resetLow = false) : Heard .clearUncounted .con s := ⟨hreset, rfl⟩

/-! ## What the admission unit answers -/

theorem takeClearUncounted_unlisted (code : Nat) (s : State) :
    takeClearUncounted (.unlisted code) s = ⟨s, .refused .badValue, .nothing⟩ := rfl

theorem takeClearUncounted_protected (target : UncountedTarget) (h : flagProtection s = true) :
    takeClearUncounted (.listed target) s = ⟨s, .refused .flagProtected, .nothing⟩ := by
  simp [takeClearUncounted, h, deny, refuse]

theorem takeClearUncounted_unprotected (target : UncountedTarget) (h : flagProtection s = false) :
    takeClearUncounted (.listed target) s = accept .nothing (zeroUncounted target s) := by
  simp [takeClearUncounted, h]

/-! ## What zeroing a count writes -/

theorem zeroUncounted_car_adm (c : Car) (s : State) :
    (zeroUncounted (.car c) s).adm =
      { s.adm with loads := s.adm.loads.set c { s.adm.loads.get c with uncounted := 0 } } := rfl

theorem zeroUncounted_board_adm (b : Berth) (s : State) :
    (zeroUncounted (.board b) s).adm = { s.adm with uncounted := s.adm.uncounted.set b 0 } := rfl

theorem keepsBut_zeroUncounted (target : UncountedTarget) (s : State) : KeepsBut [.adm] s (zeroUncounted target s) := by
  simp [keepsBut_iff]

/-! ## The request -/

/-- A CLEAR UNCOUNTED of CON that flag protection does not stop: OK, with the admission unit as `zeroUncounted` leaves
it and every other part as it was. -/
theorem exec_clearUncounted_accepted (target : UncountedTarget) (hreset : s.pins.resetLow = false)
    (h : flagProtection s = false) :
    ∃ t, exec (.clearUncounted .con (.fields (.listed target))) s = .next t ∧
      Replied .clearUncounted .con .ok .nothing t ∧ t.adm = (zeroUncounted target s).adm ∧ KeepsBut [.adm] s t := by
  have ha := takeClearUncounted_unprotected target h
  exact ⟨_, request_fields takeClearUncounted (heard_clearUncounted_con hreset) _, by simp [ha, accept], by simp [ha],
    by simp [ha, keepsBut_zeroUncounted]⟩

/-- Settles O42: the role check, then the branches of `takeClearUncounted` one by one. -/
theorem clearUncountedRule : Obligations.ClearUncountedRule := by
  refine ⟨fun st p s hreset hst => ?notCon, fun code s hreset => ?unlisted, fun target s hreset h => ?guarded,
    fun c s hreset h => ?car, fun b s hreset h => ?board⟩
  case notCon => exact request_notCon p rfl hreset hst
  case unlisted => exact request_refused _ (heard_clearUncounted_con hreset) _ (takeClearUncounted_unlisted code s)
  case guarded => exact request_refused _ (heard_clearUncounted_con hreset) _ (takeClearUncounted_protected target h)
  case car => exact zeroUncounted_car_adm c s ▸ exec_clearUncounted_accepted (.car c) hreset h
  case board => exact zeroUncounted_board_adm b s ▸ exec_clearUncounted_accepted (.board b) hreset h

end Sys2Proof.Machine
end

section
/-! O13 (section 10.3, R174): the reset cause set. Of a reset only the notice unit's own change matters here, since the
other blocks' reset states leave that unit as it is; RESET CAUSE READ then has one equation per branch of
`takeResetCauseRead`. -/

namespace Sys2Proof.Machine

variable {s : State}

/-! ## The notice unit through a reset (R176) -/

@[simp] theorem resetBlocks_niu (s : State) : (resetBlocks s).niu = s.niu := rfl

@[simp] theorem resetCleared_niu (s : State) : (resetCleared s).niu = s.niu := rfl

@[simp] theorem keepIncidents_resetCauses (causes : ResetCauses) (n : Niu) :
    (keepIncidents causes n).resetCauses = causes := rfl

@[simp] theorem pinReset_resetCauses (s : State) :
    (pinReset s).niu.resetCauses = { s.niu.resetCauses with pin := true } := by
  simp [pinReset]

@[simp] theorem resetPart_resetCauses (s : State) :
    (resetPart s).niu.resetCauses = { s.niu.resetCauses with console := true } := by
  simp [resetPart]

/-! ## What RESET PART and RESET CAUSE READ answer -/

/-- RESET PART on a CLOSED line at confirmed standstill passes both its checks (R175). -/
theorem takeResetPart_accepted (hline : s.lsu.line = .closed) (hstill : s.psu.still = true) :
    takeResetPart () s = accept .nothing (resetPart s) := by
  simp [takeResetPart, hline, hstill]

theorem takeResetCauseRead_protected (h : flagProtection s = true) :
    takeResetCauseRead () s = ⟨s, .refused .flagProtected, .resetCauses s.niu.resetCauses⟩ := by
  simp [takeResetCauseRead, h, refuse]

theorem takeResetCauseRead_unprotected (h : flagProtection s = false) :
    takeResetCauseRead () s =
      accept (.resetCauses s.niu.resetCauses) (s.onNiu fun n => { n with resetCauses := ⟨false, false, false⟩ }) := by
  simp [takeResetCauseRead, h]

/-- The reset cause set is a part of the frame on its own: writing it leaves the rest of the notice unit. -/
theorem keepsBut_setResetCauses (causes : ResetCauses) (s : State) :
    KeepsBut [.resetCauses] s (s.onNiu fun n => { n with resetCauses := causes }) := by
  simp [keepsBut_iff]

/-! ## The two requests of CON -/

theorem exec_resetPart_resetCauses (hreset : s.pins.resetLow = false) (hline : s.lsu.line = .closed)
    (hstill : s.psu.still = true) :
    ∃ t, exec (.resetPart .con (.fields ())) s = .next t ∧
      t.niu.resetCauses = { s.niu.resetCauses with console := true } := by
  have ha := takeResetPart_accepted hline hstill
  exact ⟨_, request_fields takeResetPart ⟨hreset, rfl⟩ _, by simp [ha]⟩

theorem exec_resetCauseRead_unprotected (hreset : s.pins.resetLow = false) (h : flagProtection s = false) :
    ∃ t, exec (.resetCauseRead .con (.fields ())) s = .next t ∧
      Replied .resetCauseRead .con .ok (.resetCauses s.niu.resetCauses) t ∧
      t.niu.resetCauses = { power := false, pin := false, console := false } ∧ KeepsBut [.resetCauses] s t := by
  have ha := takeResetCauseRead_unprotected h
  exact ⟨_, request_fields takeResetCauseRead ⟨hreset, rfl⟩ _, by simp [ha, accept], by simp [ha],
    by simp [ha, keepsBut_setResetCauses]⟩

/-- Settles O13: what each reset writes to the set, then the role check and the two branches of `takeResetCauseRead`. -/
theorem resetCausesRule : Obligations.ResetCausesRule := by
  refine ⟨fun s => ?powerOn, fun s => ?pinPulse, fun s _ => ?pinReleased, fun s hreset hline hstill => ?part,
    fun s => ?record, fun st s hreset hst => ?notCon, fun s hreset h => ?unguarded, fun s hreset h => ?guarded⟩
  case powerOn => exact ⟨_, rfl, by simp [niuPowerOn]⟩
  case pinPulse => exact ⟨_, rfl, pinReset_resetCauses s⟩
  case pinReleased => exact ⟨_, rfl, pinReset_resetCauses s⟩
  case part => exact exec_resetPart_resetCauses hreset hline hstill
  case record => rfl
  case notCon => exact request_notCon (.fields ()) rfl hreset hst
  case unguarded => exact exec_resetCauseRead_unprotected hreset h
  case guarded => exact request_refused _ ⟨hreset, rfl⟩ _ (takeResetCauseRead_protected h)

end Sys2Proof.Machine
end

section
/-! What a change of trip state writes, field by field (section 5.6): the fields that the frame lemma of `setTripState`
leaves open. -/

namespace Sys2Proof.Machine

variable (new : TripState) (s : State)

/-! ## The trip controller and the interlock -/

@[simp] theorem setTripState_minDwell :
    (setTripState new s).trc.minDwell = if isDwell new then s.trc.minDwell else none := by
  simp only [setTripState, noteWindows_frame, admOnTrip_frame, driOnTrip_frame, clcOnTrip_frame, psuOnTrip_frame,
    brsOnTrip_frame, trcOnTrip, State.onTrc_trc]

@[simp] theorem setTripState_settleTimer :
    (setTripState new s).trc.settleTimer = if new = .settle then s.trc.settleTimer else none := by
  simp only [setTripState, noteWindows_frame, admOnTrip_frame, driOnTrip_frame, clcOnTrip_frame, psuOnTrip_frame,
    brsOnTrip_frame, trcOnTrip, State.onTrc_trc]

/-- The peak speed and the least margin start afresh at RELEASE; no other field of the trip record changes (R58). -/
theorem setTripState_trip :
    (setTripState new s).trc.trip =
      if new = .release then { s.trc.trip with peak := some 0, margin := none } else s.trc.trip := by
  simp only [setTripState, noteWindows_frame, admOnTrip_frame, driOnTrip_frame, clcOnTrip]
  split <;> simp

theorem setTripState_dri : (setTripState new s).dri = (driOnTrip new s).dri := by
  simp [setTripState, driOnTrip, State.params, timer]

theorem setTripState_adm : (setTripState new s).adm = (admOnTrip s.trc.state new s).adm := by
  simp [setTripState, admOnTrip]

theorem setTripState_psu : (setTripState new s).psu = (psuOnTrip s.trc.state new s).psu := by
  simp [setTripState, psuOnTrip]

/-! ## The brakes -/

theorem setTripState_brs : (setTripState new s).brs = (brsOnTrip new (trcOnTrip new s)).brs := by
  simp [setTripState]

@[simp] theorem setTripState_refreshTimer :
    (setTripState new s).brs.refreshTimer =
      if new = .release then timer s s.params.tDrv else if isPowered new then s.brs.refreshTimer else none := by
  simp [setTripState_brs, brsOnTrip, timer, State.params]

@[simp] theorem setTripState_releaseWait :
    (setTripState new s).brs.releaseWait =
      if new = .release ∧ s.brs.stage = .none then timer s s.params.brkFbTmo else none := by
  simp [setTripState_brs, brsOnTrip, timer, State.params]

end Sys2Proof.Machine
end

section
/-! What a command can do to the part, said once. `Quiet` is a change that no invariant minds: positions, speeds, marks and
timers that stop. `Move` is one change of a shared operation, with what its caller has checked of the state before it.
Every command but a reset, a request on the line state and a request on notices or snapshots is a chain of moves. -/

namespace Sys2Proof.Machine

/-- A change of what no invariant reads, or that only lets a timer stop, a release end or a count saturate. -/
structure Quiet (s t : State) : Prop where
  pending       : t.pending = s.pending
  now           : s.now ≤ t.now
  cfg           : t.cfg = s.cfg
  cru           : t.cru = s.cru
  lbp           : t.lbp = s.lbp
  line          : t.lsu.line = s.lsu.line
  notices       : t.niu.notices = s.niu.notices
  incidents     : t.niu.incidents = s.niu.incidents
  overflow      : t.niu.overflow = s.niu.overflow
  seq           : t.niu.seq = s.niu.seq
  still         : t.psu.still = s.psu.still
  stillCount    : t.psu.stillCount = s.psu.stillCount
  mismatch      : t.psu.mismatch = s.psu.mismatch
  ceiling       : t.clc.c = s.clc.c
  warn          : t.clc.w1 = s.clc.w1
  service       : t.clc.s = s.clc.s
  emergency     : t.clc.e = s.clc.e
  stage         : t.brs.stage = s.brs.stage
  causes        : t.brs.causes = s.brs.causes
  drivePermit   : t.brs.drivePermit = s.brs.drivePermit
  sbHoldoff     : t.brs.sbHoldoff = s.brs.sbHoldoff
  ebHoldoff     : t.brs.ebHoldoff = s.brs.ebHoldoff
  sbFb          : t.brs.sbFb = s.brs.sbFb
  ebFb          : t.brs.ebFb = s.brs.ebFb
  refresh       : t.brs.refreshTimer.isSome = true → s.brs.refreshTimer.isSome = true ∨ isPowered s.trc.state = true
  releaseWait   : t.brs.releaseWait.isSome = true → s.brs.releaseWait.isSome = true
  sbApply       : t.brs.sbApply.isSome = true → s.brs.sbApply.isSome = true
  ebApply       : t.brs.ebApply.isSome = true → s.brs.ebApply.isSome = true
  effectiveness : t.brs.effectiveness.isSome = true → s.brs.effectiveness.isSome = true
  overspeed     : t.brs.overspeedCount ≤ 2 ∨ t.brs.overspeedCount = s.brs.overspeedCount
  state         : t.trc.state = s.trc.state
  slot0         : t.trc.slot0 = s.trc.slot0
  slot1         : t.trc.slot1 = s.trc.slot1
  origin        : t.trc.trip.origin = s.trc.trip.origin
  minDwell      : t.trc.minDwell.isSome = true → s.trc.minDwell.isSome = true ∧ t.trc.elapsed = s.trc.elapsed
  settle        : t.trc.settleTimer.isSome = true → s.trc.settleTimer.isSome = true ∨ s.trc.state = .settle
  evac          : ∀ c, t.dri.evac.get c = true → s.dri.evac.get c = true
  maint         : ∀ c d, (t.dri.maint.get c).get d = true → (s.dri.maint.get c).get d = true
  lead          : t.dri.leadTimer.isSome = true → s.dri.leadTimer.isSome = true ∧ t.dri.phase = s.dri.phase
  doorClose     : t.dri.doorTimer.isSome = true → s.dri.doorTimer.isSome = true
  lanes         : t.adm.lanes = s.adm.lanes
  reservations  : t.adm.reservations = s.adm.reservations
  loads         : t.adm.loads = s.adm.loads
  uncounted     : t.adm.uncounted = s.adm.uncounted

/-- Each trip state on the way from CLOSING to ARRIVING and the one it goes on to (R97 to R101). -/
def follows : TripState → TripState → Bool
  | .closing _, .doors => true
  | .doors, .settle => true
  | .settle, .release => true
  | .release, .running => true
  | .running, .arriving => true
  | _, _ => false

/-- A trip may start here towards trip state `new` (R93, R95, R105): no stage stands, and the line dwells at the origin, or
stands on the line with none. -/
def Starts (s : State) (origin : Option Stop) (new : TripState) : Prop :=
  s.brs.stage = .none ∧
    ((∃ k, s.trc.state = .dwell k ∧ origin = some k ∧ new = if s.lsu.line = .inService then .closing k else .doors) ∨
      (s.trc.state = .stoppedOnLine ∧ origin = none ∧ new = .doors))

/-- A profile table in order and within its size (R9). -/
def ProfileOk (l : List Segment) : Prop := l.Pairwise (fun t u => t.start < u.start) ∧ l.length ≤ Config.profileMax

/-- A marker table in order and within its size (R11). -/
def MarkersOk (l : List Nat) : Prop := l.Pairwise (· < ·) ∧ l.length ≤ Config.markerMax

/-- One change of a shared operation. -/
inductive Move (s : State) : State → Prop
  | quiet {t : State} (h : Quiet s t) : Move s t
  -- notices, incidents, causes
  | hand (k : NoticeKind) (d : NoticeDetail) (sts : List Station) : Move s (hand k d sts s)
  | capture (cause : IncidentCause) : Move s (capture cause s)
  | markIncident (seq : Int) (f : Incident → Incident) : Move s (onIncident seq f s)
  | raise (c : Cause) (d : Detail) : Move s (raiseCause c d s)
  -- car reports
  | poll (c : Car) (p : Poll) : Move s (updateOutputs (storePoll c p s))
  | stale (c : Car) : Move s (updateOutputs (s.onCru fun r => r.set c { r.get c with fresh := false }))
  | alarm (c : Car) (v : Bool) : Move s (setLatch c v s)
  -- position and speed
  | stillCount (n : Nat) (h : n ≤ Config.stillMax) : Move s (s.onPsu fun u => { u with stillCount := n })
  | confirmStill : Move s (confirmStill s)
  | loseStill : Move s (s.onPsu fun u => { u with still := false })
  | mismatch (c : Car) (n : Nat) (h : n ≤ Config.mismatchMax) :
      Move s (s.onPsu fun u => { u with mismatch := u.mismatch.set c n })
  | ceiling (c : Nat) (hc : s.cfg.committed = true) (hlo : s.params.vcreep ≤ c)
      (hhi : c ≤ max s.params.vcreep (max s.params.vinsp (max s.params.vred s.params.vmax))) : Move s (setCeiling c s)
  -- brakes
  | feedback (b : Brake) (level : Feedback) : Move s (timerAtFeedback b level (s.onBrs fun r => r.setFb level b))
  | clear : Move s (clearStage s)
  -- the trip and its slots
  | slot (id : SlotId) (v : Slot) (hv : v.name ≠ .inFlight) (hs : (slotOf s id).name ≠ .inFlight) : Move s (setSlot id v s)
  | advance (new : TripState) (h : follows s.trc.state new = true)
      (hr : isClosing s.trc.state = true → s.adm.reservations = []) : Move s (setTripState new s)
  | start (id : SlotId) (r : TripReq) (dest : Stop) (origin : Option Stop) (new : TripState) (h : Starts s origin new) :
      Move s (setTripState new (beginTrip id r dest origin s))
  | abort (cause : AbortCause) (h : cancellable s.trc.state = true) : Move s (abortTrip cause s)
  | complete (h : s.trc.state = .arriving) : Move s (completeTrip s)
  -- lanes, reservations and loads
  | lane (id : LaneId) (f : LaneOp → LaneOp) (hid : ∀ o, (f o).id = o.id)
      (hl : ∀ o, (f o).lapses ≤ Config.lapseMax ∨ (f o).lapses = o.lapses) : Move s (onLane id f s)
  | grant (l : Lane) (c : Car) (h : admitCheck s l = .ok c) : Move s (grant l c s)
  | drop (id : LaneId) : Move s (dropReservation id s)
  | board (l : Lane) (r : Reservation) (h : reservationOf s l.id = some r) :
      Move s (onLoad r.car (fun x => { x with aboard := x.aboard + 1 }) (dropReservation l.id s))
  | load (c : Car) (f : Load → Load) (hm : ∀ x, (f x).alarmMirror = x.alarmMirror)
      (hu : (f (s.adm.loads.get c)).uncounted ≤ Config.count255 ∨
        (f (s.adm.loads.get c)).uncounted = (s.adm.loads.get c).uncounted)
      (ha : (f (s.adm.loads.get c)).aboard ≤ (s.adm.loads.get c).aboard ∨
        (f (s.adm.loads.get c)).aboard + reservedFor s c ≤ s.params.capacity) : Move s (onLoad c f s)
  | waiting (b : Berth) (n : Nat) (h : n ≤ Config.count255) :
      Move s (s.onAdm fun a => { a with uncounted := a.uncounted.set b n })
  -- the configuration store
  | number (p : NumParam) (v : Int) (h : p ≠ .tCar) :
      Move s (uncommit (s.onCfg fun c =>
        { c with params := c.params.put (clampNat (paramRow p).lo (paramRow p).hi v) p }))
  | reportTime (v : Int) (ha : staleDue s .a = false) (hb : staleDue s .b = false) :
      Move s (s.onCfg fun c =>
        { c with params := c.params.put (clampNat (paramRow .tCar).lo (paramRow .tCar).hi v) .tCar })
  | choice (q : Params) (h : ∀ p, q.get p = s.params.get p) : Move s (uncommit (s.onCfg fun c => { c with params := q }))
  | doorSide (f : PerPlatform Side) : Move s (uncommit (s.onCfg fun c => { c with doorSide := f }))
  | profile (l : List Segment) (h : ProfileOk s.cfg.profile → ProfileOk l) :
      Move s (uncommit (s.onCfg fun c => { c with profile := l }))
  | markers (l : List Nat) (h : MarkersOk s.cfg.markers → MarkersOk l) :
      Move s (uncommit (s.onCfg fun c => { c with markers := l }))
  | putLane (l : Lane) : Move s (uncommit (putLane l s))
  | dropLane (id : LaneId) : Move s (uncommit (dropLane id s))
  | uncommit : Move s (uncommit s)
  | commit (hline : s.lsu.line = .closed) (h : commitFailure s = none) :
      Move s (s.onCfg fun c => { c with committed := true })

/-- A chain of moves. -/
def Moves (s t : State) : Prop := Relation.ReflTransGen Move s t


variable {s t : State}

namespace Moves

theorem refl (s : State) : Moves s s := Relation.ReflTransGen.refl

theorem tail {u : State} (h : Moves s t) (m : Move t u) : Moves s u := Relation.ReflTransGen.tail h m

theorem quiet {u : State} (h : Moves s t) (q : Quiet t u) : Moves s u := h.tail (.quiet q)

theorem trans {u : State} (h : Moves s t) (h' : Moves t u) : Moves s u := Relation.ReflTransGen.trans h h'

theorem ite {u : State} {p : Prop} [Decidable p] (ht : p → Moves s t) (hu : ¬ p → Moves s u) : Moves s (if p then t else u) := by
  split
  next hp => exact ht hp
  next hp => exact hu hp

theorem raiseCause (h : Moves s t) (c : Cause) (d : Detail) : Moves s (raiseCause c d t) := h.tail (.raise c d)

theorem hand (h : Moves s t) (k : NoticeKind) (d : NoticeDetail) (sts : List Station) : Moves s (hand k d sts t) :=
  h.tail (.hand k d sts)

/-! ### From CLOSING to RUNNING -/

theorem dragCheck (h : Moves s t) (b : Brake) (fb : Feedback) : Moves s (dragCheck b fb t) :=
  ite (fun _ => h.raiseCause _ _) (fun _ => h)

theorem enterRunning (h : Moves s t) (hs : t.trc.state = .release) : Moves s (enterRunning t) := by
  have h1 : Moves s (setTripState .running t) := h.tail (.advance _ (by simp [hs, follows]) (by simp [hs, isClosing]))
  exact (h1.dragCheck .service _).dragCheck .emergency _

theorem checkReleased (h : Moves s t) : Moves s (checkReleased t) :=
  ite (fun hs => h.enterRunning hs.1) (fun _ => h)

theorem silentCheck (h : Moves s t) (c : Car) : Moves s (silentCheck c t) := ite (fun _ => h) (fun _ => h.raiseCause _ _)

theorem doorCheckSide (h : Moves s t) (c : Car) (d : Side) : Moves s (doorCheckSide c d t) :=
  ite (fun _ => h) (fun _ => h.raiseCause _ _)

theorem doorCheck (h : Moves s t) (c : Car) : Moves s (doorCheck c t) :=
  ite (fun _ => (h.doorCheckSide c .left).doorCheckSide c .right) (fun _ => h)

theorem enterRelease (h : Moves s t) (hs : t.trc.state = .settle) : Moves s (enterRelease t) := by
  have h1 : Moves s (setTripState .release t) := h.tail (.advance _ (by simp [hs, follows]) (by simp [hs, isClosing]))
  exact ((((h1.silentCheck .a).silentCheck .b).doorCheck .a).doorCheck .b).checkReleased

theorem enterSettle (h : Moves s t) (hs : t.trc.state = .doors) : Moves s (enterSettle t) := by
  have h1 : Moves s (setTripState .settle t) := h.tail (.advance _ (by simp [hs, follows]) (by simp [hs, isClosing]))
  refine ite (fun _ => enterRelease (h1.quiet ?_) (by simp)) (fun _ => h1.quiet ?_)
  all_goals constructor <;> simp +contextual

theorem checkDoors (h : Moves s t) : Moves s (checkDoors t) := ite (fun hs => h.enterSettle hs.1) (fun _ => h)

theorem reservationsEmpty (h : Moves s t) : Moves s (reservationsEmpty t) := by
  unfold Machine.reservationsEmpty
  split
  next hs =>
    refine ite (fun hr => checkDoors (h.tail (.advance _ (by simp [hs, follows]) fun _ => ?_))) (fun _ => h)
    simpa using hr
  next => exact h

/-! ### Starts, triggers and aborts -/

theorem stage_of_preconditions {owner : Owner} {mode : Mode} (h : preconditions t owner mode = none) :
    t.brs.stage = .none := by
  unfold preconditions at h
  by_contra hs
  simp only [hs, ne_eq, not_false_eq_true, if_true] at h
  split at h <;> cases h

theorem stage_of_departureTest {id : SlotId} {r : TripReq} {k : Stop} (h : departureTest t id r k = none) :
    t.brs.stage = .none := by
  unfold departureTest at h
  split at h
  · cases h
  next hp => exact stage_of_preconditions hp

theorem startFromStop (h : Moves s t) {id : SlotId} {r : TripReq} {k : Stop} (hs : t.trc.state = .dwell k)
    (ht : departureTest t id r k = none) : Moves s (startFromStop id r k t) := by
  have hstart : Starts t (some k) (if t.lsu.line = .inService then .closing k else .doors) :=
    ⟨stage_of_departureTest ht, .inl ⟨k, hs, rfl, rfl⟩⟩
  have h1 := h.tail (.start id r (resolve t.params t.trc.trip.lastDir k r.dest) _ _ hstart)
  unfold Machine.startFromStop
  simp only [beginTrip_frame]
  split
  next hl => rw [if_pos hl] at h1; exact h1.reservationsEmpty
  next hl => rw [if_neg hl] at h1; exact h1.checkDoors

theorem startFromLine (h : Moves s t) {id : SlotId} {r : TripReq} (dest : Stop) (hs : t.trc.state = .stoppedOnLine)
    (ht : lineTest t id r = none) : Moves s (startFromLine id r dest t) := by
  have hstage : t.brs.stage = .none := by
    unfold lineTest at ht
    split at ht
    · exact stage_of_preconditions ht
    · cases ht
  exact checkDoors (h.tail (.start id r dest none .doors ⟨hstage, .inr ⟨hs, rfl, rfl⟩⟩))

theorem refuseTrigger (h : Moves s t) (id : SlotId) (why : TriggerRefusal) : Moves s (refuseTrigger id why t) :=
  h.hand .triggerRefused (.refused id why) [(ownerOf t id).station]

theorem dropPending (h : Moves s t) {id : SlotId} {r : TripReq} (hs : slotOf t id = .pending r) (why : TriggerRefusal) :
    Moves s (dropPending id r why t) := by
  refine refuseTrigger (h.tail (.slot id _ ?_ (by simp [hs, Slot.name]))) id why
  split <;> simp [Slot.name]

theorem stopPending (h : Moves s t) (id : SlotId) : Moves s (stopPending id t) := by
  unfold Machine.stopPending
  split
  next hs => exact h.dropPending hs _
  next => exact h

theorem testPending (h : Moves s t) (id : SlotId) : Moves s (testPending id t) := by
  unfold Machine.testPending
  split
  next hs hd =>
    refine ite (fun _ => ?_) (fun _ => h)
    split
    next ht => exact h.startFromStop hd ht
    next => exact h.dropPending hs _
  next => exact h

theorem pendingsAfterAbort (h : Moves s t) : Moves s (pendingsAfterAbort t) :=
  ite (fun _ => (h.stopPending .slot0).stopPending .slot1) (fun _ => (h.testPending .slot0).testPending .slot1)

theorem abortAndTest (h : Moves s t) {cause : AbortCause} (hs : cancellable t.trc.state = true) :
    Moves s (abortAndTest cause t) :=
  (h.tail (.abort cause hs)).pendingsAfterAbort

theorem takeTrigger (h : Moves s t) {id : SlotId} {r : TripReq} (hs : slotOf t id = .armed r) :
    Moves s (takeTrigger id r t) := by
  have hp : Moves s (setSlot id (.pending r) t) := h.tail (.slot id _ (by simp [Slot.name]) (by simp [hs, Slot.name]))
  unfold Machine.takeTrigger
  split
  · exact h
  next hd =>
    refine ite (fun _ => ?_) (fun _ => hp)
    split
    next ht => exact h.startFromStop hd ht
    next => exact h.refuseTrigger id _
  · split
    · exact h
    · exact h.refuseTrigger id _
  · exact ite (fun _ => h.hand .triggerIgnored _ [_]) (fun _ => hp)

theorem takeEvent (h : Moves s t) (e : Trigger) (id : SlotId) : Moves s (takeEvent e id t) := by
  unfold Machine.takeEvent
  split
  next hs => exact ite (fun _ => h.takeTrigger hs) (fun _ => h)
  next => exact h

theorem atDwellExpiry (h : Moves s t) (id : SlotId) : Moves s (atDwellExpiry id t) := by
  unfold Machine.atDwellExpiry
  split
  next hs => exact ite (fun _ => h.takeTrigger hs) (fun _ => h)
  next => exact h.testPending id
  next => exact h

theorem takeImmediate {u : State} (h : Moves s t) {id : SlotId} {r : TripReq} (hs : (slotOf t id).name ≠ .inFlight)
    (ht : takeImmediate id r t = .ok u) : Moves s u := by
  have hp : Moves s (setSlot id (.pending r) t) := h.tail (.slot id _ (by simp [Slot.name]) hs)
  unfold Machine.takeImmediate at ht
  repeat' split at ht
  all_goals cases ht
  next hd _ _ htest => exact h.startFromStop hd htest
  next => exact hp
  next hd _ _ _ htest _ => exact h.startFromLine _ hd htest
  next => exact hp

end Moves

end Sys2Proof.Machine
end

section
/-! The commands as chains of moves: the timers' expiries, the speed sample, the polls, the gates and the store. -/

namespace Sys2Proof.Machine

variable {s t : State}

namespace Moves

/-! ### The expiries and the feedback of a brake -/

theorem advanceTo (h : Moves s t) (time : Nat) : Moves s (advanceTo time t) :=
  h.quiet (by constructor <;> simp +contextual)

theorem dwellElapsed (h : Moves s t) : Moves s (dwellElapsed t) := by
  have h1 : Moves s (t.onTrc fun r => { r with minDwell := none, elapsed := true }) :=
    h.quiet (by constructor <;> simp +contextual)
  exact (h1.atDwellExpiry .slot0).atDwellExpiry .slot1

theorem settled (h : Moves s t) : Moves s (settled t) := by
  have h1 : Moves s (t.onTrc fun r => { r with settleTimer := none }) := h.quiet (by constructor <;> simp +contextual)
  exact ite (fun hs => h1.enterRelease hs) (fun _ => h1)

theorem notReleased (h : Moves s t) : Moves s (notReleased t) := by
  have h1 : Moves s (t.onBrs fun b => { b with releaseWait := none }) := h.quiet (by constructor <;> simp +contextual)
  exact ite (fun hs => h1.abortAndTest (by rw [hs]; rfl)) (fun _ => h1)

theorem doorsTimedOut (h : Moves s t) : Moves s (doorsTimedOut t) := by
  have h1 : Moves s (t.onDri fun d => { d with doorTimer := none }) := h.quiet (by constructor <;> simp +contextual)
  exact ite (fun hs => h1.abortAndTest (by rw [hs]; rfl)) (fun _ => h1)

theorem driveSilent (h : Moves s t) : Moves s (driveSilent t) :=
  raiseCause (h.quiet (by constructor <;> simp +contextual)) _ _

theorem notApplied (h : Moves s t) (b : Brake) (timer : Timer) : Moves s (notApplied b timer t) := by
  refine raiseCause (h.quiet ?_) _ _
  cases b <;> constructor <;> simp +contextual [Brs.setApply]

theorem takeFeedback (h : Moves s t) (b : Brake) (level : Feedback) : Moves s (takeFeedback b level t) := by
  have h1 : Moves s (Machine.checkReleased (timerAtFeedback b level (t.onBrs fun r => r.setFb level b))) :=
    checkReleased (h.tail (.feedback b level))
  exact ite (fun _ => h1.raiseCause _ _) (fun _ => h1)

theorem heldInput (h : Moves s t) (b : Brake) (level : Feedback) : Moves s (heldInput b level t) :=
  h.quiet (by constructor <;> simp +contextual [Machine.heldInput, Machine.advanceTo])

theorem debounce (h : Moves s t) (v : Bool) : Moves s (debounce v t) := by
  refine h.quiet ?_
  have hn := le_debounce_now t v
  constructor <;> simp +contextual [hn]

/-! ### Windows -/

theorem handTo (h : Moves s t) (k : NoticeKind) (d : NoticeDetail) (st : Station) : Moves s (handTo k d st t) :=
  h.hand k d [st]

theorem noteGate (h : Moves s t) (before after : State) (g : Gate) : Moves s (noteGate before after g t) := by
  have h1 : Moves s (if (newlyOpen before after g).isEmpty then t
      else Machine.handTo .admissionOpen (.platforms (newlyOpen before after g)) (gateStation g) t) :=
    ite (fun _ => h) (fun _ => h.handTo _ _ _)
  exact ite (fun _ => h1) (fun _ => h1.handTo _ _ _)

theorem noteWindows (h : Moves s t) (before : State) : Moves s (noteWindows before t) :=
  ((h.noteGate before t .bot).noteGate before t .mid).noteGate before t .top

theorem leadElapsed (h : Moves s t) : Moves s (leadElapsed t) := by
  have h1 : Moves s (t.onDri fun d => { d with phase := .boarding, leadTimer := none }) :=
    h.quiet (by constructor <;> simp +contextual)
  have h2 : Moves s ((t.onDri fun d => { d with phase := .boarding, leadTimer := none }).onAdm fun a =>
      { a with releaseMark := true }) := h1.quiet (by constructor <;> simp +contextual)
  exact h2.noteWindows _

/-! ### Markers and the speed sample -/

theorem expectBeyond (h : Moves s t) (c : Car) (x : Int) : Moves s (expectBeyond c x t) :=
  h.quiet (by constructor <;> simp +contextual)

theorem setAfresh (h : Moves s t) : Moves s (setAfresh t) := (h.expectBeyond .a _).expectBeyond .b _

theorem setPos (h : Moves s t) (x : Int) : Moves s (setPos x t) := h.quiet (by constructor <;> simp +contextual)

theorem setRef (h : Moves s t) (r : RefState) : Moves s (setRef r t) := h.quiet (by constructor <;> simp +contextual)

theorem missMarker (h : Moves s t) (c : Car) (m : Nat) : Moves s (missMarker c m t) :=
  expectBeyond (ite (fun _ => h.raiseCause _ _) (fun _ => (h.tail (.capture _)).hand _ _ _)) c _

theorem passExpected (h : Moves s t) (c : Car) (m : Nat) : Moves s (passExpected c m t) := by
  unfold Machine.passExpected
  split
  · exact ite (fun _ => h.expectBeyond c _)
      (fun _ => ite (fun _ => (h.missMarker c _).expectBeyond c _) (fun _ => h))
  · exact h

theorem becomeReferenced (h : Moves s t) : Moves s (becomeReferenced t) :=
  ite (fun _ => h.setRef _) (fun _ => (h.setRef _).setAfresh)

theorem markerPass (h : Moves s t) (c : Car) (m : Nat) : Moves s (markerPass c m t) := by
  unfold Machine.markerPass
  dsimp only
  split
  · exact (h.setPos _).setRef _
  · exact ite (fun _ => h.setPos _) (fun _ => ite (fun _ => (h.setPos _).becomeReferenced)
      (fun _ => (h.setPos _).setRef _))
  · exact ite (fun _ => (h.setPos _).passExpected c m) (fun _ => ((h.raiseCause _ _).setPos _).setRef _)

theorem sampleSpeed (h : Moves s t) : Moves s (sampleSpeed t) := h.quiet (by constructor <;> simp +contextual)

theorem updateStill (h : Moves s t) : Moves s (updateStill t) := by
  have hn (n : Nat) (hn : n ≤ Config.stillMax) : Moves s (t.onPsu fun u => { u with stillCount := n }) :=
    h.tail (.stillCount n hn)
  unfold Machine.updateStill
  split
  · have h1 := hn (satAdd Config.stillMax t.psu.stillCount 1) (Nat.min_le_left _ _)
    exact ite (fun _ => h1.tail .confirmStill) (fun _ => h1)
  · have h1 := hn 0 (Nat.zero_le _)
    refine ite (fun _ => ?_) (fun _ => h1)
    have h2 := h1.tail .loseStill
    exact ite (fun _ => h2.setAfresh) (fun _ => h2)

theorem takeFurthest (h : Moves s t) : Moves s (takeFurthest t) := h.quiet (by constructor <;> simp +contextual)

theorem setArmed (h : Moves s t) (m : Monitor) (v : Bool) : Moves s (setArmed m v t) :=
  h.quiet (by constructor <;> simp +contextual)

theorem runMonitor (h : Moves s t) (m : Monitor) : Moves s (runMonitor m t) :=
  ite (fun _ => ite (fun _ => (h.setArmed m false).raiseCause _ _) (fun _ => h)) (fun _ => h.setArmed m true)

theorem checkMissed (h : Moves s t) (c : Car) : Moves s (checkMissed c t) := by
  unfold Machine.checkMissed
  split
  · exact ite (fun _ => h.missMarker c _) (fun _ => h)
  · exact h

theorem runMonitors (h : Moves s t) : Moves s (runMonitors t) := by
  have hm := (((h.takeFurthest.runMonitor .rollback).runMonitor .unintended).runMonitor .overtravel).runMonitor .overshoot
  exact (hm.checkMissed .a).checkMissed .b

/-- The ceiling of a moving trip lies between VCREEP and the greatest of the caps (R54, R55). -/
theorem tripCeiling_bounds (s : State) (dir : TripDir) (tpos : Nat) :
    s.params.vcreep ≤ tripCeiling s dir tpos ∧
      tripCeiling s dir tpos ≤ max s.params.vcreep (max s.params.vinsp (max s.params.vred s.params.vmax)) := by
  have hcap (m : Mode) : modeCap s.params m ≤ max s.params.vinsp (max s.params.vred s.params.vmax) := by
    cases m <;> simp [modeCap]
  have hfold (l : List Nat) (x : Nat) : l.foldr min x ≤ x := by
    induction l with
    | nil => exact Nat.le_refl x
    | cons a l ih => exact Nat.le_trans (Nat.min_le_right _ _) ih
  unfold tripCeiling
  split
  · refine ⟨Nat.le_max_left _ _, max_le_max (Nat.le_refl _) ((hfold _ _).trans ?_)⟩
    exact (Nat.min_le_right _ _).trans ((Nat.min_le_left _ _).trans (hcap _))
  · exact ⟨Nat.le_max_left _ _, max_le_max (Nat.le_refl _) ((Nat.min_le_left _ _).trans (Nat.le_max_left _ _))⟩

theorem recordExtremes (h : Moves s t) : Moves s (recordExtremes t) := h.quiet (by constructor <;> simp +contextual)

theorem sampleCeiling (h : Moves s t) : Moves s (sampleCeiling t) := by
  have hd (d : Option Nat) : Moves s (t.onClc fun k => { k with d := d }) := h.quiet (by constructor <;> simp +contextual)
  unfold Machine.sampleCeiling
  refine ite (fun hc => ite (fun _ => ?_) (fun _ => ?_)) (fun _ => hd _)
  · obtain ⟨hlo, hhi⟩ := tripCeiling_bounds t (t.trc.trip.direction.getD .upA) (t.trc.trip.tpos.getD 0)
    exact recordExtremes ((hd (some _)).tail (.ceiling _ hc hlo hhi))
  · exact (hd _).tail (.ceiling _ hc (Nat.le_refl _) (Nat.le_max_left _ _))

theorem checkE (h : Moves s t) : Moves s (checkE t) := ite (fun _ => h.raiseCause _ _) (fun _ => h)

theorem checkS (h : Moves s t) : Moves s (checkS t) := by
  have h1 (n : Nat) (hn : n ≤ 2) : Moves s (t.onBrs fun b => { b with overspeedCount := n }) :=
    h.quiet (by constructor <;> simp +contextual [hn])
  have h2 := h1 (satAdd 2 t.brs.overspeedCount 1) (Nat.min_le_left _ _)
  exact ite (fun _ => ite (fun _ => h2.raiseCause _ _) (fun _ => h2)) (fun _ => h1 0 (Nat.zero_le _))

theorem checkEffectiveness (h : Moves s t) : Moves s (checkEffectiveness t) := by
  unfold Machine.checkEffectiveness
  split
  · exact h
  · exact ite (fun _ => h.raiseCause _ _) (fun _ => h)

theorem checkWarning (h : Moves s t) : Moves s (checkWarning t) := by
  have h1 (v : Bool) : Moves s (t.onBrs fun b => { b with warnArmed := v }) := h.quiet (by constructor <;> simp +contextual)
  exact ite (fun _ => (h1 false).hand _ _ _) (fun _ => ite (fun _ => h1 true) (fun _ => h))

theorem sampleTrip (h : Moves s t) : Moves s (sampleTrip t) := by
  unfold Machine.sampleTrip
  split
  next hs =>
    split
    · exact ite (fun _ => h.tail (.advance _ (by simp [hs, follows]) (by simp [hs, isClosing]))) (fun _ => h)
    · exact h
  next hs => exact ite (fun _ => h.tail (.complete hs)) (fun _ => h)
  next => exact h

theorem sample (h : Moves s t) : Moves s (sample t) :=
  h.sampleSpeed.updateStill.runMonitors.sampleCeiling.checkE.checkS.checkEffectiveness.checkWarning.sampleTrip

/-! ### Polls and stale reports -/

theorem checkMismatch (h : Moves s t) (c : Car) (p : Poll) : Moves s (checkMismatch c p t) := by
  have h1 := h.tail (.mismatch c (satAdd Config.mismatchMax (t.psu.mismatch.get c) 1) (Nat.min_le_left _ _))
  exact ite (fun _ => ite (fun _ => ite (fun _ => h1.raiseCause _ _) (fun _ => h1))
    (fun _ => h.tail (.mismatch c 0 (Nat.zero_le _)))) (fun _ => h)

theorem makeStale (h : Moves s t) (c : Car) : Moves s (makeStale c t) :=
  ite (fun _ => (h.tail (.stale c)).raiseCause _ _) (fun _ => h.tail (.stale c))

theorem staleIfOld (h : Moves s t) (c : Car) : Moves s (staleIfOld c t) := ite (fun _ => h.makeStale c) (fun _ => h)

theorem settleStale (h : Moves s t) : Moves s (settleStale t) := (h.staleIfOld .a).staleIfOld .b

theorem pollStop (h : Moves s t) (c : Car) (p : Poll) : Moves s (pollStop c p t) := by
  unfold Machine.pollStop
  split
  · exact h
  · exact h.raiseCause _ _
  · exact h.raiseCause _ _

theorem pollMarker (h : Moves s t) (c : Car) (p : Poll) : Moves s (pollMarker c p t) := by
  unfold Machine.pollMarker
  split
  · exact h.markerPass c _
  · exact h

theorem pollDoors (h : Moves s t) (c : Car) : Moves s (pollDoors c t) :=
  ite (fun _ => h.doorCheck c) (fun _ => h.checkDoors)

theorem pollAlarm (h : Moves s t) (c : Car) (p : Poll) : Moves s (pollAlarm c p t) :=
  ite (fun _ => ((h.tail (.alarm c true)).tail (.capture _)).hand _ _ _) (fun _ => h)

theorem takePoll (h : Moves s t) (c : Car) (p : Poll) : Moves s (takePoll c p t) :=
  (((((h.tail (.poll c p)).checkMismatch c p).pollMarker c p).pollDoors c).pollStop c p).pollAlarm c p

/-! ### Lanes, reservations and loads -/

theorem onLane (h : Moves s t) (id : LaneId) (f : LaneOp → LaneOp) (hid : ∀ o, (f o).id = o.id)
    (hl : ∀ o, (f o).lapses ≤ Config.lapseMax ∨ (f o).lapses = o.lapses) : Moves s (onLane id f t) :=
  h.tail (.lane id f hid hl)

theorem handIfEmpty (h : Moves s t) : Moves s (handIfEmpty t) := ite (fun _ => h.reservationsEmpty) (fun _ => h)

theorem passReserved (h : Moves s t) {l : Lane} {r : Reservation} (hr : reservationOf t l.id = some r) :
    Moves s (passReserved l r t) :=
  handIfEmpty ((h.tail (.board l r hr)).onLane _ _ (fun _ => rfl) (fun _ => .inl (Nat.zero_le _)))

theorem countPerson (h : Moves s t) (pf : Platform) : Moves s (countPerson pf t) := by
  unfold Machine.countPerson
  split
  next c hc =>
    refine h.tail (.load c _ (fun _ => rfl) (.inr rfl) (.inr ?_))
    have hroom : hasRoom t c = true := by
      unfold countPlace at hc
      split at hc
      · split at hc
        next hr => cases hc; exact hr
        next => cases hc
      · cases hc
    simp only [hasRoom, decide_eq_true_eq] at hroom
    show (t.adm.loads.get c).aboard + 1 + reservedFor t c ≤ t.params.capacity
    omega
  next c hc => exact h.tail (.load c _ (fun _ => rfl) (.inl (Nat.min_le_left _ _)) (.inl (Nat.le_refl _)))
  next => exact h.tail (.waiting _ _ (Nat.min_le_left _ _))

theorem passLate (h : Moves s t) (l : Lane) : Moves s (passLate l t) :=
  countPerson (h.onLane l.id (fun o => { o with lapsed := false }) (fun _ => rfl) (fun _ => .inr rfl)) _

theorem passUnauthorised (h : Moves s t) (l : Lane) : Moves s (passUnauthorised l t) :=
  hand ((h.countPerson l.platform).onLane l.id (fun o => { o with state := .fault }) (fun _ => rfl) (fun _ => .inr rfl))
    _ _ _

theorem lapse (h : Moves s t) (id : LaneId) : Moves s (lapse id t) := by
  have h1 : Moves s (Machine.onLane id lapseLane (dropReservation id t)) :=
    (h.tail (.drop id)).onLane _ _ (fun _ => rfl) (fun _ => .inl (Nat.min_le_left _ _))
  exact handIfEmpty (ite (fun _ => h1.hand _ _ _) (fun _ => h1))

theorem disable (h : Moves s t) (id : LaneId) : Moves s (disable id t) := by
  have h1 := h.onLane id (fun o => { o with state := .disabled }) (fun _ => rfl) (fun _ => .inr rfl)
  exact ite (fun _ => handIfEmpty ((h1.tail (.drop id)).onLane _ _ (fun _ => rfl) (fun _ => .inr rfl))) (fun _ => h1)

/-! ### Modes -/

theorem evaluateMode (h : Moves s t) : Moves s (evaluateMode t) :=
  ite (fun _ => h) (fun _ => hand (h.quiet (by constructor <;> simp +contextual)) _ _ _)

end Moves

end Sys2Proof.Machine
end

section
/-! What each owning block's answer does, as a chain of moves (Chapters 1 to 10). -/

namespace Sys2Proof.Machine

variable {s t : State}

/-- An insertion at its place keeps a profile table in order and within its size, where it replaces or finds room (R10). -/
theorem profileOk_insert {x : Segment} {l : List Segment}
    (hroom : (l.any fun u => u.start = x.start) = true ∨ l.length < Config.profileMax) (h : ProfileOk l) :
    ProfileOk (insertSegment x l) := by
  have hmem (l : List Segment) : ∀ y ∈ insertSegment x l, y = x ∨ y ∈ l := by
    induction l with
    | nil => simp [insertSegment]
    | cons a l ih =>
      intro y hy
      unfold insertSegment at hy
      split at hy
      · simpa using hy
      · split at hy
        · simp only [List.mem_cons] at hy ⊢; tauto
        · simp only [List.mem_cons] at hy ⊢
          rcases hy with hy | hy
          · tauto
          · rcases ih y hy with h | h <;> tauto
  have hsorted (l : List Segment) (hl : l.Pairwise fun t u => t.start < u.start) :
      (insertSegment x l).Pairwise fun t u => t.start < u.start := by
    induction l with
    | nil => simp [insertSegment]
    | cons a l ih =>
      obtain ⟨ha, hl⟩ := List.pairwise_cons.mp hl
      unfold insertSegment
      split
      next hlt =>
        refine List.pairwise_cons.mpr ⟨fun y hy => ?_, List.pairwise_cons.mpr ⟨ha, hl⟩⟩
        rcases List.mem_cons.mp hy with rfl | hy
        · exact hlt
        · exact hlt.trans (ha y hy)
      next hlt =>
        split
        next heq => exact List.pairwise_cons.mpr ⟨fun y hy => heq ▸ ha y hy, hl⟩
        next hne =>
          refine List.pairwise_cons.mpr ⟨fun y hy => ?_, ih hl⟩
          rcases hmem l y hy with rfl | hy
          · omega
          · exact ha y hy
  have hlength (l : List Segment) : (insertSegment x l).length ≤ l.length + 1 ∧
      ((l.any fun u => u.start = x.start) = true → (l.Pairwise fun t u => t.start < u.start) →
        (insertSegment x l).length = l.length) := by
    induction l with
    | nil => simp [insertSegment]
    | cons a l ih =>
      unfold insertSegment
      split
      next hlt =>
        refine ⟨by simp, fun hany hp => ?_⟩
        obtain ⟨ha, -⟩ := List.pairwise_cons.mp hp
        simp only [List.any_cons, Bool.or_eq_true, decide_eq_true_eq, List.any_eq_true] at hany
        rcases hany with he | ⟨y, hy, he⟩
        · omega
        · have := ha y hy; omega
      next hlt =>
        split
        · simp
        next hne =>
          refine ⟨by simp [ih.1], fun hany hp => ?_⟩
          obtain ⟨-, hp⟩ := List.pairwise_cons.mp hp
          have hrest : (l.any fun u => u.start = x.start) = true := by
            simpa [Ne.symm hne] using hany
          simp [ih.2 hrest hp]
  refine ⟨hsorted l h.1, ?_⟩
  rcases hroom with hany | hlt
  · rw [(hlength l).2 hany h.1]; exact h.2
  · exact (hlength l).1.trans hlt

theorem profileOk_eraseIdx (n : Nat) {l : List Segment} (h : ProfileOk l) : ProfileOk (l.eraseIdx n) :=
  ⟨h.1.sublist (List.eraseIdx_sublist l n), (List.eraseIdx_sublist l n).length_le.trans h.2⟩

theorem mem_insertMarker {x y : Nat} {l : List Nat} : y ∈ insertMarker x l ↔ y = x ∨ y ∈ l := by
  induction l with
  | nil => simp [insertMarker]
  | cons a l ih => unfold insertMarker; split <;> simp [ih]; tauto

theorem markersOk_insert {x : Nat} {l : List Nat} (hx : x ∉ l) (hroom : l.length < Config.markerMax) (h : MarkersOk l) :
    MarkersOk (insertMarker x l) := by
  have hlength (l : List Nat) : (insertMarker x l).length = l.length + 1 := by
    induction l with
    | nil => rfl
    | cons a l ih => unfold insertMarker; split <;> simp [ih]
  refine ⟨?_, (hlength l).trans_le hroom⟩
  obtain ⟨hs, -⟩ := h
  clear hroom
  induction l with
  | nil => simp [insertMarker]
  | cons a l ih =>
    obtain ⟨ha, hl⟩ := List.pairwise_cons.mp hs
    simp only [List.mem_cons, not_or] at hx
    unfold insertMarker
    split
    next hlt =>
      refine List.pairwise_cons.mpr ⟨fun y hy => ?_, List.pairwise_cons.mpr ⟨ha, hl⟩⟩
      rcases List.mem_cons.mp hy with rfl | hy
      · exact hlt
      · exact hlt.trans (ha y hy)
    next hlt =>
      refine List.pairwise_cons.mpr ⟨fun y hy => ?_, ih hx.2 hl⟩
      rcases mem_insertMarker.mp hy with rfl | hy
      · omega
      · exact ha y hy

theorem markersOk_eraseIdx (n : Nat) {l : List Nat} (h : MarkersOk l) : MarkersOk (l.eraseIdx n) :=
  ⟨h.1.sublist (List.eraseIdx_sublist l n), (List.eraseIdx_sublist l n).length_le.trans h.2⟩

/-! ## Reports that are made stale -/

/-- A report made stale is stale no more than once: its staleness is due no longer (R39). -/
theorem staleDue_makeStale_self (c : Car) (s : State) : staleDue (makeStale c s) c = false := by
  unfold makeStale
  dsimp only
  split <;> simp [staleDue]

theorem staleDue_makeStale (c d : Car) (s : State) (h : staleDue s d = false) : staleDue (makeStale c s) d = false := by
  by_cases hcd : d = c
  · subst hcd; exact staleDue_makeStale_self d s
  · unfold makeStale
    dsimp only
    have hget (v : CarReport) : (s.cru.set c v).get d = s.cru.get d := by cases c <;> cases d <;> simp_all [PerCar.get, PerCar.set]
    split <;> simp only [staleDue, reportAge, State.params, hget, raiseCause_frame, updateOutputs_frame, State.onCru_cru,
      State.onCru_cfg, State.onCru_now] at h ⊢ <;> exact h

theorem staleDue_staleIfOld_self (c : Car) (s : State) : staleDue (staleIfOld c s) c = false := by
  unfold staleIfOld
  split
  · exact staleDue_makeStale_self c s
  next h => simpa using h

theorem staleDue_staleIfOld (c d : Car) (s : State) (h : staleDue s d = false) : staleDue (staleIfOld c s) d = false := by
  unfold staleIfOld
  split
  · exact staleDue_makeStale c d s h
  · exact h

theorem staleDue_settleStale (c : Car) (s : State) : staleDue (settleStale s) c = false := by
  cases c with
  | b => exact staleDue_staleIfOld_self .b _
  | a => exact staleDue_staleIfOld .b .a _ (staleDue_staleIfOld_self .a s)

namespace Moves

/-! ### Polls, stops and the brakes -/

theorem takeCarPoll (st : Station) (poll : Option Poll) (s : State) : Moves s (takeCarPoll st poll s).state := by
  unfold Machine.takeCarPoll
  split
  · split
    · exact (refl s).takePoll _ _
    · exact refl s
  · exact refl s

theorem takeStop (c : Cause) (st : Station) (s : State) : Moves s (takeStop c st s).state := (refl s).raiseCause c _

theorem takeRunRefresh (u : Unit) (s : State) : Moves s (takeRunRefresh u s).state := by
  refine (refl s).quiet ?_
  constructor <;> simp +contextual [Machine.takeRunRefresh]
  split <;> simp_all

theorem takeClearBrake (st : Station) (s : State) : Moves s (takeClearBrake st s).state := by
  obtain h | ⟨-, h⟩ := takeClearBrake_cases st s
  · rw [h]; exact refl s
  · rw [h]; exact (refl s).tail .clear

/-! ### Slots and modes -/

theorem fillSlot (st : Station) (f : TripRequestFields) (s : State) : Moves s (fillSlot st f s).state := by
  unfold Machine.fillSlot
  split
  · rw [(slotNotYours_state s st f.slot).1]; exact refl s
  · split
    · exact refl s
    · split
      · exact refl s
      · split
        · exact refl s
        next hslot =>
          unfold fileRequest
          split
          · split
            next ht => exact (refl s).takeImmediate hslot ht
            next => exact refl s
          · exact (refl s).tail (.slot _ _ (by simp [Slot.name]) hslot)

theorem takeCancelTrip (st : Station) (n : Option Nat) (s : State) : Moves s (takeCancelTrip st n s).state := by
  unfold Machine.takeCancelTrip
  split
  · exact refl s
  · split
    next => exact refl s
    next hs => exact (refl s).tail (.slot _ _ (by simp [Slot.name]) (by simp [hs, Slot.name]))
    next hs => exact (refl s).tail (.slot _ _ (by simp [Slot.name]) (by simp [hs, Slot.name]))
    next =>
      split
      next hc => exact (refl s).abortAndTest hc
      next => exact refl s

theorem takeSetMode (st : Station) (m : Coded Mode) (s : State) : Moves s (takeSetMode st m s).state := by
  unfold Machine.takeSetMode
  split
  · refine evaluateMode ((refl s).quiet ?_)
    unfold setStanding
    split <;> constructor <;> simp +contextual
  · exact refl s

theorem takeSetLimit (v : Int) (s : State) : Moves s (takeSetLimit v s).state :=
  (refl s).quiet (by constructor <;> simp +contextual [Machine.takeSetLimit])

/-! ### Door releases -/

theorem setEvac_off (c : Car) (s : State) : Moves s (setEvac c false s) := by
  refine (refl s).quiet ?_
  constructor <;> simp +contextual [setEvac]
  intro d
  cases c <;> cases d <;> simp [PerCar.get, PerCar.set]

theorem setMaint_off (c : Car) (d : Side) (s : State) : Moves s (setMaint c d false s) := by
  refine (refl s).quiet ?_
  constructor <;> simp +contextual [setMaint]
  intro c' d'
  cases c <;> cases d <;> cases c' <;> cases d' <;> simp [PerCar.get, PerCar.set, PerSide.get, PerSide.set]

theorem takeEvacuateEnd (c : Coded Car) (s : State) : Moves s (takeEvacuateEnd c s).state := by
  unfold Machine.takeEvacuateEnd
  split
  · exact refl s
  · exact setEvac_off _ s

theorem takeMaintEnd (m : MaintTarget) (s : State) : Moves s (takeMaintEnd m s).state := by
  unfold Machine.takeMaintEnd
  split
  · refine (refl s).quiet ?_
    constructor <;> simp +contextual [endMaint]
    intro c d
    cases c <;> cases d <;> simp [PerCar.get, PerSide.get]
  · exact setMaint_off _ _ s
  · exact refl s

/-! ### Gates and loads -/

theorem takeAdmit (st : Station) (r : LaneRef) (s : State) : Moves s (takeAdmit st r s).state := by
  refine atLane_state s (P := Moves s) (refl s) fun l => ?_
  split
  next h => exact (refl s).tail (.grant l _ h)
  next => exact refl s

theorem takePassed (st : Station) (r : LaneRef) (s : State) : Moves s (takePassed st r s).state := by
  refine atLane_state s (P := Moves s) (refl s) fun l => ?_
  split
  next h => exact (refl s).passReserved h
  next =>
    split
    · exact (refl s).passLate l
    · exact (refl s).passUnauthorised l

theorem takeAbandoned (st : Station) (r : LaneRef) (s : State) : Moves s (takeAbandoned st r s).state := by
  refine atLane_state s (P := Moves s) (refl s) fun l => ?_
  split
  · exact handIfEmpty (((refl s).tail (.drop l.id)).onLane l.id (fun o => { o with lapses := 0 }) (fun _ => rfl)
      (fun _ => .inl (Nat.zero_le _)))
  · exact refl s

theorem takeExited (st : Station) (r : LaneRef) (s : State) : Moves s (takeExited st r s).state := by
  refine atLane_state s (P := Moves s) (refl s) fun l => ?_
  split
  · exact (refl s).tail (.load _ (fun x => { x with aboard := x.aboard - 1 }) (fun _ => rfl) (.inr rfl)
      (.inl (Nat.sub_le _ _)))
  · exact refl s

theorem takeEnableLane (r : LaneRef) (s : State) : Moves s (takeEnableLane r s).state := by
  unfold Machine.takeEnableLane
  split
  next l _ =>
    exact (refl s).onLane l.id (fun o => { o with state := .enabled, lapsed := false, lapses := 0 }) (fun _ => rfl)
      (fun _ => .inl (Nat.zero_le _))
  next => exact refl s

theorem takeDisableLane (r : LaneRef) (s : State) : Moves s (takeDisableLane r s).state := by
  unfold Machine.takeDisableLane
  split
  · exact (refl s).disable _
  · exact refl s

theorem takeAdjustLoad (f : Coded Car × Int) (s : State) : Moves s (takeAdjustLoad f s).state := by
  unfold Machine.takeAdjustLoad
  split
  · exact refl s
  next c _ =>
    split
    · exact refl s
    · refine (refl s).tail (.load c
        (fun l => { l with aboard := clampNat 0 (s.params.capacity - reservedFor s c) f.2 }) (fun _ => rfl) (.inr rfl) ?_)
      simp only [clampNat]
      by_cases h : reservedFor s c ≤ s.params.capacity
      · right; omega
      · left; omega

theorem zeroUncounted (target : UncountedTarget) (s : State) : Moves s (zeroUncounted target s) := by
  cases target with
  | car c => exact (refl s).tail (.load c (fun l => { l with uncounted := 0 }) (fun _ => rfl) (.inl (Nat.zero_le _))
      (.inl (Nat.le_refl _)))
  | board b => exact (refl s).tail (.waiting b 0 (Nat.zero_le _))

theorem takeClearUncounted (c : Coded UncountedTarget) (s : State) : Moves s (takeClearUncounted c s).state := by
  unfold Machine.takeClearUncounted
  split
  · exact refl s
  · split
    · exact refl s
    · exact zeroUncounted _ s

theorem takeClearAlarm (c : Coded Car) (s : State) : Moves s (takeClearAlarm c s).state := by
  unfold Machine.takeClearAlarm
  split
  · exact refl s
  · split
    · exact refl s
    · exact (refl s).tail (.alarm _ _)

/-! ### The line -/

theorem takeSetReference (k : Coded Stop) (s : State) : Moves s (takeSetReference k s).state := by
  unfold Machine.takeSetReference
  split
  · exact (refl s).quiet (by constructor <;> simp +contextual)
  · exact refl s
  · exact refl s

theorem takeSetClear (v : Coded Bool) (s : State) : Moves s (takeSetClear v s).state := by
  unfold Machine.takeSetClear
  split
  · exact refl s
  · split
    · exact (refl s).quiet (by constructor <;> simp +contextual)
    · exact refl s

/-! ### The configuration store -/

theorem withdrawReference (h : Moves s t) : Moves s (withdrawReference t) := h.setRef _

theorem writeNum (p : NumParam) (v : Int) (s : State) : Moves s (writeNum p v s).state := by
  show Moves s (Machine.uncommit (afterWrite p ((beforeWrite p s).onCfg fun c =>
    { c with params := c.params.put (clampNat (paramRow p).lo (paramRow p).hi v) p })))
  by_cases ht : p = .tCar
  · subst ht
    have h1 : Moves s ((Machine.settleStale s).onCfg fun c =>
        { c with params := c.params.put (clampNat (paramRow .tCar).lo (paramRow .tCar).hi v) .tCar }) :=
      (refl s).settleStale.tail (.reportTime v (staleDue_settleStale .a s) (staleDue_settleStale .b s))
    exact h1.settleStale.tail .uncommit
  · have hb : Moves s (beforeWrite p s) := by
      unfold beforeWrite
      exact ite (fun _ => (refl s).setPos _) (fun _ => by rw [if_neg ht]; exact refl s)
    have hn := hb.tail (.number p v ht)
    unfold afterWrite
    split
    · exact hn.withdrawReference
    · exact hn

theorem writeParam (p : Param) (v : Int) (s : State) : Moves s (writeParam p v s).state := by
  cases p with
  | num p => exact writeNum p v s
  | slotMode =>
    dsimp only [Machine.writeParam]
    split
    · exact (refl s).tail (.choice { s.cfg.params with slotMode := _ } (fun p => by cases p <;> rfl))
    · exact refl s
  | walkwaySide =>
    dsimp only [Machine.writeParam]
    split
    · exact (refl s).tail (.choice { s.cfg.params with walkwaySide := _ } (fun p => by cases p <;> rfl))
    · exact refl s

theorem cfgWrite {go : State → Answer} (h : s.lsu.line = .closed → Moves s (go s).state) : Moves s (cfgWrite go s).state := by
  unfold Machine.cfgWrite
  split
  next hl => exact h hl
  next => exact refl s

theorem writeParameter (f : Coded Param × Int) (s : State) : Moves s (writeParameter f s).state := by
  refine cfgWrite fun _ => ?_
  split
  · exact writeParam _ _ s
  · exact refl s

theorem takePlatformSide (f : Coded Platform × Coded Side) (s : State) : Moves s (takePlatformSide f s).state := by
  refine cfgWrite fun _ => ?_
  split
  · exact (refl s).tail (.doorSide (s.cfg.doorSide.set _ _))
  · exact refl s

theorem takeProfilePut (f : Int × Int) (s : State) : Moves s (takeProfilePut f s).state := by
  refine cfgWrite fun _ => ?_
  dsimp only
  split
  · exact refl s
  next h =>
    refine (refl s).tail (.profile (insertSegment _ s.cfg.profile) (profileOk_insert ?_))
    simp only [not_and_or, Bool.not_eq_false, Nat.not_le] at h
    exact h

theorem takeProfileRemove (n : Nat) (s : State) : Moves s (takeProfileRemove n s).state := by
  refine cfgWrite fun _ => ?_
  split
  · exact (refl s).tail (.profile (s.cfg.profile.eraseIdx n) (profileOk_eraseIdx n))
  · exact refl s

theorem takeProfileClear (u : Unit) (s : State) : Moves s (takeProfileClear u s).state :=
  cfgWrite fun _ => (refl s).tail (.profile [] fun _ => ⟨by simp, by simp⟩)

theorem setMarkers (f : List Nat → List Nat) (h : MarkersOk s.cfg.markers → MarkersOk (f s.cfg.markers)) :
    Moves s (Machine.uncommit (setMarkers f s)) :=
  withdrawReference ((refl s).tail (.markers (f s.cfg.markers) h))

theorem takeMarkerPut (v : Int) (s : State) : Moves s (takeMarkerPut v s).state := by
  refine cfgWrite fun _ => ?_
  dsimp only
  split
  · exact refl s
  next hx =>
    split
    · exact refl s
    next hroom => exact setMarkers _ (markersOk_insert (by simpa using hx) (by omega))

theorem takeMarkerRemove (n : Nat) (s : State) : Moves s (takeMarkerRemove n s).state := by
  refine cfgWrite fun _ => ?_
  split
  · exact setMarkers _ (markersOk_eraseIdx n)
  · exact refl s

theorem takeMarkerClear (u : Unit) (s : State) : Moves s (takeMarkerClear u s).state :=
  cfgWrite fun _ => setMarkers _ fun _ => ⟨by simp, by simp⟩

theorem writeLane (f : LanePutFields) (s : State) : Moves s (writeLane f s).state := by
  refine cfgWrite fun _ => ?_
  split
  · exact (refl s).tail (.putLane _)
  · exact refl s

theorem takeLaneRemove (r : LaneRef) (s : State) : Moves s (takeLaneRemove r s).state := by
  refine cfgWrite fun _ => ?_
  split
  · exact (refl s).tail (.dropLane _)
  · exact refl s

theorem takeCommit (u : Unit) (s : State) : Moves s (takeCommit u s).state := by
  refine cfgWrite fun hl => ?_
  dsimp only
  split
  next h => exact (refl s).tail (.commit hl h)
  next => exact (refl s).tail .uncommit

theorem takeReadParameter (n : Coded ReadName) (s : State) : Moves s (takeReadParameter n s).state := by
  unfold Machine.takeReadParameter
  split <;> exact refl s

theorem takeReadEntry (e : EntryRef) (s : State) : Moves s (takeReadEntry e s).state := by
  unfold Machine.takeReadEntry
  split <;> exact refl s

/-! ### Incidents and reset causes -/

theorem takeIncidentRead (seq : Int) (s : State) : Moves s (takeIncidentRead seq s).state := by
  unfold Machine.takeIncidentRead
  split
  · exact (refl s).tail (.markIncident _ _)
  · exact refl s

theorem takeIncidentAck (seq : Int) (s : State) : Moves s (takeIncidentAck seq s).state := by
  unfold Machine.takeIncidentAck
  split
  · exact refl s
  · split
    · exact refl s
    · split
      · exact refl s
      · exact (refl s).tail (.markIncident _ _)

theorem takeResetCauseRead (u : Unit) (s : State) : Moves s (takeResetCauseRead u s).state := by
  unfold Machine.takeResetCauseRead
  dsimp only
  split
  · exact refl s
  · exact (refl s).quiet (by constructor <;> simp +contextual)

end Moves

end Sys2Proof.Machine
end

section
/-! Every command, said once: `Act c s u` is what command `c` does to state `s` before the reply and the marks of
section 9.8 and 9.9, and `Ended s u t` is what ends it. `exec_acts` says that every command is one of these. -/

namespace Sys2Proof.Machine

/-- What a command does: a chain of moves, a door release, a request on the line state, on notices or snapshots, or a reset. -/
inductive Act (s : State) : Instr → State → Prop
  | moves {c : Instr} {u : State} (hr : isReset c = false) (h : Moves s u) : Act s c u
  | openLine {k : Stop} (hline : s.lsu.line = .closed) (hcheck : openCheck s = none)
      (hstop : stopHere s = some k) : Act s (.openLine .con (.fields ())) (openAt k s)
  | closeLine (hline : s.lsu.line = .inService)
      (hflight : inFlight s.trc.state = false) : Act s (.closeLine .con (.fields ())) (closeLine s)
  | leaveInspection (hline : s.lsu.line = .inspection)
      (hflight : inFlight s.trc.state = false) : Act s (.inspectionLeave .con (.fields ())) (closeLine s)
  | enterInspection (hline : s.lsu.line ≠ .inspection)
      (hflight : s.lsu.line = .inService → inFlight s.trc.state = false) :
      Act s (.inspectionEnter .con (.fields ())) (enterInspection s)
  | evacuate {st : Station} {p : Payload (Coded Car)} (c : Car) (h : evacuateCheck s = none) :
      Act s (.evacuate st p) (setEvac c true s)
  | maintain {st : Station} {p : Payload (Coded Car × Coded Side)} (c : Car) (d : Side) (h : maintCheck s = none) :
      Act s (.maintRelease st p) (setMaint c d true s)
  | select {st : Station} {p : Payload (List (Coded SnapKind))} {ks : List (Coded SnapKind)} :
      Act s (.snapshotSelect st p) (takeSnapshotSelect st ks s).state
  | snapshot {st : Station} {p : Payload Unit} : Act s (.snapshot st p) (takeSnapshot st () s).state
  | readNotice {st : Station} {p : Payload Unit} : Act s (.nextNotice st p) (onNotices st readNotice s)
  | enableNotices {st : Station} {p : Payload (List (Coded NoticeKind))} {ks : List NoticeKind} :
      Act s (.noticeEnable st p) (onNotices st (fun r => { r with enabled := ks }) s)
  | powerOn : Act s .powerOnReset
      ((resetCleared { s with niu := niuPowerOn }).onPins fun p => { p with supplyLow := false })
  | pinReset {c : Instr} (hc : isReset c = true) : Act s c
      ((resetCleared { s with niu := keepIncidents { s.niu.resetCauses with pin := true } s.niu }).onPins fun p =>
        { p with resetLow := false })
  | resetPart {p : Payload Unit} (hline : s.lsu.line = .closed) : Act s (.resetPart .con p) (resetPart s)
  | resetRefused {p : Payload Unit} {st : Station} : Act s (.resetPart st p) s

/-- What ends a command that has made `u` of `s`: nothing but a change of the reply, the new start of a reset, or latching,
the fresh marks and the marks of overtaken events, with or without a reply. -/
inductive Ended (s u : State) : State → Prop
  | silent (reply : Option Reply) (hniu : u.niu = s.niu) (hlbp : u.lbp = s.lbp)
      (hcore : ∀ k, recordCore u k = recordCore s k) : Ended s u { u with lbp := { u.lbp with reply := reply } }
  | reset (o : List Overtaken) (hniu : u.niu.notices = noticesReset) (hlbp : u.lbp = lbpReset) :
      Ended s u { u with overtaken := o }
  | finished : Ended s u (finish s u)
  | taken (i : Instr) : Ended s u (takenUp i (finish s u))
  | replied (r : Request) (st : Station) (status : Status) (data : ReplyData) :
      Ended s u (sendReply r st status data (finish s u))

variable {s t u : State}

/-- What ends a command changes nothing but the reply, the fresh and the overtaken marks, and what is latched. -/
theorem Ended.same (h : Ended s u t) :
    t.cfg = u.cfg ∧ t.cru = u.cru ∧ t.psu = u.psu ∧ t.clc = u.clc ∧ t.brs = u.brs ∧ t.trc = u.trc ∧ t.dri = u.dri ∧
      t.adm = u.adm ∧ t.lsu = u.lsu ∧ t.lbp.selection = u.lbp.selection ∧ t.lbp.continuation = u.lbp.continuation ∧
      t.niu.incidents = u.niu.incidents ∧ t.niu.overflow = u.niu.overflow ∧ t.niu.seq = u.niu.seq ∧ t.now = u.now ∧
      t.pending = u.pending := by
  cases h <;> simp

/-! ## Requests and events -/

theorem request_acts {α : Type} {c : Instr} {r : Request} {st : Station} {p : Payload α} {body : α → State → Answer}
    (ht : request r st p body s = .next t) (hs : Act s c s)
    (hb : ∀ f, p = .fields f → permitted (catalogue r).permit st = true → Act s c (body f s).state) :
    ∃ u, Act s c u ∧ Ended s u t := by
  unfold request at ht
  split at ht
  · cases ht
    exact ⟨s, hs, .silent none rfl rfl fun _ => rfl⟩
  · split at ht
    next hp =>
      split at ht
      · cases ht
        exact ⟨_, hb _ rfl hp, .replied _ _ _ _⟩
      · cases ht
        exact ⟨s, hs, .replied _ _ _ _⟩
    next =>
      cases ht
      exact ⟨s, hs, .replied _ _ _ _⟩

/-- A request whose owning block makes moves. -/
theorem request_moves {α : Type} {c : Instr} {r : Request} {st : Station} {p : Payload α} {body : α → State → Answer}
    (hr : isReset c = false) (ht : request r st p body s = .next t) (hb : ∀ f, Moves s (body f s).state) :
    ∃ u, Act s c u ∧ Ended s u t :=
  request_acts ht (.moves hr (.refl s)) fun f _ _ => .moves hr (hb f)

theorem event_moves {c : Instr} {body : State → State} (hr : isReset c = false) (ht : event body s = .next t)
    (hb : Moves s (body s)) : ∃ u, Act s c u ∧ Ended s u t := by
  unfold event at ht
  split at ht
  · cases ht
    exact ⟨s, .moves hr (.refl s), .silent s.lbp.reply rfl rfl fun _ => rfl⟩
  · cases ht
    exact ⟨_, .moves hr hb, .finished⟩

theorem timedEvent_moves {c i : Instr} {body : State → State} (hr : isReset c = false) (ht : timedEvent i body s = .next t)
    (hb : Moves s (body s)) : ∃ u, Act s c u ∧ Ended s u t := by
  by_cases hlow : s.pins.resetLow = true
  · rw [timedEvent_resetLow body hlow] at ht
    cases ht
    exact ⟨s, .moves hr (.refl s), .silent s.lbp.reply rfl rfl fun _ => rfl⟩
  · by_cases ho : isOvertaken s i = true
    · rw [timedEvent_overtaken body (by simpa using hlow) ho, Host.Outcome.next.injEq] at ht
      exact ⟨s, .moves hr (.refl s), ht ▸ .taken i⟩
    · rw [timedEvent_run body (by simpa using hlow) (by simpa using ho), Host.Outcome.next.injEq] at ht
      exact ⟨body s, .moves hr hb, ht ▸ .taken i⟩

/-- No record shows a pin. -/
@[simp] theorem recordCore_onPins (f : Pins → Pins) (s : State) (k : SnapKind) : recordCore (s.onPins f) k = recordCore s k := by
  cases k <;> rfl

theorem quiet_onPins (f : Pins → Pins) (s : State) : Quiet s (s.onPins f) := by
  constructor <;> simp +contextual

/-- A command that changes the pins and the reply alone. -/
theorem pins_act {c : Instr} (hr : isReset c = false) (f : Pins → Pins) (reply : Option Reply) :
    ∃ u, Act s c u ∧ Ended s u { s.onPins f with lbp := { s.lbp with reply := reply } } :=
  ⟨s.onPins f, .moves hr ((Moves.refl s).quiet (quiet_onPins f s)), .silent reply rfl rfl (recordCore_onPins f s)⟩

/-! ## The requests on the line state, notices and snapshots -/

theorem takeOpen_acts (u : Unit) : Act s (.openLine .con (.fields ())) (takeOpen u s).state := by
  have hrefl : Act s (.openLine .con (.fields ())) s := .moves rfl (.refl s)
  by_cases hl : s.lsu.line = .closed
  · rcases hc : openCheck s with _ | why <;> rcases hk : stopHere s with _ | k <;>
      simp only [takeOpen, hl, hc, hk, ne_eq, not_true_eq_false, if_false, present_state, accept_state]
    case none.some => exact .openLine hl hc hk
    all_goals exact hrefl
  · simpa only [takeOpen, ne_eq, hl, not_false_eq_true, if_true, deny_state] using hrefl

theorem takeClose_acts (u : Unit) : Act s (.closeLine .con (.fields ())) (takeClose u s).state := by
  have hrefl : Act s (.closeLine .con (.fields ())) s := .moves rfl (.refl s)
  unfold takeClose
  split
  · simpa only [deny_state] using hrefl
  next hl =>
    split
    · simpa only [deny_state] using hrefl
    next hf =>
      split
      · simpa only [accept_state] using Act.closeLine (by simpa using hl) (by simpa using hf)
      · simpa only [refuse_state] using hrefl

theorem takeInspectionEnter_acts (u : Unit) :
    Act s (.inspectionEnter .con (.fields ())) (takeInspectionEnter u s).state := by
  have hrefl : Act s (.inspectionEnter .con (.fields ())) s := .moves rfl (.refl s)
  unfold takeInspectionEnter
  split
  · simpa only [deny_state] using hrefl
  next hl =>
    split
    · simpa only [present_state] using hrefl
    · split
      · simpa only [deny_state] using hrefl
      next hf =>
        split
        · simpa only [refuse_state] using hrefl
        · simpa only [accept_state] using Act.enterInspection hl (by simpa using hf)

theorem takeInspectionLeave_acts (u : Unit) :
    Act s (.inspectionLeave .con (.fields ())) (takeInspectionLeave u s).state := by
  have hrefl : Act s (.inspectionLeave .con (.fields ())) s := .moves rfl (.refl s)
  unfold takeInspectionLeave
  split
  · simpa only [deny_state] using hrefl
  next hl =>
    split
    · simpa only [deny_state] using hrefl
    next hf => simpa only [accept_state] using Act.leaveInspection (by simpa using hl) (by simpa using hf)

theorem takeEvacuate_acts {st : Station} {p : Payload (Coded Car)} (c : Coded Car) :
    Act s (.evacuate st p) (takeEvacuate c s).state := by
  have hrefl : Act s (.evacuate st p) s := .moves rfl (.refl s)
  unfold takeEvacuate
  split
  · simpa only [deny_state] using hrefl
  next car =>
    split
    next => simpa only [deny_state] using hrefl
    next h => simpa only [accept_state] using Act.evacuate car h

theorem takeMaintRelease_acts {st : Station} {p : Payload (Coded Car × Coded Side)} (f : Coded Car × Coded Side) :
    Act s (.maintRelease st p) (takeMaintRelease f s).state := by
  have hrefl : Act s (.maintRelease st p) s := .moves rfl (.refl s)
  unfold takeMaintRelease
  split
  next car d =>
    split
    next => simpa only [deny_state] using hrefl
    next h => simpa only [accept_state] using Act.maintain car d h
  next => simpa only [deny_state] using hrefl

theorem takeNoticeEnable_acts {st : Station} {p : Payload (List (Coded NoticeKind))} (ks : List (Coded NoticeKind)) :
    Act s (.noticeEnable st p) (takeNoticeEnable st ks s).state := by
  unfold takeNoticeEnable
  split
  · exact .enableNotices
  · exact .moves rfl (.refl s)

theorem takeResetPart_acts {p : Payload Unit} (u : Unit) : Act s (.resetPart .con p) (takeResetPart u s).state := by
  unfold takeResetPart
  split
  · exact .resetRefused
  next hl =>
    split
    · exact .resetRefused
    · exact .resetPart (by simpa using hl)

theorem con_of_permitted {r : Request} {st : Station} (hr : (catalogue r).permit = .con)
    (h : permitted (catalogue r).permit st = true) : st = .con := by
  simpa [hr, permitted] using h

theorem unknownFrame_acts {h : Head} (ht : execUnknownRequestFrame h s = .next t) :
    ∃ u, Act s (.unknownRequestFrame h) u ∧ Ended s u t := by
  refine ⟨s, .moves rfl (.refl s), ?_⟩
  unfold execUnknownRequestFrame at ht
  split at ht
  · cases ht
    exact .silent none rfl rfl fun _ => rfl
  · split at ht
    · cases ht
      exact .silent s.lbp.reply rfl rfl fun _ => rfl
    · cases ht
      exact .silent _ rfl rfl fun _ => rfl

/-! ## The events and the resets -/

theorem speedSample_acts (ht : execSpeedSample s = .next t) : ∃ u, Act s .speedSample u ∧ Ended s u t :=
  timedEvent_moves rfl ht ((Moves.refl s).advanceTo _).sample

theorem encoderEdge_acts {dir : TripDir} (ht : execEncoderEdge dir s = .next t) :
    ∃ u, Act s (.encoderEdge dir) u ∧ Ended s u t :=
  event_moves rfl ht ((Moves.refl s).quiet (by constructor <;> simp +contextual))

theorem carReportStale_acts {c : Car} (ht : execCarReportStale c s = .next t) :
    ∃ u, Act s (.carReportStale c) u ∧ Ended s u t :=
  timedEvent_moves rfl ht (.ite (fun _ => ((Moves.refl s).advanceTo _).makeStale c) (fun _ => .refl s))

theorem driveRefreshTimerExpiry_acts (ht : execDriveRefreshTimerExpiry s = .next t) :
    ∃ u, Act s .driveRefreshTimerExpiry u ∧ Ended s u t := by
  refine timedEvent_moves rfl ht ?_
  split
  · exact ((Moves.refl s).advanceTo _).driveSilent
  · exact .refl s

theorem releaseWaitExpiry_acts (ht : execReleaseWaitExpiry s = .next t) :
    ∃ u, Act s .releaseWaitExpiry u ∧ Ended s u t := by
  refine timedEvent_moves rfl ht ?_
  split
  · exact ((Moves.refl s).advanceTo _).notReleased
  · exact .refl s

theorem applyTimerExpiry_acts {b : Brake} (ht : execApplyTimerExpiry b s = .next t) :
    ∃ u, Act s (.applyTimerExpiry b) u ∧ Ended s u t := by
  refine timedEvent_moves rfl ht ?_
  split
  · exact ((Moves.refl s).advanceTo _).notApplied b _
  · exact .refl s

theorem brakeFeedbackChange_acts {b : Brake} {level : Feedback} (ht : execBrakeFeedbackChange b level s = .next t) :
    ∃ u, Act s (.brakeFeedbackChange b level) u ∧ Ended s u t :=
  event_moves rfl ht (.ite (fun _ => .refl s) (fun _ => ((Moves.refl s).heldInput b level).takeFeedback b level))

theorem dispatch_acts (ht : execDispatch s = .next t) : ∃ u, Act s .dispatch u ∧ Ended s u t :=
  event_moves rfl ht (.ite (fun _ => .refl s)
    (fun _ => (((Moves.refl s).debounce true).takeEvent .dispatch .slot0).takeEvent .dispatch .slot1))

theorem debouncedLevelFall_acts (ht : execDebouncedLevelFall s = .next t) :
    ∃ u, Act s .debouncedLevelFall u ∧ Ended s u t :=
  event_moves rfl ht (.ite (fun _ => (Moves.refl s).debounce false) (fun _ => .refl s))

theorem minDwellExpiry_acts (ht : execMinDwellExpiry s = .next t) : ∃ u, Act s .minDwellExpiry u ∧ Ended s u t := by
  refine timedEvent_moves rfl ht ?_
  split
  · exact ((Moves.refl s).advanceTo _).dwellElapsed
  · exact .refl s

theorem settleTimerExpiry_acts (ht : execSettleTimerExpiry s = .next t) :
    ∃ u, Act s .settleTimerExpiry u ∧ Ended s u t := by
  refine timedEvent_moves rfl ht ?_
  split
  · exact ((Moves.refl s).advanceTo _).settled
  · exact .refl s

theorem leadTimerExpiry_acts (ht : execLeadTimerExpiry s = .next t) : ∃ u, Act s .leadTimerExpiry u ∧ Ended s u t := by
  refine timedEvent_moves rfl ht ?_
  split
  · exact ((Moves.refl s).advanceTo _).leadElapsed
  · exact .refl s

theorem doorCloseTimerExpiry_acts (ht : execDoorCloseTimerExpiry s = .next t) :
    ∃ u, Act s .doorCloseTimerExpiry u ∧ Ended s u t := by
  refine timedEvent_moves rfl ht ?_
  split
  · exact ((Moves.refl s).advanceTo _).doorsTimedOut
  · exact .refl s

theorem lapse_acts {id : LaneId} (ht : execLapse id s = .next t) : ∃ u, Act s (.lapse id) u ∧ Ended s u t := by
  refine timedEvent_moves rfl ht ?_
  split
  · exact ((Moves.refl s).advanceTo _).lapse id
  · exact .refl s

theorem pinReset_acts {released : Bool} (ht : execPinReset released s = .next t) :
    ∃ u, Act s (.pinReset released) u ∧ Ended s u t := by
  cases released with
  | true => cases ht; exact ⟨_, .pinReset rfl, .reset _ rfl rfl⟩
  | false => cases ht; exact pins_act rfl (fun p => { p with resetLow := true }) none

/-! ## Every command -/

theorem exec_acts {c : Instr} (ht : exec c s = .next t) : ∃ u, Act s c u ∧ Ended s u t := by
  cases c with
  | carPoll st bytes => exact request_moves rfl ht fun poll => Moves.takeCarPoll st poll s
  | stop st p => exact request_moves rfl ht fun _ => Moves.takeStop .stopRequest st s
  | estop st p => exact request_moves rfl ht fun _ => Moves.takeStop .estopRequest st s
  | runRefresh st p => exact request_moves rfl ht fun f => Moves.takeRunRefresh f s
  | clearBrake st p => exact request_moves rfl ht fun _ => Moves.takeClearBrake st s
  | tripRequest st p => exact request_moves rfl ht fun f => Moves.fillSlot st f s
  | cancelTrip st p => exact request_moves rfl ht fun n => Moves.takeCancelTrip st n s
  | setMode st p => exact request_moves rfl ht fun m => Moves.takeSetMode st m s
  | setLimit st p => exact request_moves rfl ht fun v => Moves.takeSetLimit v s
  | evacuate st p => exact request_acts ht (.moves rfl (.refl s)) fun f _ _ => takeEvacuate_acts f
  | evacuateEnd st p => exact request_moves rfl ht fun f => Moves.takeEvacuateEnd f s
  | maintRelease st p => exact request_acts ht (.moves rfl (.refl s)) fun f _ _ => takeMaintRelease_acts f
  | maintEnd st p => exact request_moves rfl ht fun f => Moves.takeMaintEnd f s
  | admitPerson st p => exact request_moves rfl ht fun f => Moves.takeAdmit st f s
  | passed st p => exact request_moves rfl ht fun f => Moves.takePassed st f s
  | abandoned st p => exact request_moves rfl ht fun f => Moves.takeAbandoned st f s
  | exited st p => exact request_moves rfl ht fun f => Moves.takeExited st f s
  | openLine st p => exact request_acts ht (.moves rfl (.refl s)) fun f hf hp =>
      con_of_permitted (r := .openLine) rfl hp ▸ hf ▸ takeOpen_acts f
  | closeLine st p =>
    exact request_acts ht (.moves rfl (.refl s)) fun f hf hp =>
      con_of_permitted (r := .closeLine) rfl hp ▸ hf ▸ takeClose_acts f
  | inspectionEnter st p =>
    exact request_acts ht (.moves rfl (.refl s)) fun f hf hp =>
      con_of_permitted (r := .inspectionEnter) rfl hp ▸ hf ▸ takeInspectionEnter_acts f
  | inspectionLeave st p =>
    exact request_acts ht (.moves rfl (.refl s)) fun f hf hp =>
      con_of_permitted (r := .inspectionLeave) rfl hp ▸ hf ▸ takeInspectionLeave_acts f
  | setReference st p => exact request_moves rfl ht fun f => Moves.takeSetReference f s
  | setClearInInspection st p => exact request_moves rfl ht fun f => Moves.takeSetClear f s
  | resetPart st p =>
    exact request_acts ht .resetRefused fun f _ hp => con_of_permitted (r := .resetPart) rfl hp ▸ takeResetPart_acts f
  | setParameter st p => exact request_moves rfl ht fun f => Moves.writeParameter f s
  | platformSide st p => exact request_moves rfl ht fun f => Moves.takePlatformSide f s
  | profilePut st p => exact request_moves rfl ht fun f => Moves.takeProfilePut f s
  | profileRemove st p => exact request_moves rfl ht fun f => Moves.takeProfileRemove f s
  | profileClear st p => exact request_moves rfl ht fun f => Moves.takeProfileClear f s
  | markerPut st p => exact request_moves rfl ht fun f => Moves.takeMarkerPut f s
  | markerRemove st p => exact request_moves rfl ht fun f => Moves.takeMarkerRemove f s
  | markerClear st p => exact request_moves rfl ht fun f => Moves.takeMarkerClear f s
  | lanePut st p => exact request_moves rfl ht fun f => Moves.writeLane f s
  | laneRemove st p => exact request_moves rfl ht fun f => Moves.takeLaneRemove f s
  | commit st p => exact request_moves rfl ht fun f => Moves.takeCommit f s
  | enableLane st p => exact request_moves rfl ht fun f => Moves.takeEnableLane f s
  | disableLane st p => exact request_moves rfl ht fun f => Moves.takeDisableLane f s
  | adjustLoad st p => exact request_moves rfl ht fun f => Moves.takeAdjustLoad f s
  | clearUncounted st p => exact request_moves rfl ht fun f => Moves.takeClearUncounted f s
  | clearAlarm st p => exact request_moves rfl ht fun f => Moves.takeClearAlarm f s
  | readParameter st p => exact request_moves rfl ht fun f => Moves.takeReadParameter f s
  | readEntry st p => exact request_moves rfl ht fun f => Moves.takeReadEntry f s
  | snapshotSelect st p => exact request_acts ht (.moves rfl (.refl s)) fun _ _ _ => .select
  | snapshot st p => exact request_acts ht (.moves rfl (.refl s)) fun _ _ _ => .snapshot
  | nextNotice st p => exact request_acts ht (.moves rfl (.refl s)) fun _ _ _ => .readNotice
  | noticeEnable st p => exact request_acts ht (.moves rfl (.refl s)) fun f _ _ => takeNoticeEnable_acts f
  | incidentRead st p => exact request_moves rfl ht fun f => Moves.takeIncidentRead f s
  | incidentAck st p => exact request_moves rfl ht fun f => Moves.takeIncidentAck f s
  | resetCauseRead st p => exact request_moves rfl ht fun f => Moves.takeResetCauseRead f s
  | unknownRequestFrame head => exact unknownFrame_acts ht
  | frameDiscarded | replyCollision =>
    cases ht
    exact ⟨s, .moves rfl (.refl s), .silent none rfl rfl fun _ => rfl⟩
  | speedSample => exact speedSample_acts ht
  | encoderEdge dir => exact encoderEdge_acts ht
  | carReportStale car => exact carReportStale_acts ht
  | driveRefreshTimerExpiry => exact driveRefreshTimerExpiry_acts ht
  | releaseWaitExpiry => exact releaseWaitExpiry_acts ht
  | applyTimerExpiry b => exact applyTimerExpiry_acts ht
  | brakeFeedbackChange b level => exact brakeFeedbackChange_acts ht
  | dispatch => exact dispatch_acts ht
  | debouncedLevelFall => exact debouncedLevelFall_acts ht
  | minDwellExpiry => exact minDwellExpiry_acts ht
  | settleTimerExpiry => exact settleTimerExpiry_acts ht
  | leadTimerExpiry => exact leadTimerExpiry_acts ht
  | doorCloseTimerExpiry => exact doorCloseTimerExpiry_acts ht
  | lapse lane => exact lapse_acts ht
  | powerOnReset => cases ht; exact ⟨_, .powerOn, .reset _ rfl rfl⟩
  | pinReset released => exact pinReset_acts ht
  | resetPinReleased => cases ht; exact ⟨_, .pinReset rfl, .reset _ rfl rfl⟩
  | dispatchInputChange high => cases ht; exact pins_act rfl (takeInput s.now high) s.lbp.reply
  | supplyLow => cases ht; exact pins_act rfl (fun p => { p with supplyLow := true }) s.lbp.reply
  | supplyRestored => cases ht; exact pins_act rfl (fun p => { p with supplyLow := false }) s.lbp.reply
  | feedbackInputChange b level =>
    cases ht
    exact pins_act rfl (fun p => p.setInput (standing s.now level (p.input b)) b) s.lbp.reply

theorem event_next (f : State → State) (s : State) : ∃ t, event f s = .next t := by
  unfold event
  split <;> exact ⟨_, rfl⟩

theorem unknownFrame_next (h : Head) (s : State) : ∃ t, execUnknownRequestFrame h s = .next t := by
  unfold execUnknownRequestFrame
  repeat' split
  all_goals exact ⟨_, rfl⟩

/-- Every command answers a next state: each is a request, an event or a change of the pins. -/
theorem exec_next (c : Instr) (s : State) : ∃ t, exec c s = .next t := by
  cases c with
  | unknownRequestFrame h => exact unknownFrame_next h s
  | frameDiscarded | replyCollision | dispatchInputChange | powerOnReset | resetPinReleased | supplyLow | supplyRestored
  | feedbackInputChange => exact ⟨_, rfl⟩
  | pinReset released => cases released <;> exact ⟨_, rfl⟩
  | encoderEdge => unfold exec execEncoderEdge; exact event_next _ s
  | brakeFeedbackChange => unfold exec execBrakeFeedbackChange; exact event_next _ s
  | dispatch => unfold exec execDispatch; exact event_next _ s
  | debouncedLevelFall => unfold exec execDebouncedLevelFall; exact event_next _ s
  | speedSample => unfold exec execSpeedSample; exact timedEvent_next s _ _
  | carReportStale => unfold exec execCarReportStale; exact timedEvent_next s _ _
  | driveRefreshTimerExpiry => unfold exec execDriveRefreshTimerExpiry; exact timedEvent_next s _ _
  | releaseWaitExpiry => unfold exec execReleaseWaitExpiry; exact timedEvent_next s _ _
  | applyTimerExpiry => unfold exec execApplyTimerExpiry; exact timedEvent_next s _ _
  | minDwellExpiry => unfold exec execMinDwellExpiry; exact timedEvent_next s _ _
  | settleTimerExpiry => unfold exec execSettleTimerExpiry; exact timedEvent_next s _ _
  | leadTimerExpiry => unfold exec execLeadTimerExpiry; exact timedEvent_next s _ _
  | doorCloseTimerExpiry => unfold exec execDoorCloseTimerExpiry; exact timedEvent_next s _ _
  | lapse => unfold exec execLapse; exact timedEvent_next s _ _
  | _ => exact request_next _ _ _ s _

end Sys2Proof.Machine
end

section
/-! O3, O46 and O9: what no move changes - the queue, the line bus port and the line state - read off the acts. -/

namespace Sys2Proof.Machine

variable {s t u : State}

/-- No move changes the queue, the line bus port or the line state. -/
theorem Move.kept (h : Move s u) : u.pending = s.pending ∧ u.lbp = s.lbp ∧ u.lsu.line = s.lsu.line := by
  cases h with
  | quiet h => exact ⟨h.pending, h.lbp, h.line⟩
  | _ => simp

theorem Moves.kept (h : Moves s u) : u.pending = s.pending ∧ u.lbp = s.lbp ∧ u.lsu.line = s.lsu.line := by
  induction h with
  | refl => exact ⟨rfl, rfl, rfl⟩
  | tail _ hm ih =>
    obtain ⟨hp, hl, hs⟩ := hm.kept
    exact ⟨hp.trans ih.1, hl.trans ih.2.1, hs.trans ih.2.2⟩

/-! ## O3 -/

theorem Act.pending {c : Instr} (h : Act s c u) : u.pending = s.pending := by
  cases h with
  | moves _ h => exact h.kept.1
  | select => unfold takeSnapshotSelect; split <;> simp
  | snapshot => simp [takeSnapshot]
  | powerOn | pinReset => simp [resetCleared, resetBlocks]
  | resetPart => simp [Machine.resetPart, resetBlocks]
  | resetRefused => rfl
  | _ => simp

/-- Settles O3: every command answers, and no act changes the queue. -/
theorem everyCommandAnswersAndKeepsTheQueue : Obligations.EveryCommandAnswersAndKeepsTheQueue := by
  intro c s
  obtain ⟨t, ht⟩ := exec_next c s
  obtain ⟨u, hact, hend⟩ := exec_acts ht
  obtain ⟨-, -, -, -, -, -, -, -, -, -, -, -, -, -, -, hpending⟩ := hend.same
  exact ⟨t, ht, hpending.trans hact.pending⟩

/-! ## O46 -/

/-- What each act does to the line state: only the four requests of the console and a reset change it. -/
theorem Act.line {c : Instr} (h : Act s c u) :
    u.lsu.line = s.lsu.line ∨ c = .openLine .con (.fields ()) ∨ c = .closeLine .con (.fields ()) ∨
      c = .inspectionEnter .con (.fields ()) ∨ c = .inspectionLeave .con (.fields ()) ∨
      (isReset c = true ∧ u.lsu.line = .closed) := by
  cases h with
  | moves _ h => exact .inl h.kept.2.2
  | openLine | closeLine | leaveInspection | enterInspection => simp
  | evacuate | maintain => simp
  | select => unfold takeSnapshotSelect; split <;> simp
  | snapshot => simp [takeSnapshot]
  | readNotice | enableNotices => simp
  | powerOn => simp [resetCleared, resetBlocks, lsuReset, isReset]
  | pinReset hc => simp [resetCleared, resetBlocks, lsuReset, hc]
  | resetPart => simp [Machine.resetPart, resetBlocks, lsuReset, isReset]
  | resetRefused => exact .inl rfl

/-- Settles O46: of the acts only the console's requests on the line state and the resets write it. -/
theorem lineStateChangesByRequest : Obligations.LineStateChangesByRequest := by
  intro c s t ht hne
  obtain ⟨u, hact, hend⟩ := exec_acts ht
  obtain ⟨-, -, -, -, -, -, -, -, hlsu, -⟩ := hend.same
  rw [hlsu] at hne ⊢
  exact hact.line.resolve_left hne

/-! ## O9 -/

/-- What the records show, less what each shows of the notice unit: the blocks and three of the unit's lists. -/
theorem recordCore_congr (hcfg : t.cfg = u.cfg) (hcru : t.cru = u.cru) (hpsu : t.psu = u.psu) (hclc : t.clc = u.clc)
    (hbrs : t.brs = u.brs) (htrc : t.trc = u.trc) (hdri : t.dri = u.dri) (hadm : t.adm = u.adm) (hlsu : t.lsu = u.lsu)
    (hinc : t.niu.incidents = u.niu.incidents) (hover : t.niu.overflow = u.niu.overflow)
    (hcauses : t.niu.resetCauses = u.niu.resetCauses) (k : SnapKind) : recordCore t k = recordCore u k := by
  obtain ⟨⟩ := t
  obtain ⟨⟩ := u
  simp only at hcfg hcru hpsu hclc hbrs htrc hdri hadm hlsu hinc hover hcauses
  subst hcfg hcru hpsu hclc hbrs htrc hdri hadm hlsu
  cases k with
  | incidentHead => simp only [recordCore, hinc, hover]
  | resetCause => simp only [recordCore, hcauses]
  | _ => rfl

/-- No record shows the line bus port, the notices or an overtaken mark. -/
theorem Ended.core (h : Ended s u t) (k : SnapKind) : recordCore t k = recordCore u k := by
  cases h <;> apply recordCore_congr <;> simp

/-- The fresh marks after a command: those that its act leaves, and every one of a record that shows something else (R162). -/
theorem Ended.mem_fresh (h : Ended s u t) (st : Station) (k : SnapKind) :
    k ∈ t.lbp.fresh.get st ↔ k ∈ u.lbp.fresh.get st ∨ (recordCore s k ≠ recordCore t k) := by
  rw [h.core]
  cases h with
  | silent _ _ _ hcore => simp [hcore]
  | reset _ _ hlbp =>
    have hall : k ∈ u.lbp.fresh.get st := by rw [hlbp]; cases st <;> cases k <;> decide
    simp [hall]
  | finished | taken | replied => exact (mem_finish_fresh s u st k).trans (by rw [recordCore_latchAll])

/-- An act leaves the fresh marks of every master but the requester of a SNAPSHOT; a reset sets every one (R162, R163). -/
theorem Act.fresh {c : Instr} (h : Act s c u) (hr : isReset c = false) (st : Station) (hc : ∀ p, c ≠ .snapshot st p) :
    u.lbp.fresh.get st = s.lbp.fresh.get st := by
  cases h with
  | moves _ h => rw [h.kept.2.1]
  | openLine | closeLine | leaveInspection | enterInspection | evacuate | maintain | readNotice | enableNotices => simp
  | select => unfold takeSnapshotSelect; split <;> simp
  | snapshot =>
    rename_i st' p
    have hst : st ≠ st' := fun he => hc p (he ▸ rfl)
    simp [takeSnapshot, PerStation.get_set_other _ _ hst]
  | powerOn | resetPart | resetRefused => cases hr
  | pinReset hc => simp [hc] at hr

/-- No record shows the clock or the queue: a tick changes none (R162). -/
theorem recordCore_tick (s : State) (k : SnapKind) : recordCore (tick s) k = recordCore s k := by
  unfold tick
  dsimp only
  split <;> cases k <;> rfl

/-- Settles O9: what a step changes it marks, and an act leaves the other marks. -/
theorem freshMarksFollowChanges : Obligations.FreshMarksFollowChanges := by
  refine ⟨fun s t hstep k st hne => ?_, fun c s t ht hr k st hc he => ?_⟩
  · unfold step at hstep
    split at hstep
    · cases hstep
      exact absurd (recordCore_tick s k).symm hne
    · obtain ⟨u, -, hend⟩ := exec_acts hstep
      exact (hend.mem_fresh st k).mpr (.inr fun h => hne (.trans (by cases k <;> rfl) h))
  · obtain ⟨u, hact, hend⟩ := exec_acts ht
    rw [hend.mem_fresh, hact.fresh hr st hc]
    simp [he]

end Sys2Proof.Machine
end

section
/-! O4, O5 and O6: what the line bus port does with every command before an owning block sees it (R154, R155, R164). -/

namespace Sys2Proof.Machine

variable {s t : State} {c : Instr} {r : Request} {st : Station} {bs : List Byte}

theorem malformed_of_carries {α : Type} {p : Payload α} (hp : carries p = false) : ∃ raw, p = .malformed raw := by
  cases p with
  | fields => cases hp
  | malformed raw => exact ⟨raw, rfl⟩

theorem pollPayload_malformed (h : bs.length ≠ 7) : pollPayload bs = .malformed bs := by
  unfold pollPayload
  split
  · simp at h
  · rfl

/-- A request command of the catalogue is `request` of its line and its sender; where its payload does not carry its
fields, it is a malformed one. -/
theorem exec_of_requestParts (h : requestParts c = some (r, st, bs)) :
    ∃ (α : Type) (p : Payload α) (body : α → State → Answer), exec c = request r st p body ∧
      (carriesFields c = false → ∃ raw, p = .malformed raw) := by
  cases c with
  | carPoll =>
    cases h
    exact ⟨_, _, _, funext fun _ => rfl, fun hlen => ⟨bs, pollPayload_malformed (by simpa [carriesFields] using hlen)⟩⟩
  | _ => cases h <;> exact ⟨_, _, _, funext fun _ => rfl, malformed_of_carries⟩

/-- A request that the port refuses itself changes nothing. -/
theorem refused_by_port (why : Reason) :
    Replied r st (.refused why) (if isStoreRequest r then .cfg .nothing s.cfg.committed else .nothing)
        (replyTo r st s (refuse why (refusalData r s) s)) ∧
      KeepsBut [] s (replyTo r st s (refuse why (refusalData r s) s)) :=
  ⟨replied_replyTo .., by simp [KeepsBut.refl]⟩

/-- Settles O4: the role check is the port's, before the payload is looked at. -/
theorem unpermittedStationIsRefused : Obligations.UnpermittedStationIsRefused := by
  intro c r st bs s hparts hreset hpermit
  obtain ⟨α, p, body, hexec, -⟩ := exec_of_requestParts hparts
  exact ⟨_, hexec ▸ request_notYours body p hreset hpermit, refused_by_port .notYours⟩

/-- A malformed request of a permitted station. -/
theorem malformed_refused {α : Type} {body : α → State → Answer} {p : Payload α} (hp : ∃ raw, p = .malformed raw)
    (h : Heard r st s) :
    ∃ t, request r st p body s = .next t ∧
      Replied r st (.refused .badRequest) (if isStoreRequest r then .cfg .nothing s.cfg.committed else .nothing) t ∧
      KeepsBut [] s t := by
  obtain ⟨raw, rfl⟩ := hp
  exact ⟨_, request_malformed body h raw, refused_by_port .badRequest⟩

/-- Only the reply changes: the frame of a command that no block takes. -/
theorem keepsBut_onReply (reply : Option Reply) : KeepsBut [] s (s.onLbp fun l => { l with reply := reply }) :=
  ⟨rfl, fun p _ => by cases p <;> simp [StatePart.same]⟩

theorem unknownFrame_refused {h : Head} (hreset : s.pins.resetLow = false) (hu : headUnknown h = true) :
    ∃ t, exec (.unknownRequestFrame h) s = .next t ∧ KeepsBut [] s t ∧
      t.lbp.reply = some
        { status := .refused .badRequest
          attention := match stationOf h.station.toNat with
            | some st => attention s st
            | none => false
          cls := h.cls, station := h.station, code := h.code, data := .nothing } := by
  simp only [headUnknown] at hu
  simp only [exec, execUnknownRequestFrame, hreset]
  rcases hr : requestOf h.cls h.code with _ | r <;> rcases hs : stationOf h.station.toNat with _ | st
  case some.some => simp [hr, hs] at hu
  all_goals exact ⟨_, rfl, keepsBut_onReply _, rfl⟩

/-- Settles O5: each frame that carries no request stops at the port. -/
theorem badFramesChangeNothing : Obligations.BadFramesChangeNothing := by
  refine ⟨fun c r st bs s hparts hcarries hheard => ?_, fun st bs s hheard hlen => ?_,
    fun h s hreset hu => unknownFrame_refused hreset hu, fun _ _ => rfl, fun _ => rfl⟩
  · obtain ⟨α, p, body, hexec, hp⟩ := exec_of_requestParts hparts
    exact hexec ▸ malformed_refused (hp hcarries) hheard
  · exact malformed_refused ⟨bs, pollPayload_malformed hlen⟩ hheard

/-- Settles O6: the port hands no request on while RESET_N is low, and no event is taken then. -/
theorem lowResetPinSilencesThePart : Obligations.LowResetPinSilencesThePart := by
  intro c s hreset hpin
  rcases hparts : requestParts c with _ | ⟨r, st, bs⟩
  · cases c with
    | unknownRequestFrame => exact .inr (by simp only [exec, execUnknownRequestFrame, hreset, if_true]; rfl)
    | frameDiscarded | replyCollision => exact .inr rfl
    | encoderEdge | brakeFeedbackChange | dispatch | debouncedLevelFall =>
      simp only [exec, execEncoderEdge, execBrakeFeedbackChange, execDispatch, execDebouncedLevelFall,
        event_resetLow _ hreset, true_or]
    | speedSample | carReportStale | driveRefreshTimerExpiry | releaseWaitExpiry | applyTimerExpiry | minDwellExpiry
    | settleTimerExpiry | leadTimerExpiry | doorCloseTimerExpiry | lapse =>
      simp only [exec, execSpeedSample, execCarReportStale, execDriveRefreshTimerExpiry, execReleaseWaitExpiry,
        execApplyTimerExpiry, execMinDwellExpiry, execSettleTimerExpiry, execLeadTimerExpiry, execDoorCloseTimerExpiry,
        execLapse, timedEvent_resetLow _ hreset, true_or]
    | dispatchInputChange | feedbackInputChange | powerOnReset | pinReset | resetPinReleased | supplyLow
    | supplyRestored => cases hpin
    | _ => cases hparts
  · obtain ⟨α, p, body, hexec, -⟩ := exec_of_requestParts hparts
    exact .inr (hexec ▸ request_resetLow r st body p hreset)

end Sys2Proof.Machine
end

section
/-! O1, O8, O11, O20 and O60: the step, latching, a snapshot's room, the store's line state and arbitration. -/

namespace Sys2Proof.Machine

variable {s t : State}

/-- Settles O1: a step takes the front command off the queue and runs it. -/
theorem stepRunsFrontCommand : Obligations.StepRunsFrontCommand := fun _ _ => rfl

/-! ## O20 -/

/-- Check 2 of R5 comes first in every configuration write. -/
theorem cfgWrite_offClosed {go : State → Answer} (h : s.lsu.line ≠ .closed) : cfgWrite go s = cfgDeny .wrongState s :=
  if_neg h

/-- A configuration write, from a permitted station, off a CLOSED line. -/
theorem cfgWrite_refused {α : Type} {r : Request} {st : Station} {p : Payload α} {body : α → State → Answer}
    (hp : carries p = true) (hbody : ∀ f, ∃ go, body f = cfgWrite go) (hheard : Heard r st s)
    (hline : s.lsu.line ≠ .closed) :
    ∃ t, request r st p body s = .next t ∧
      Replied r st (.refused .wrongState) (.cfg .nothing s.cfg.committed) t ∧ KeepsBut [] s t := by
  cases p with
  | malformed => cases hp
  | fields f =>
    obtain ⟨go, hgo⟩ := hbody f
    exact request_refused body hheard f (by rw [hgo, cfgWrite_offClosed hline]; rfl)

/-- Settles O20: every configuration write is a `cfgWrite`. -/
theorem configWritesNeedClosedLine : Obligations.ConfigWritesNeedClosedLine := by
  intro c r st bs s hc hparts hheard hline
  cases c with
  | setParameter | platformSide | profilePut | profileRemove | profileClear | markerPut | markerRemove | markerClear
  | lanePut | laneRemove | commit =>
    cases hparts
    exact cfgWrite_refused hc (fun _ => ⟨_, rfl⟩) hheard hline
  | _ => cases hc

/-! ## O11 -/

theorem fitting_spec (s : State) (room : Nat) (ks : List SnapKind) :
    (fitting s room ks).1 ++ (fitting s room ks).2 = ks ∧
      ((fitting s room ks).1.map (recordSize s)).sum ≤ room ∧
      ∀ k, (fitting s room ks).2.head? = some k →
        room < ((fitting s room ks).1.map (recordSize s)).sum + recordSize s k := by
  induction ks generalizing room with
  | nil => simp [fitting]
  | cons j rest ih =>
    obtain ⟨happend, hfits, hnext⟩ := ih (room - recordSize s j)
    by_cases hj : recordSize s j ≤ room
    · simp only [fitting, hj, if_true, List.cons_append, happend, List.map_cons, List.sum_cons, true_and]
      exact ⟨by omega, fun k hk => by have := hnext k hk; omega⟩
    · simp only [fitting, hj, if_false, List.nil_append, List.map_nil, List.sum_nil, List.head?_cons, Option.some.injEq]
      exact ⟨trivial, by omega, fun k hk => by subst hk; omega⟩

/-- Settles O11, by induction on the kinds. -/
theorem snapshotCarriesWhatFits : Obligations.SnapshotCarriesWhatFits := by
  intro s room ks carried left h
  simpa only [h] using fitting_spec s room ks

/-! ## O8 -/

/-- `k` comes no later than `j` in priority and, at one priority, in the table of notices (R165). -/
def Precedes (k j : NoticeKind) : Prop :=
  priority k < priority j ∨ (priority k = priority j ∧ allNoticeKinds.idxOf k ≤ allNoticeKinds.idxOf j)

theorem Precedes.rfl {k : NoticeKind} : Precedes k k := .inr ⟨Eq.refl _, Nat.le_refl _⟩

theorem Precedes.trans {i j k : NoticeKind} (h : Precedes i j) (h' : Precedes j k) : Precedes i k := by
  unfold Precedes at *
  omega

theorem better_mem (a b : NoticeKind) : better a b = a ∨ better a b = b := by
  unfold better
  split <;> simp

theorem better_precedes (a b : NoticeKind) : Precedes (better a b) a ∧ Precedes (better a b) b := by
  unfold better Precedes
  split <;> omega

/-- The fold of `better` is one of the kinds, and precedes each. -/
theorem foldl_better (ks : List NoticeKind) (a : NoticeKind) :
    ks.foldl better a ∈ a :: ks ∧ ∀ j ∈ a :: ks, Precedes (ks.foldl better a) j := by
  induction ks generalizing a with
  | nil => simp [Precedes.rfl]
  | cons b rest ih =>
    obtain ⟨hmem, hfirst⟩ := ih (better a b)
    obtain ⟨ha, hb⟩ := better_precedes a b
    have hbest := hfirst _ (List.mem_cons_self ..)
    refine ⟨?_, ?_⟩
    · rcases better_mem a b with h | h <;> simp only [List.foldl_cons, h, List.mem_cons] at hmem ⊢ <;> tauto
    · simp only [List.mem_cons, List.foldl_cons, forall_eq_or_imp]
      exact ⟨hbest.trans ha, hbest.trans hb, fun j hj => hfirst j (List.mem_cons_of_mem _ hj)⟩

/-- What latching latches (R168). -/
theorem latch_latched (r : NoticeRecord) :
    (latch r).latched = r.latched.or ((eligible r).head?.map fun k => (eligible r).tail.foldl better k) := by
  unfold latch
  rcases hl : r.latched with _ | k <;> rcases he : eligible r with _ | ⟨k', ks⟩ <;> simp [hl]

theorem latch_pending (r : NoticeRecord) : (latch r).pending = r.pending := by
  unfold latch
  split <;> rfl

theorem latch_enabled (r : NoticeRecord) : (latch r).enabled = r.enabled := by
  unfold latch
  split <;> rfl

theorem latch_of_latched {r : NoticeRecord} (h : r.latched.isSome = true) : latch r = r := by
  unfold latch
  split
  next hl _ => simp [hl] at h
  next => rfl

/-- Settles O8: the fold of `better` over the eligible kinds finds one that precedes each. -/
theorem latchPicksHighestPriority : Obligations.LatchPicksHighestPriority := by
  intro r
  refine ⟨latch_pending r, latch_enabled r, latch_of_latched, fun hr hn => ?_, fun hr k hk => ?_⟩
  · rw [latch_latched, hr] at hn
    simpa using hn
  · rw [latch_latched, hr] at hk
    rcases he : eligible r with _ | ⟨a, ks⟩
    · simp [he] at hk
    · have hk : ks.foldl better a = k := by simpa [he] using hk
      exact hk ▸ foldl_better ks a

end Sys2Proof.Machine
end

section
/-! O2: an idle step, and when each event is due (log 3). -/

namespace Sys2Proof.Machine

variable {s : State} {i : Instr}

theorem mem_expiry (tm : Option Timer) (j : Instr) : i ∈ expiry s tm j ↔ TimerDue s tm ∧ i = j := by
  unfold expiry TimerDue
  cases tm with
  | none => simp
  | some t => by_cases h : t.due ≤ s.now <;> simp [h]

theorem mem_dueStale (c : Car) :
    i ∈ dueStale s c ↔ ((s.cru.get c).fresh = true ∧ s.params.tCar < reportAge s c) ∧ i = .carReportStale c := by
  unfold dueStale
  by_cases h : staleDue s c = true
  · simp only [h, if_true, List.mem_singleton]
    simp only [staleDue, decide_eq_true_eq] at h
    simp [h]
  · simp only [h]
    simp only [staleDue, decide_eq_true_eq] at h
    simp [h]

/-- A reservation's own timer (R131). -/
theorem mem_lapses :
    i ∈ s.adm.reservations.flatMap (fun r => expiry s (some r.timer) (.lapse r.lane)) ↔
      ∃ r ∈ s.adm.reservations, r.timer.due ≤ s.now ∧ i = .lapse r.lane := by
  simp [mem_expiry, TimerDue]

/-- A feedback input that has stood at a new level for 2 ms (R164). -/
theorem mem_dueFeedbacks :
    (i ∈ [Brake.service, Brake.emergency].filterMap fun b =>
        if (s.pins.input b).level ≠ s.brs.fb b ∧ (s.pins.input b).since + Config.inputHoldMs ≤ s.now then
          some (Instr.brakeFeedbackChange b (s.pins.input b).level)
        else none) ↔
      ∃ b, (s.pins.input b).level ≠ s.brs.fb b ∧ (s.pins.input b).since + 2 ≤ s.now ∧
        i = .brakeFeedbackChange b (s.pins.input b).level := by
  have hb (b : Brake) : b ∈ [Brake.service, Brake.emergency] := by cases b <;> simp
  simp only [List.mem_filterMap, hb, true_and, Option.ite_none_right_eq_some, Option.some.injEq, and_assoc,
    eq_comm (b := i)]
  rfl

/-- The level that the debounce takes next, and when (R87): that of `LineHeld`. -/
theorem steadyLine_due (v : Bool) :
    ((steadyLine s.trc.debounced s.pins).level = v ∧ (steadyLine s.trc.debounced s.pins).level ≠ s.trc.debounced ∧
        (steadyLine s.trc.debounced s.pins).since + Config.debounceMs ≤ s.now) ↔ LineHeld s v := by
  have hms : Config.debounceMs = 50 ∧ Config.inputHoldMs = 2 := ⟨rfl, rfl⟩
  have htwo (x : Bool) (hx : x ≠ s.trc.debounced) (hv : s.trc.debounced ≠ v) : x = v :=
    (Bool.eq_not.mpr hx).trans (Bool.eq_not.mpr hv.symm).symm
  have hin := htwo s.pins.dispatchIn.level
  have hline := htwo s.pins.dispatchLine.level
  unfold LineHeld steadyLine filtered
  split
  next hheld => grind
  next hheld => split <;> grind

theorem mem_dueInputs :
    i ∈ dueInputs s ↔
      (∃ b, (s.pins.input b).level ≠ s.brs.fb b ∧ (s.pins.input b).since + 2 ≤ s.now ∧
        i = .brakeFeedbackChange b (s.pins.input b).level) ∨
      (LineHeld s true ∧ i = .dispatch) ∨ (LineHeld s false ∧ i = .debouncedLevelFall) := by
  unfold dueInputs
  rw [List.mem_append, mem_dueFeedbacks, ← steadyLine_due, ← steadyLine_due]
  refine or_congr Iff.rfl ?_
  dsimp only
  by_cases h : (steadyLine s.trc.debounced s.pins).level ≠ s.trc.debounced ∧
      (steadyLine s.trc.debounced s.pins).since + Config.debounceMs ≤ s.now
  · cases hl : (steadyLine s.trc.debounced s.pins).level <;> simp_all
  · simp [h]

theorem mem_dueTimed :
    i ∈ dueTimed s ↔
      (∃ c, ((s.cru.get c).fresh = true ∧ s.params.tCar < reportAge s c) ∧ i = .carReportStale c) ∨
      (TimerDue s s.brs.refreshTimer ∧ i = .driveRefreshTimerExpiry) ∨
      (TimerDue s s.brs.releaseWait ∧ i = .releaseWaitExpiry) ∨
      (TimerDue s s.brs.sbApply ∧ i = .applyTimerExpiry .service) ∨
      (TimerDue s s.brs.ebApply ∧ i = .applyTimerExpiry .emergency) ∨
      (TimerDue s s.trc.minDwell ∧ i = .minDwellExpiry) ∨ (TimerDue s s.trc.settleTimer ∧ i = .settleTimerExpiry) ∨
      (TimerDue s s.dri.leadTimer ∧ i = .leadTimerExpiry) ∨ (TimerDue s s.dri.doorTimer ∧ i = .doorCloseTimerExpiry) ∨
      (∃ r ∈ s.adm.reservations, r.timer.due ≤ s.now ∧ i = .lapse r.lane) ∨
      (TimerDue s (some s.psu.sampleTimer) ∧ i = .speedSample) := by
  have hcar (p : Car → Prop) : (∃ c, p c) ↔ p .a ∨ p .b :=
    ⟨fun ⟨c, h⟩ => by cases c <;> simp [h], fun h => h.elim (⟨_, ·⟩) (⟨_, ·⟩)⟩
  unfold dueTimed
  simp only [List.mem_append, mem_dueStale, mem_expiry, mem_lapses, hcar, or_assoc]

/-- An event is due exactly where its time has come. -/
theorem mem_dueEvents : i ∈ dueEvents s ↔ EventDue s i := by
  unfold dueEvents
  rw [List.mem_append, mem_dueInputs, mem_dueTimed]
  cases i with
  | brakeFeedbackChange b v =>
    have h : EventDue s (.brakeFeedbackChange b v) ↔
        (s.pins.input b).level = v ∧ s.brs.fb b ≠ v ∧ (s.pins.input b).since + 2 ≤ s.now := by
      cases b <;> rfl
    grind
  | applyTimerExpiry b => cases b <;> simp [EventDue]
  | lapse id => simp [EventDue, eq_comm (a := id), and_comm]
  | _ => simp [EventDue, TimerDue]

/-- Settles O2: the due list is the events whose time has come. -/
theorem idleStepIsOneMillisecond : Obligations.IdleStepIsOneMillisecond := by
  refine ⟨fun s hs => ?_, fun s i => mem_dueEvents⟩
  unfold step
  rw [hs]
  dsimp only [tick]
  cases hr : s.pins.resetLow <;> simp [hs]

end Sys2Proof.Machine
end

section
/-! O59 and O60: stuffing and arbitration on the wire (R152, R153). -/

namespace Sys2Proof.Machine

/-! ## Stuffing -/

theorem unstuffFrom_stuffFrom (last : Option Bool) (run : Nat) (bits : List Bool) :
    unstuffFrom last run (stuffFrom last run bits) = (bits, true) := by
  induction bits generalizing last run with
  | nil => rfl
  | cons b rest ih =>
    by_cases h : runLength last run b = 5
    · simp [stuffFrom, unstuffFrom, h, ih]
    · rw [stuffFrom, if_neg h, unstuffFrom.eq_def]
      simp [h, ih]

theorem unstuff_stuff (bits : List Bool) : unstuff (stuff bits) = (bits, true) := unstuffFrom_stuffFrom none 0 bits

/-- No run, counted on from `run` bits of level `last`, is longer than five. -/
def RunsWithinFive (last : Option Bool) (run : Nat) : List Bool → Prop
  | [] => True
  | b :: rest => runLength last run b ≤ 5 ∧ RunsWithinFive (some b) (runLength last run b) rest

theorem runLength_le (last : Option Bool) (run : Nat) (b : Bool) : runLength last run b ≤ run + 1 := by
  unfold runLength
  split <;> omega

theorem stuffFrom_runs (last : Option Bool) (run : Nat) (hrun : run ≤ 4) (bits : List Bool) :
    RunsWithinFive last run (stuffFrom last run bits) := by
  induction bits generalizing last run with
  | nil => trivial
  | cons b rest ih =>
    have hle := runLength_le last run b
    by_cases h : runLength last run b = 5
    · simp only [stuffFrom, h, if_true, RunsWithinFive]
      have hnew : runLength (some b) 5 (!b) = 1 := by cases b <;> rfl
      exact ⟨Nat.le_refl 5, by omega, hnew ▸ ih (some !b) 1 (by omega)⟩
    · simp only [stuffFrom, h, if_false, RunsWithinFive]
      exact ⟨by omega, ih _ _ (by omega)⟩

theorem six_runs (last : Option Bool) (run : Nat) (b : Bool) (before after : List Bool) :
    ¬ RunsWithinFive last run (before ++ List.replicate 6 b ++ after) := by
  induction before generalizing last run with
  | nil =>
    have hfirst : 1 ≤ runLength last run b := by
      unfold runLength
      split <;> omega
    simp only [List.replicate, List.nil_append, List.cons_append, RunsWithinFive, runLength, if_true]
    simp only [runLength] at hfirst
    omega
  | cons x rest ih => exact fun h => ih _ _ h.2

/-- Settles O59, by induction on the bits, with the run counted so far as the invariant. -/
theorem stuffingIsTransparent : Obligations.StuffingIsTransparent := fun bits =>
  ⟨unstuff_stuff bits, fun b before after h => six_runs none 0 b before after (h ▸ stuffFrom_runs none 0 (by omega) bits)⟩

/-! ## Arbitration -/

/-- Bit `i` of a word from its most significant end. -/
theorem getMsbD_eq {n i : Nat} (hi : i < n) (w : BitVec n) : w.getMsbD i = decide (w.toNat / 2 ^ (n - 1 - i) % 2 = 1) := by
  simp only [BitVec.getMsbD, BitVec.getLsbD, Nat.testBit_eq_decide_div_mod_eq, decide_eq_true hi, Bool.true_and]

/-- Bit `i` of a head is bit `11 - i` of its value. -/
theorem headBit_iff {i : Nat} (hi : i < 12) (h : Head) : headBit i h = true ↔ headValue h / 2 ^ (11 - i) % 2 = 1 := by
  obtain ⟨cls, station, code⟩ := h
  have hcls := cls.isLt
  have hstation := station.isLt
  have hcode := code.isLt
  have hbits : headBits ⟨cls, station, code⟩ =
      [cls.getMsbD 0, cls.getMsbD 1, station.getMsbD 0, station.getMsbD 1, station.getMsbD 2, code.getMsbD 0,
       code.getMsbD 1, code.getMsbD 2, code.getMsbD 3, code.getMsbD 4, code.getMsbD 5, code.getMsbD 6] := rfl
  simp only [headBit, hbits, headValue]
  interval_cases i <;>
    simp [getMsbD_eq] <;> omega

/-- A head's value to the bits from `k` on, and what bit `k` adds. -/
theorem headValue_step {i : Nat} (hi : i < 12) (h : Head) :
    headValue h / 2 ^ (11 - i) = 2 * (headValue h / 2 ^ (12 - i)) + (headBit i h).toNat := by
  have hpow : 2 ^ (12 - i) = 2 ^ (11 - i) * 2 := by rw [← pow_succ]; congr 1; omega
  have hbit := headBit_iff hi h
  rw [hpow, ← Nat.div_div_eq_div_mul]
  cases hb : headBit i h <;> simp [hb] at hbit ⊢ <;> omega

theorem mem_afterBit {hs : List Head} {i : Nat} {h : Head} :
    h ∈ afterBit hs i ↔ h ∈ hs ∧ (headBit i h = true → ∀ g ∈ hs, headBit i g = true) := by
  unfold afterBit
  split
  next hall => simp only [List.all_eq_true] at hall; exact ⟨fun hm => ⟨hm, fun _ => hall⟩, fun hm => hm.1⟩
  next hall =>
    simp only [List.all_eq_true] at hall
    simp only [List.mem_filter, decide_eq_true_eq, hall, imp_false, Bool.not_eq_true]

/-- After `i` bits those go on whose value is least in its first `i` bits. -/
theorem mem_afterBits (hs : List Head) (i : Nat) (hi : i ≤ 12) (h : Head) :
    h ∈ (List.range i).foldl afterBit hs ↔
      h ∈ hs ∧ ∀ g ∈ hs, headValue h / 2 ^ (12 - i) ≤ headValue g / 2 ^ (12 - i) := by
  induction i generalizing h with
  | zero =>
    have hvalue (g : Head) : headValue g / 2 ^ 12 = 0 := by
      have := g.cls.isLt
      have := g.station.isLt
      have := g.code.isLt
      unfold headValue
      omega
    simp only [Nat.sub_zero, hvalue, Nat.le_refl, implies_true, and_true, List.range_zero, List.foldl_nil]
  | succ i ih =>
    have hsub : 12 - (i + 1) = 11 - i := by omega
    have hstep := headValue_step (i := i) (by omega)
    have hbit (g : Head) : (headBit i g).toNat ≤ 1 := by cases headBit i g <;> simp
    rw [List.range_succ, List.foldl_append, List.foldl_cons, List.foldl_nil, mem_afterBit]
    simp only [ih (by omega), hsub, hstep]
    constructor
    · rintro ⟨⟨hmem, hleast⟩, hlost⟩
      refine ⟨hmem, fun g hg => ?_⟩
      have hle := hleast g hg
      by_cases heq : headValue h / 2 ^ (12 - i) = headValue g / 2 ^ (12 - i)
      · cases hb : headBit i h with
        | false => simp; omega
        | true =>
          have := hlost hb g ⟨hg, heq ▸ hleast⟩
          simp [this, heq]
      · have := hbit h
        omega
    · rintro ⟨hmem, hleast⟩
      have hfirst : ∀ g ∈ hs, headValue h / 2 ^ (12 - i) ≤ headValue g / 2 ^ (12 - i) := fun g hg => by
        have := hleast g hg
        have := hbit g
        omega
      refine ⟨⟨hmem, hfirst⟩, fun hb g hg => ?_⟩
      have hg1 := hleast g hg.1
      have hg2 := hg.2 h hmem
      cases hgb : headBit i g with
      | true => rfl
      | false => simp [hb, hgb] at hg1; omega

/-- Settles O60, by induction on the bits sent. -/
theorem arbitrationLeavesTheLeastHead : Obligations.ArbitrationLeavesTheLeastHead := by
  intro hs h
  simpa only [arbitrate, Nat.sub_self, pow_zero, Nat.div_one] using mem_afterBits hs 12 (Nat.le_refl 12) h

end Sys2Proof.Machine
end

section
/-! O58: a request's frame on the wire and back (R152, R154). The bits of a frame are read back as its head, its length, its
payload and its check; a well-formed command is what its frame is read as (Laws/PerInstr). -/

namespace Sys2Proof.Machine

/-! ## Words and bytes as bits -/

@[simp] theorem bitsOf_length {n : Nat} (w : BitVec n) : (bitsOf w).length = n := by simp [bitsOf]

/-- The first `i` bits of a word spell it without its last `n - i`. -/
theorem natOf_firstBits {n : Nat} (w : BitVec n) (i : Nat) (hi : i ≤ n) :
    natOf ((List.range i).map fun j => w.getMsbD j) = w.toNat / 2 ^ (n - i) := by
  induction i with
  | zero => simp [natOf, Nat.div_eq_of_lt w.isLt]
  | succ i ih =>
    have hpow : 2 ^ (n - i) = 2 ^ (n - (i + 1)) * 2 := by rw [← pow_succ]; congr 1; omega
    have hsub : n - 1 - i = n - (i + 1) := by omega
    have ih := ih (by omega)
    unfold natOf at ih ⊢
    rw [List.range_succ, List.map_append, List.foldl_append, ih, hpow, ← Nat.div_div_eq_div_mul]
    simp only [List.map_cons, List.map_nil, List.foldl_cons, List.foldl_nil, getMsbD_eq (show i < n by omega), hsub]
    by_cases hb : w.toNat / 2 ^ (n - (i + 1)) % 2 = 1 <;> simp [hb] <;> omega

theorem natOf_bitsOf {n : Nat} (w : BitVec n) : natOf (bitsOf w) = w.toNat := by
  simpa [bitsOf] using natOf_firstBits w n (Nat.le_refl n)

theorem ofNat_natOf_bitsOf {n : Nat} (w : BitVec n) : BitVec.ofNat n (natOf (bitsOf w)) = w := by
  simp [natOf_bitsOf]

@[simp] theorem byteBits_length (bs : List Byte) : (byteBits bs).length = 8 * bs.length := by
  induction bs with
  | nil => rfl
  | cons b rest ih => simp only [byteBits, List.length_append, bitsOf_length, ih, List.length_cons]; omega

theorem bytesFrom_byteBits (bs : List Byte) : bytesFrom bs.length (byteBits bs) = bs := by
  induction bs with
  | nil => rfl
  | cons b rest ih =>
    simp only [List.length_cons, byteBits, bytesFrom, List.take_left' (bitsOf_length b), List.drop_left' (bitsOf_length b),
      ofNat_natOf_bitsOf, ih]

/-! ## The parts of a frame -/

variable (f : RequestFrame)

@[simp] theorem headBits_length (h : Head) : (headBits h).length = 12 := by simp [headBits]

@[simp] theorem bodyBits_length : (bodyBits f).length = 20 + 8 * f.payload.length := by
  simp only [bodyBits, List.length_append, headBits_length, bitsOf_length, byteBits_length]

@[simp] theorem requestBits_length : (requestBits f).length = 20 + 8 * f.payload.length + 16 := by
  simp only [requestBits, List.length_append, bodyBits_length, bitsOf_length]

/-- The first 12 bits of a body are its head. -/
theorem headFrom_bodyBits : headFrom (bodyBits f) = f.head := by
  obtain ⟨⟨cls, station, code⟩, payload⟩ := f
  simp only [headFrom, bodyBits, headBits, List.append_assoc, List.take_left' (bitsOf_length cls),
    List.drop_left' (bitsOf_length cls), List.take_left' (bitsOf_length station), ofNat_natOf_bitsOf]
  have hdrop (rest : List Bool) : (bitsOf cls ++ (bitsOf station ++ rest)).drop 5 = rest := by
    rw [← List.append_assoc]
    exact List.drop_left' (by simp)
  simp only [hdrop, List.take_left' (bitsOf_length code), ofNat_natOf_bitsOf]

/-- The next 8 bits are the length of its payload. -/
theorem length_in_requestBits (h : f.payload.length < 256) : natOf (((requestBits f).drop 12).take 8) = f.payload.length := by
  simp only [requestBits, bodyBits, List.append_assoc, List.drop_left' (headBits_length f.head),
    List.take_left' (bitsOf_length (BitVec.ofNat 8 f.payload.length)), natOf_bitsOf, BitVec.toNat_ofNat]
  exact Nat.mod_eq_of_lt h

/-- The bits from the 20th on are its payload. -/
theorem payload_of_bodyBits : bytesFrom f.payload.length ((bodyBits f).drop 20) = f.payload := by
  rw [bodyBits, List.drop_left' (by simp), bytesFrom_byteBits]

/-- A request frame is received as it was sent. -/
theorem receive_requestWire (h : f.payload.length ≤ Config.payloadMax) : receive (requestWire f) = .ok f := by
  have hshort : f.payload.length < 256 := Nat.lt_of_le_of_lt h (by decide)
  have htake : (requestBits f).take (20 + 8 * f.payload.length) = bodyBits f := List.take_left' (bodyBits_length f)
  have hdrop : (requestBits f).drop (20 + 8 * f.payload.length) = bitsOf (checkOf (bodyBits f)) :=
    List.drop_left' (bodyBits_length f)
  have hcheck : (bitsOf (checkOf (bodyBits f))).take 16 = bitsOf (checkOf (bodyBits f)) :=
    List.take_of_length_le (by simp)
  have hlong : ¬ (20 + 8 * f.payload.length + 16 < 20) := by omega
  simp only [receive, requestWire, unstuff_stuff, requestBits_length, length_in_requestBits f hshort, Nat.not_lt.mpr h,
    hlong, Nat.lt_irrefl, if_false, htake, hdrop, hcheck, if_true, headFrom_bodyBits, payload_of_bodyBits]

/-! ## Every well-formed request fits a frame -/

/-- Every field that `put` sends fits a frame. -/
def Fits {α : Type} (put : α → List Byte) (ok : α → Bool) : Prop := ∀ x, ok x = true → (put x).length ≤ Config.payloadMax

theorem Fits.payload {α : Type} [DecidableEq α] {take : List Byte → Option (α × List Byte)} {put : α → List Byte}
    {ok : α → Bool} (h : Fits put ok) {p : Payload α} (hp : payloadOk take ok p = true) :
    (payloadBytes put p).length ≤ Config.payloadMax := by
  cases p with
  | fields x => exact h x hp
  | malformed bs =>
    simp only [payloadOk, Bool.decide_and, Bool.and_eq_true, decide_eq_true_eq] at hp
    exact hp.1

/-- A form of at most ten bytes fits. -/
theorem fits_of_short {α : Type} {put : α → List Byte} (h : ∀ x, (put x).length ≤ 10) (ok : α → Bool) : Fits put ok :=
  fun x _ => Nat.le_trans (h x) (by decide)

theorem setParameterBytes_length (f : Coded Param × Int) : (setParameterBytes f).length ≤ 10 := by
  unfold setParameterBytes
  split <;> simp [numBytes]

theorem optByteBytes_length (n : Option Nat) : (optByteBytes n).length ≤ 2 := by
  cases n <;> simp [optByteBytes]

theorem tripRequestBytes_length (f : TripRequestFields) : (tripRequestBytes f).length ≤ 10 := by
  have := optByteBytes_length f.slot
  simp only [tripRequestBytes, List.length_append, List.length_cons, List.length_nil]
  omega

theorem maintTargetBytes_length (m : MaintTarget) : (maintTargetBytes m).length ≤ 10 := by
  cases m <;> simp [maintTargetBytes]

theorem entryRefBytes_length (e : EntryRef) : (entryRefBytes e).length ≤ 10 := by
  cases e <;> simp [entryRefBytes, laneRefBytes]

theorem fits_codedList {α : Type} [DecidableEq α] (l : List α) : Fits (codedListBytes l) (codedListOk l) := by
  intro xs h
  simp only [codedListOk, Bool.and_eq_true, decide_eq_true_eq] at h
  simpa [codedListBytes] using h.1

theorem payload_fits {c : Instr} {r : Request} {st : Station} {bs : List Byte} (hw : wellFormed c = true)
    (hc : requestParts c = some (r, st, bs)) : bs.length ≤ Config.payloadMax := by
  cases c with
  | carPoll => cases hc; exact of_decide_eq_true hw
  | tripRequest => cases hc; exact (fits_of_short tripRequestBytes_length _).payload hw
  | cancelTrip => cases hc; exact (fits_of_short (fun n => Nat.le_trans (optByteBytes_length n) (by decide)) _).payload hw
  | maintEnd => cases hc; exact (fits_of_short maintTargetBytes_length _).payload hw
  | setParameter => cases hc; exact (fits_of_short setParameterBytes_length _).payload hw
  | readEntry => cases hc; exact (fits_of_short entryRefBytes_length _).payload hw
  | snapshotSelect | noticeEnable => cases hc; exact (fits_codedList _).payload hw
  | _ =>
    cases hc <;>
      exact (fits_of_short (fun _ => by
        simp [unitBytes, codedByte, numBytes, pairBytes, laneRefBytes, lanePutBytes]) _).payload hw

/-! ## O58 -/

/-- Every command that has a frame is what its frame is read as. -/
theorem frame_readsBack (c : Instr) : Laws.FrameRoundTrip.Statement c := by
  cases c with
  | carPoll st bs => exact Laws.FrameRoundTrip.carPoll st bs
  | stop st p => exact Laws.FrameRoundTrip.stop st p
  | estop st p => exact Laws.FrameRoundTrip.estop st p
  | runRefresh st p => exact Laws.FrameRoundTrip.runRefresh st p
  | clearBrake st p => exact Laws.FrameRoundTrip.clearBrake st p
  | tripRequest st p => exact Laws.FrameRoundTrip.tripRequest st p
  | setLimit st p => exact Laws.FrameRoundTrip.setLimit st p
  | maintEnd st p => exact Laws.FrameRoundTrip.maintEnd st p
  | admitPerson st p => exact Laws.FrameRoundTrip.admitPerson st p
  | passed st p => exact Laws.FrameRoundTrip.passed st p
  | abandoned st p => exact Laws.FrameRoundTrip.abandoned st p
  | exited st p => exact Laws.FrameRoundTrip.exited st p
  | openLine st p => exact Laws.FrameRoundTrip.openLine st p
  | closeLine st p => exact Laws.FrameRoundTrip.closeLine st p
  | inspectionEnter st p => exact Laws.FrameRoundTrip.inspectionEnter st p
  | inspectionLeave st p => exact Laws.FrameRoundTrip.inspectionLeave st p
  | resetPart st p => exact Laws.FrameRoundTrip.resetPart st p
  | profileRemove st p => exact Laws.FrameRoundTrip.profileRemove st p
  | profileClear st p => exact Laws.FrameRoundTrip.profileClear st p
  | markerPut st p => exact Laws.FrameRoundTrip.markerPut st p
  | markerRemove st p => exact Laws.FrameRoundTrip.markerRemove st p
  | markerClear st p => exact Laws.FrameRoundTrip.markerClear st p
  | lanePut st p => exact Laws.FrameRoundTrip.lanePut st p
  | laneRemove st p => exact Laws.FrameRoundTrip.laneRemove st p
  | commit st p => exact Laws.FrameRoundTrip.commit st p
  | enableLane st p => exact Laws.FrameRoundTrip.enableLane st p
  | disableLane st p => exact Laws.FrameRoundTrip.disableLane st p
  | readEntry st p => exact Laws.FrameRoundTrip.readEntry st p
  | snapshot st p => exact Laws.FrameRoundTrip.snapshot st p
  | nextNotice st p => exact Laws.FrameRoundTrip.nextNotice st p
  | incidentRead st p => exact Laws.FrameRoundTrip.incidentRead st p
  | incidentAck st p => exact Laws.FrameRoundTrip.incidentAck st p
  | resetCauseRead st p => exact Laws.FrameRoundTrip.resetCauseRead st p
  | cancelTrip st p => exact Laws.FrameRoundTrip.cancelTrip st p
  | setMode st p => exact Laws.FrameRoundTrip.setMode st p
  | evacuate st p => exact Laws.FrameRoundTrip.evacuate st p
  | evacuateEnd st p => exact Laws.FrameRoundTrip.evacuateEnd st p
  | maintRelease st p => exact Laws.FrameRoundTrip.maintRelease st p
  | setReference st p => exact Laws.FrameRoundTrip.setReference st p
  | setClearInInspection st p => exact Laws.FrameRoundTrip.setClearInInspection st p
  | setParameter st p => exact Laws.FrameRoundTrip.setParameter st p
  | platformSide st p => exact Laws.FrameRoundTrip.platformSide st p
  | profilePut st p => exact Laws.FrameRoundTrip.profilePut st p
  | adjustLoad st p => exact Laws.FrameRoundTrip.adjustLoad st p
  | clearUncounted st p => exact Laws.FrameRoundTrip.clearUncounted st p
  | clearAlarm st p => exact Laws.FrameRoundTrip.clearAlarm st p
  | readParameter st p => exact Laws.FrameRoundTrip.readParameter st p
  | snapshotSelect st p => exact Laws.FrameRoundTrip.snapshotSelect st p
  | noticeEnable st p => exact Laws.FrameRoundTrip.noticeEnable st p
  | _ => exact Laws.FrameRoundTrip.of_event rfl

/-- Settles O58: the wire gives the frame back, and the frame is the command's. -/
theorem commandSurvivesTheWire : Obligations.CommandSurvivesTheWire := by
  intro c f hw hf
  have hread := frame_readsBack c hw f hf
  rcases hparts : requestParts c with _ | ⟨r, st, bs⟩
  · simp [frameOf, hparts] at hf
  · have hpayload : f.payload = bs := by
      simp only [frameOf, hparts, Option.map_some, Option.some.injEq] at hf
      rw [← hf]
    simp only [commandOnWire, receive_requestWire f (hpayload ▸ payload_fits hw hparts), hread]

end Sys2Proof.Machine
end

section
/-! The running line (O53), first layer: what each operation on the trip state, the brakes and the doors keeps. `RunCore` is
what holds within a command too; the slots and the stage of the trip state are settled at its end. -/

namespace Sys2Proof.Machine

/-- What `RunSafe` asks in the middle of a command as at its end. -/
structure RunCore (s : State) : Prop where
  stage    : StageInv s
  outputs  : OutputInv s
  line     : LineInv s
  timers   : TimerInv s
  releases : ReleaseInv s

theorem runSafe_iff {s : State} : RunSafe s ↔ RunCore s ∧ FlightInv s ∧ TripStageInv s :=
  ⟨fun ⟨h1, h2, h3, h4, h5, h6, h7⟩ => ⟨⟨h1, h2, h3, h6, h7⟩, h4, h5⟩,
    fun ⟨⟨h1, h2, h3, h6, h7⟩, h4, h5⟩ => ⟨h1, h2, h3, h4, h5, h6, h7⟩⟩

/-- A change of nothing that `RunCore` reads, but that timers may stop, releases end, and reports grow old. -/
structure RunQuiet (s t : State) : Prop where
  line          : t.lsu.line = s.lsu.line
  still         : t.psu.still = s.psu.still
  stage         : t.brs.stage = s.brs.stage
  causes        : t.brs.causes = s.brs.causes
  drivePermit   : t.brs.drivePermit = s.brs.drivePermit
  sbHoldoff     : t.brs.sbHoldoff = s.brs.sbHoldoff
  ebHoldoff     : t.brs.ebHoldoff = s.brs.ebHoldoff
  sbFb          : t.brs.sbFb = s.brs.sbFb
  ebFb          : t.brs.ebFb = s.brs.ebFb
  marked        : markedLocked t = markedLocked s
  locked        : allLocked t = true → allLocked s = true
  refresh       : t.brs.refreshTimer.isSome = true → s.brs.refreshTimer.isSome = true ∨ isPowered s.trc.state = true
  releaseWait   : t.brs.releaseWait.isSome = true → s.brs.releaseWait.isSome = true
  sbApply       : t.brs.sbApply.isSome = true → s.brs.sbApply.isSome = true
  ebApply       : t.brs.ebApply.isSome = true → s.brs.ebApply.isSome = true
  effectiveness : t.brs.effectiveness.isSome = true → s.brs.effectiveness.isSome = true
  state         : t.trc.state = s.trc.state
  minDwell      : t.trc.minDwell.isSome = true → s.trc.minDwell.isSome = true ∧ t.trc.elapsed = s.trc.elapsed
  settle        : t.trc.settleTimer.isSome = true → s.trc.settleTimer.isSome = true ∨ s.trc.state = .settle
  evac          : ∀ c, t.dri.evac.get c = true → s.dri.evac.get c = true
  maint         : ∀ c d, (t.dri.maint.get c).get d = true → (s.dri.maint.get c).get d = true
  lead          : t.dri.leadTimer.isSome = true → s.dri.leadTimer.isSome = true ∧ t.dri.phase = s.dri.phase
  doorClose     : t.dri.doorTimer.isSome = true → s.dri.doorTimer.isSome = true

variable {s t u : State}

/-! ## Reports -/

theorem markedLocked_congr (h : t.cru = s.cru) : markedLocked t = markedLocked s := by
  simp only [markedLocked, h]

theorem markedLocked_iff :
    markedLocked s = true ↔
      s.cru.a.fresh = true ∧ s.cru.b.fresh = true ∧ bothLocked s.cru.a.poll = true ∧ bothLocked s.cru.b.poll = true := by
  simp [markedLocked]

theorem allLocked_iff :
    allLocked s = true ↔
      isFresh s .a = true ∧ isFresh s .b = true ∧ bothLocked s.cru.a.poll = true ∧ bothLocked s.cru.b.poll = true := by
  simp [allLocked]

/-- A report that grows old is fresh no more. -/
theorem allLocked_mono (hcru : t.cru = s.cru) (hcfg : t.cfg = s.cfg) (hnow : s.now ≤ t.now) (h : allLocked t = true) :
    allLocked s = true := by
  simp only [allLocked_iff, isFresh_iff, reportAge, State.params, hcru, hcfg] at h ⊢
  obtain ⟨⟨hfa, ha⟩, ⟨hfb, hb⟩, hlocked⟩ := h
  exact ⟨⟨hfa, by omega⟩, ⟨hfb, by omega⟩, hlocked⟩

theorem marked_of_allLocked (h : allLocked s = true) : markedLocked s = true := by
  simp only [markedLocked_iff, allLocked_iff, isFresh_iff] at h ⊢
  obtain ⟨⟨hfa, -⟩, ⟨hfb, -⟩, hlocked⟩ := h
  exact ⟨hfa, hfb, hlocked⟩

/-- Where no staleness is due, the doors are locked as the records show them. -/
theorem allLocked_of_marked (ha : staleDue s .a = false) (hb : staleDue s .b = false) (h : markedLocked s = true) :
    allLocked s = true := by
  have hfresh (c : Car) (hc : staleDue s c = false) (hm : (s.cru.get c).fresh = true) : isFresh s c = true := by
    simpa [staleDue_eq, hm] using hc
  obtain ⟨hma, hmb, hlocked⟩ := markedLocked_iff.mp h
  exact allLocked_iff.mpr ⟨hfresh .a ha hma, hfresh .b hb hmb, hlocked⟩

/-! ## Outputs (R64) -/

/-- What the outputs that R64 gives turn on. -/
theorem outputsWith_eq (locked : Bool) (hstage : t.brs.stage = s.brs.stage) (hstate : t.trc.state = s.trc.state)
    (heb : t.brs.ebHoldoff = s.brs.ebHoldoff) : outputsWith locked t = outputsWith locked s := by
  simp only [outputsWith, hstage, hstate, heb]

theorem outputsWith_sbHoldoff (locked : Bool) : (outputsWith locked s).sbHoldoff = (outputsWith false s).sbHoldoff := by
  unfold outputsWith
  split <;> try split
  all_goals rfl

theorem outputsWith_ebHoldoff (locked : Bool) : (outputsWith locked s).ebHoldoff = (outputsWith false s).ebHoldoff := by
  unfold outputsWith
  split <;> try split
  all_goals rfl

/-- The permit is called for only where the doors are locked. -/
theorem outputsWith_drivePermit (locked : Bool) :
    (outputsWith locked s).drivePermit = (locked && (outputsWith true s).drivePermit) := by
  unfold outputsWith
  split <;> try split
  all_goals simp

theorem OutputInv.congr (h : OutputInv s) (hstage : t.brs.stage = s.brs.stage) (hstate : t.trc.state = s.trc.state)
    (hpermit : t.brs.drivePermit = s.brs.drivePermit) (hsb : t.brs.sbHoldoff = s.brs.sbHoldoff)
    (heb : t.brs.ebHoldoff = s.brs.ebHoldoff) (hmarked : markedLocked t = markedLocked s)
    (hlocked : allLocked t = true → allLocked s = true) : OutputInv t := by
  obtain ⟨hs, he, hwant, hheld⟩ := h
  unfold OutputInv wantedOutputs at *
  simp only [outputsWith_eq _ hstage hstate heb, outputsWith_sbHoldoff (allLocked _), outputsWith_ebHoldoff (allLocked _),
    outputsWith_drivePermit (allLocked _), outputsWith_drivePermit (markedLocked _), hpermit, hsb, heb, hmarked,
    Bool.and_eq_true] at *
  exact ⟨hs, he, fun ⟨hl, hd⟩ => hwant ⟨hlocked hl, hd⟩, hheld⟩

/-! ## Quiet changes -/

theorem RunQuiet.core (q : RunQuiet s t) (h : RunCore s) : RunCore t where
  stage := by simpa only [StageInv, q.causes, q.stage] using h.stage
  outputs := h.outputs.congr q.stage q.state q.drivePermit q.sbHoldoff q.ebHoldoff q.marked q.locked
  line := by simpa only [LineInv, q.state, q.line] using h.line
  timers :=
    { refresh := fun ht => by rw [q.state]; exact (q.refresh ht).elim h.timers.refresh id
      releaseWait := fun ht => by rw [q.state]; exact h.timers.releaseWait (q.releaseWait ht)
      sbApply := fun ht => by rw [q.sbFb]; exact h.timers.sbApply (q.sbApply ht)
      ebApply := fun ht => by rw [q.ebFb]; exact h.timers.ebApply (q.ebApply ht)
      effectiveness := fun ht => by rw [q.stage, q.still]; exact h.timers.effectiveness (q.effectiveness ht)
      minDwell := fun ht => by rw [q.state, (q.minDwell ht).2]; exact h.timers.minDwell (q.minDwell ht).1
      settle := fun ht => by rw [q.state]; exact (q.settle ht).elim h.timers.settle id
      lead := fun ht => by rw [q.state, (q.lead ht).2]; exact h.timers.lead (q.lead ht).1
      doorClose := fun ht => by rw [q.state]; exact h.timers.doorClose (q.doorClose ht) }
  releases := by
    refine ⟨fun c hc => ?_, fun c d hd => ?_⟩
    · rw [q.stage, q.state]
      exact h.releases.1 c (q.evac c hc)
    · rw [q.line, q.state]
      exact h.releases.2 c d (q.maint c d hd)

theorem Quiet.runQuiet (q : Quiet s t) : RunQuiet s t where
  line := q.line
  still := q.still
  stage := q.stage
  causes := q.causes
  drivePermit := q.drivePermit
  sbHoldoff := q.sbHoldoff
  ebHoldoff := q.ebHoldoff
  sbFb := q.sbFb
  ebFb := q.ebFb
  marked := markedLocked_congr q.cru
  locked := allLocked_mono q.cru q.cfg q.now
  refresh := q.refresh
  releaseWait := q.releaseWait
  sbApply := q.sbApply
  ebApply := q.ebApply
  effectiveness := q.effectiveness
  state := q.state
  minDwell := q.minDwell
  settle := q.settle
  evac := q.evac
  maint := q.maint
  lead := q.lead
  doorClose := q.doorClose

/-! ## Slots and the stage of a trip -/

theorem FlightInv.congr (h : FlightInv s) (h0 : t.trc.slot0.name = s.trc.slot0.name)
    (h1 : t.trc.slot1.name = s.trc.slot1.name) (hstate : t.trc.state = s.trc.state) : FlightInv t := by
  simpa only [FlightInv, flights, h0, h1, hstate] using h

theorem TripStageInv.congr (h : TripStageInv s) (hstage : t.brs.stage = s.brs.stage) (hstate : t.trc.state = s.trc.state) :
    TripStageInv t := by
  simpa only [TripStageInv, hstage, hstate] using h

/-- A quiet change that leaves the slots' names. -/
theorem RunQuiet.runSafe (q : RunQuiet s t) (h0 : t.trc.slot0.name = s.trc.slot0.name)
    (h1 : t.trc.slot1.name = s.trc.slot1.name) (h : RunSafe s) : RunSafe t :=
  runSafe_iff.mpr ⟨q.core (runSafe_iff.mp h).1, h.flight.congr h0 h1 q.state, h.tripStage.congr q.stage q.state⟩

/-! ## Outputs set again -/

/-- An apply timer runs only while its feedback shows RELEASED (R72). -/
theorem applyTimer_released {now tmo : Nat} {fb : Feedback} {was is : Bool} {tm : Option Timer}
    (h : tm.isSome = true → fb = .released) (ht : (applyTimer now tmo fb was is tm).isSome = true) : fb = .released := by
  unfold applyTimer at ht
  split at ht
  · split at ht
    · cases ht
    · cases fb <;> simp_all
  · split at ht
    · cases ht
    · exact h ht

theorem timerInv_updateOutputs (ht : TimerInv s) : TimerInv (updateOutputs s) where
  refresh := by simpa using ht.refresh
  releaseWait := by simpa using ht.releaseWait
  sbApply := fun h => applyTimer_released ht.sbApply h
  ebApply := fun h => applyTimer_released ht.ebApply h
  effectiveness := by simpa using ht.effectiveness
  minDwell := by simpa using ht.minDwell
  settle := by simpa using ht.settle
  lead := by simpa using ht.lead
  doorClose := by simpa using ht.doorClose

/-- The outputs set again after a change that the other parts of `RunCore` have survived. -/
theorem runCore_updateOutputs (hstage : StageInv s) (hline : LineInv s) (ht : TimerInv s) (hr : ReleaseInv s) :
    RunCore (updateOutputs s) where
  stage := by simpa [StageInv] using hstage
  outputs := outputInv_updateOutputs s
  line := by simpa [LineInv] using hline
  timers := timerInv_updateOutputs ht
  releases := by simpa [ReleaseInv] using hr

end Sys2Proof.Machine
end

section
/-! The running line (O53), second layer: a change of trip state, the dwells, the abort of a trip, a cause raised and a
stage cleared. -/

namespace Sys2Proof.Machine

variable {s t u : State} {new : TripState}

/-- A change of trip state in which the lead timer stops (R110). -/
def stopsLead : TripState → Bool
  | .closing _ => true
  | .doors => true
  | .none => true
  | .stoppedOnLine => true
  | _ => false

theorem driOnTrip_lead (h : (driOnTrip new s).dri.leadTimer.isSome = true) :
    stopsLead new = false ∧ s.dri.leadTimer.isSome = true ∧ (driOnTrip new s).dri.phase = s.dri.phase := by
  cases new <;> simp_all [driOnTrip, stopsLead]

theorem driOnTrip_doorClose (h : (driOnTrip new s).dri.doorTimer.isSome = true) : new = .doors := by
  cases new <;> simp_all [driOnTrip]

theorem timerInv_setTripState (h : TimerInv s)
    (hlead : s.dri.leadTimer.isSome = true → stopsLead new = true ∨ isDwell new = true) : TimerInv (setTripState new s) where
  refresh := by
    rw [setTripState_refreshTimer, setTripState_state]
    split
    next hr => simp [hr, isPowered]
    next => split <;> simp_all
  releaseWait := by
    rw [setTripState_releaseWait, setTripState_state]
    split <;> simp_all
  sbApply := fun ht => by
    rw [setTripState_brs] at ht
    simpa using applyTimer_released (by simpa [trcOnTrip] using h.sbApply) ht
  ebApply := fun ht => by
    rw [setTripState_brs] at ht
    simpa using applyTimer_released (by simpa [trcOnTrip] using h.ebApply) ht
  effectiveness := by simpa using h.effectiveness
  minDwell := fun ht => by
    rw [setTripState_minDwell] at ht
    split at ht
    next hd => simpa [hd] using (h.minDwell ht).2
    next => cases ht
  settle := fun ht => by
    rw [setTripState_settleTimer] at ht
    split at ht
    next hn => simpa using hn
    next => cases ht
  lead := fun ht => by
    rw [setTripState_dri] at ht ⊢
    obtain ⟨hstop, hs, hphase⟩ := driOnTrip_lead ht
    rw [hphase, setTripState_state]
    exact ⟨(h.lead hs).1, (hlead hs).resolve_left (by simp [hstop])⟩
  doorClose := fun ht => by
    rw [setTripState_dri] at ht
    simpa using driOnTrip_doorClose ht

/-- The outputs are set at every change of trip state (R64). -/
theorem outputInv_setTripState (new : TripState) (s : State) : OutputInv (setTripState new s) := by
  have hbrs : (setTripState new s).brs = (brsOnTrip new (trcOnTrip new s)).brs := setTripState_brs new s
  have hcru : (setTripState new s).cru = (brsOnTrip new (trcOnTrip new s)).cru := by simp
  have hcfg : (setTripState new s).cfg = (brsOnTrip new (trcOnTrip new s)).cfg := by simp
  have hnow : (setTripState new s).now = (brsOnTrip new (trcOnTrip new s)).now := by simp
  have hstate : (setTripState new s).trc.state = (brsOnTrip new (trcOnTrip new s)).trc.state := by simp [trcOnTrip]
  have hset : OutputInv (brsOnTrip new (trcOnTrip new s)) := outputInv_updateOutputs _
  exact hset.congr (by rw [hbrs]) hstate (by rw [hbrs]) (by rw [hbrs]) (by rw [hbrs]) (markedLocked_congr hcru)
    (allLocked_mono hcru hcfg (Nat.le_of_eq hnow.symm))

/-- A change of trip state that is the line state's, ends no lead timer's dwell, and leaves no release where it may not
stand. -/
theorem runCore_setTripState (hstage : StageInv s) (hline : new = .none ↔ s.lsu.line = .closed) (ht : TimerInv s)
    (hlead : s.dri.leadTimer.isSome = true → stopsLead new = true ∨ isDwell new = true)
    (hevac : ∀ c, s.dri.evac.get c = true → s.brs.stage ≠ .none ∧ (new = .braking ∨ new = .stoppedOnLine))
    (hmaint : ∀ c d, (s.dri.maint.get c).get d = true → s.lsu.line ≠ .inService ∧ inFlight new = false) :
    RunCore (setTripState new s) where
  stage := by simpa [StageInv] using hstage
  outputs := outputInv_setTripState new s
  line := by simpa [LineInv] using hline
  timers := timerInv_setTripState ht hlead
  releases := by simpa [ReleaseInv] using ⟨hevac, hmaint⟩

/-! ## Operations that neither the stage nor the trip state minds -/

/-- A quiet change that leaves the reports, the store and the clock: the first two conditions on reports hold. -/
theorem runQuiet_of_kept (hcru : t.cru = s.cru) (hcfg : t.cfg = s.cfg) (hnow : t.now = s.now) (hline : t.lsu.line = s.lsu.line)
    (hstill : t.psu.still = s.psu.still) (hbrs : t.brs = s.brs) (hstate : t.trc.state = s.trc.state)
    (hminDwell : t.trc.minDwell = s.trc.minDwell) (helapsed : t.trc.elapsed = s.trc.elapsed)
    (hsettle : t.trc.settleTimer = s.trc.settleTimer) (hdri : t.dri = s.dri) : RunQuiet s t := by
  exact
    { line := hline, still := hstill, stage := by rw [hbrs], causes := by rw [hbrs], drivePermit := by rw [hbrs]
      sbHoldoff := by rw [hbrs], ebHoldoff := by rw [hbrs], sbFb := by rw [hbrs], ebFb := by rw [hbrs]
      marked := markedLocked_congr hcru, locked := allLocked_mono hcru hcfg (Nat.le_of_eq hnow.symm)
      refresh := fun h => .inl (hbrs ▸ h), releaseWait := by rw [hbrs]; exact id, sbApply := by rw [hbrs]; exact id
      ebApply := by rw [hbrs]; exact id, effectiveness := by rw [hbrs]; exact id, state := hstate
      minDwell := fun h => ⟨hminDwell ▸ h, helapsed⟩, settle := fun h => .inl (hsettle ▸ h)
      evac := by rw [hdri]; exact fun _ => id, maint := by rw [hdri]; exact fun _ _ => id
      lead := by rw [hdri]; exact fun h => ⟨h, rfl⟩, doorClose := by rw [hdri]; exact id }

theorem runQuiet_setReleaseMark (v : Bool) (s : State) : RunQuiet s (setReleaseMark v s) := by
  apply runQuiet_of_kept <;> simp

/-- The end of a trip, after its change of trip state: the slots, the notice and the mismatch counts. -/
theorem runQuiet_tripEnd (cancelled : Bool) (k : NoticeKind) (d : NoticeDetail) (s : State) :
    RunQuiet s (zeroMismatch (handOwner k d (freeSlots cancelled s))) := by
  apply runQuiet_of_kept <;> simp [freeSlots]

theorem runQuiet_onTrip (f : TripRecord → TripRecord) (s : State) : RunQuiet s (s.onTrip f) := by
  apply runQuiet_of_kept <;> simp

/-! ## Dwells and aborts -/

/-- The start of a new dwell: its MIN_DWELL timer, its phase and its lead timer (R96, R110). -/
theorem runCore_startDwell (h : RunCore s) {k : Stop} (hs : s.trc.state = .dwell k) (tm : Option Timer) :
    RunCore (driNewDwell (s.onTrc fun t => { t with minDwell := tm, elapsed := false })) where
  stage := by simpa [StageInv] using h.stage
  outputs := by
    refine h.outputs.congr ?_ ?_ ?_ ?_ ?_ (markedLocked_congr ?_) (allLocked_mono ?_ ?_ ?_) <;> simp
  line := by simpa [LineInv] using h.line
  timers :=
    { refresh := by simpa using h.timers.refresh
      releaseWait := by simpa using h.timers.releaseWait
      sbApply := by simpa using h.timers.sbApply
      ebApply := by simpa using h.timers.ebApply
      effectiveness := by simpa using h.timers.effectiveness
      minDwell := by simp [hs, isDwell]
      settle := by simpa using h.timers.settle
      lead := by
        simp only [driNewDwell, State.onDri_dri, State.onDri_trc, State.onTrc_trc, hs, isDwell]
        split <;> try split
        all_goals simp
      doorClose := by
        have hd : (driNewDwell (s.onTrc fun t => { t with minDwell := tm, elapsed := false })).dri.doorTimer = s.dri.doorTimer := by
          simp only [driNewDwell, State.onDri_dri]
          split <;> try split
          all_goals simp
        simpa [hd] using h.timers.doorClose }
  releases := by simpa [ReleaseInv] using h.releases

theorem runCore_newDwell {k : Stop} (h : RunCore (setTripState (.dwell k) s)) : RunCore (newDwell k s) :=
  (runQuiet_setReleaseMark _ _).core (runCore_startDwell h (setTripState_state _ _) _)

theorem runCore_resumedDwell {k : Stop} (h : RunCore (setTripState (.dwell k) s)) : RunCore (resumedDwell k s) := by
  refine (runQuiet_setReleaseMark _ _).core (RunQuiet.core ?_ h)
  constructor
  case marked => exact markedLocked_congr rfl
  case locked => exact allLocked_mono rfl rfl (Nat.le_refl _)
  all_goals simp +contextual

/-- The abort of a trip that has not come to BRAKING (R103). -/
theorem runCore_abortTrip (h : RunCore s) (hflight : inFlight s.trc.state = true) (hb : s.trc.state ≠ .braking)
    (cause : AbortCause) : RunCore (abortTrip cause s) := by
  have hline : s.lsu.line ≠ .closed := fun hc => by simp [h.line.mpr hc, inFlight] at hflight
  have hevac (c : Car) : s.dri.evac.get c = false := by
    by_contra hc
    rcases (h.releases.1 c (by simpa using hc)).2 with hs | hs
    · exact hb hs
    · simp [hs, inFlight] at hflight
  have hmaint (c : Car) (d : Side) : (s.dri.maint.get c).get d = false := by
    by_contra hc
    simp [(h.releases.2 c d (by simpa using hc)).2] at hflight
  have hset {ts : TripState} (hts : ts ≠ .none) (hlead : stopsLead ts = true ∨ isDwell ts = true)
      (f : TripRecord → TripRecord) : RunCore (setTripState ts (s.onTrip f)) := by
    have h' := (runQuiet_onTrip f s).core h
    exact runCore_setTripState h'.stage (by simp [hts, hline]) h'.timers (fun _ => hlead) (by simp [hevac]) (by simp [hmaint])
  unfold abortTrip
  refine (runQuiet_tripEnd _ _ _ _).core ?_
  split
  · exact runCore_resumedDwell (hset (by simp) (by simp [isDwell]) _)
  · exact hset (by simp) (by simp [stopsLead]) _

end Sys2Proof.Machine
end

section
/-! The running line (O53), third layer: a cause raised and a stage cleared, and the slots that are IN_FLIGHT. -/

namespace Sys2Proof.Machine

variable {s t u : State}

/-! ## Slots IN_FLIGHT (R82) -/

theorem flights_congr (h0 : t.trc.slot0.name = s.trc.slot0.name) (h1 : t.trc.slot1.name = s.trc.slot1.name) :
    flights t = flights s := by
  simp only [flights, h0, h1]

/-- A slot that is not IN_FLIGHT changed to another that is not. -/
theorem flights_setSlot {id : SlotId} {v : Slot} (hv : v.name ≠ .inFlight) (hs : (slotOf s id).name ≠ .inFlight) :
    flights (setSlot id v s) = flights s := by
  cases id with
  | slot0 => exact congrArg (· + _) ((if_neg hv).trans (if_neg hs).symm)
  | slot1 => exact congrArg (_ + ·) ((if_neg hv).trans (if_neg hs).symm)

theorem flights_dropPending {id : SlotId} {r : TripReq} (why : TriggerRefusal) (h : slotOf s id = .pending r) :
    flights (dropPending id r why s) = flights s := by
  have hset : flights (setSlot id (if r.trigger = .immediate then .empty else .armed r) s) = flights s := by
    apply flights_setSlot
    · split <;> simp [Slot.name]
    · simp [h, Slot.name]
  refine (flights_congr ?_ ?_).trans hset <;> simp [dropPending]

theorem flights_stopPending (id : SlotId) (s : State) : flights (stopPending id s) = flights s := by
  unfold stopPending
  split
  next h => exact flights_dropPending _ h
  next => rfl

theorem flights_refusePending (id : SlotId) (s : State) : flights (refusePending id s) = flights s := by
  unfold refusePending
  split
  next h _ =>
    split
    · split
      · exact flights_dropPending _ h
      · rfl
    · rfl
  next => rfl

theorem flights_stopPendings (s : State) : flights (stopPendings s) = flights s := by
  rw [stopPendings, flights_stopPending, flights_stopPending]

theorem flights_pendingsUnderStage (s : State) : flights (pendingsUnderStage s) = flights s := by
  unfold pendingsUnderStage
  split
  · exact flights_stopPendings s
  · rw [flights_refusePending, flights_refusePending]

theorem freed_not_inFlight (cancelled : Bool) (v : Slot) : (freed cancelled v).name ≠ .inFlight := by
  cases v with
  | inFlight r => simp only [freed]; split <;> simp [Slot.name]
  | _ => simp [freed, Slot.name]

/-- After the end of a trip no slot is IN_FLIGHT. -/
theorem flights_freed {cancelled : Bool} {v0 v1 : Slot} (h0 : t.trc.slot0 = freed cancelled v0)
    (h1 : t.trc.slot1 = freed cancelled v1) : flights t = 0 := by
  simp [flights, h0, h1, freed_not_inFlight]

theorem flights_abortTrip (cause : AbortCause) (s : State) : flights (abortTrip cause s) = 0 :=
  flights_freed (abortTrip_slot0 s cause) (abortTrip_slot1 s cause)

theorem inFlight_abortState (s : State) : inFlight (abortState s) = false := by
  unfold abortState
  split <;> rfl

/-! ## A cause raised (R62) -/

/-- The highest rank of the causes with one more. -/
theorem foldr_max_append (l : List Nat) (n : Nat) : (l ++ [n]).foldr max 0 = max (l.foldr max 0) n := by
  induction l with
  | nil => simp
  | cons x rest ih => simp only [List.cons_append, List.foldr_cons, ih, Nat.max_assoc]

theorem stageInv_addCause (h : StageInv s) {c : Cause} (hc : hasCause s c = false) (d : Detail) :
    StageInv (s.onBrs (addCause c d)) := by
  obtain ⟨hnodup, hrank⟩ := h
  have hnew : ∀ x ∈ s.brs.causes, ¬ x.cause = c := by simpa [hasCause] using hc
  refine ⟨?_, ?_⟩
  · simp only [State.onBrs_brs, addCause, List.map_append, List.map_cons, List.map_nil]
    exact List.Nodup.append hnodup (by simp) (by simpa [List.disjoint_singleton] using hnew)
  · simp only [State.onBrs_brs, addCause, List.map_append, List.map_cons, List.map_nil, foldr_max_append, ← hrank]
    split <;> omega

/-- A cause that raises no stage. -/
theorem runCore_addCause (h : RunCore s) {c : Cause} (hc : hasCause s c = false)
    (hr : ¬ s.brs.stage.rank < c.stage.rank) (d : Detail) : RunCore (s.onBrs (addCause c d)) where
  stage := stageInv_addCause h.stage hc d
  outputs := by
    refine h.outputs.congr ?_ ?_ ?_ ?_ ?_ (markedLocked_congr ?_) (allLocked_mono ?_ ?_ ?_) <;> simp [addCause, hr]
  line := by simpa [LineInv] using h.line
  timers :=
    { refresh := by simpa [addCause] using h.timers.refresh
      releaseWait := by simpa [addCause] using h.timers.releaseWait
      sbApply := by simpa [addCause] using h.timers.sbApply
      ebApply := by simpa [addCause] using h.timers.ebApply
      effectiveness := by simpa [addCause, hr] using h.timers.effectiveness
      minDwell := by simpa using h.timers.minDwell
      settle := by simpa using h.timers.settle
      lead := by simpa using h.timers.lead
      doorClose := by simpa using h.timers.doorClose }
  releases := by simpa [ReleaseInv, addCause, hr] using h.releases

/-- The effectiveness monitor at a rise runs only under a SERVICE stage off standstill (R74). -/
theorem effectivenessOnRise_of (ht : s.brs.effectiveness.isSome = true → s.brs.stage = .service ∧ s.psu.still = false)
    (hu : u.brs.effectiveness = s.brs.effectiveness) (hr : s.brs.stage.rank < u.brs.stage.rank)
    (h : (effectivenessOnRise s.brs.stage u).isSome = true) : u.brs.stage = .service ∧ u.psu.still = false := by
  unfold effectivenessOnRise at h
  split at h
  next => cases h
  next hs =>
    refine ⟨hs, ?_⟩
    split at h
    next hn => exact hn.2
    next =>
      rw [hu] at h
      simp [hs, (ht h).1] at hr
  next hs => simp [hs, Stage.rank] at hr

/-- A cause in the set, told to the masters, with the stage it calls for (R62). -/
def causeAdded (c : Cause) (d : Detail) (s : State) : State :=
  noticeOfCause (s.brs.stage.rank < c.stage.rank) c d (capture (.cause c) (s.onBrs (addCause c d)))

theorem raiseCause_eq (c : Cause) (d : Detail) (s : State) :
    raiseCause c d s =
      if hasCause s c = true then s
      else if s.brs.stage.rank < c.stage.rank then stageRise s.brs.stage (causeAdded c d s) else causeAdded c d s := by
  unfold raiseCause causeAdded
  split
  · rfl
  · by_cases hr : s.brs.stage.rank < c.stage.rank <;> simp [hr]

@[simp] theorem causeAdded_frame (c : Cause) (d : Detail) (s : State) :
    (causeAdded c d s).cfg = s.cfg ∧ (causeAdded c d s).cru = s.cru ∧ (causeAdded c d s).psu = s.psu ∧
      (causeAdded c d s).clc = s.clc ∧ (causeAdded c d s).brs = addCause c d s.brs ∧ (causeAdded c d s).trc = s.trc ∧
      (causeAdded c d s).dri = s.dri ∧ (causeAdded c d s).adm = s.adm ∧ (causeAdded c d s).lsu = s.lsu ∧
      (causeAdded c d s).now = s.now := by
  simp [causeAdded]

/-- The effectiveness monitor and the release wait at a rise of the stage (R71, R74). -/
def causeTimed (c : Cause) (d : Detail) (s : State) : State :=
  (causeAdded c d s).onBrs fun b =>
    { b with effectiveness := effectivenessOnRise s.brs.stage (causeAdded c d s), releaseWait := none }

/-- The brakes and the doors at a rise of the stage, before the trip reacts (R62, R71, R74, R119). -/
def risen (c : Cause) (d : Detail) (s : State) : State := withdrawReleases (updateOutputs (causeTimed c d s))

theorem stageRise_eq (c : Cause) (d : Detail) (s : State) :
    stageRise s.brs.stage (causeAdded c d s) = tripOnRise (risen c d s) := rfl

@[simp] theorem risen_frame (c : Cause) (d : Detail) (s : State) :
    (risen c d s).cfg = s.cfg ∧ (risen c d s).cru = s.cru ∧ (risen c d s).psu = s.psu ∧
      (risen c d s).brs.stage = (addCause c d s.brs).stage ∧ (risen c d s).brs.causes = s.brs.causes ++ [⟨c, d⟩] ∧
      (risen c d s).trc = s.trc ∧ (risen c d s).dri.leadTimer = s.dri.leadTimer ∧
      (risen c d s).dri.phase = s.dri.phase ∧ (risen c d s).dri.doorTimer = s.dri.doorTimer ∧
      (∀ x, (risen c d s).dri.evac.get x = false) ∧ (∀ x y, ((risen c d s).dri.maint.get x).get y = false) ∧
      (risen c d s).adm = s.adm ∧ (risen c d s).lsu = s.lsu ∧ (risen c d s).now = s.now := by
  refine ⟨?_, ?_, ?_, ?_, ?_, ?_, ?_, ?_, ?_, fun x => ?_, fun x y => ?_, ?_, ?_, ?_⟩
  case refine_10 => cases x <;> simp [risen, withdrawReleases, PerCar.get]
  case refine_11 => cases x <;> cases y <;> simp [risen, withdrawReleases, PerCar.get, PerSide.get]
  all_goals simp [risen, causeTimed, addCause]

theorem timerInv_causeTimed (h : TimerInv s) {c : Cause} (hr : s.brs.stage.rank < c.stage.rank) (d : Detail) :
    TimerInv (causeTimed c d s) where
  refresh := by simpa [causeTimed, addCause] using h.refresh
  releaseWait := by simp [causeTimed]
  sbApply := by simpa [causeTimed, addCause] using h.sbApply
  ebApply := by simpa [causeTimed, addCause] using h.ebApply
  effectiveness := by
    simpa [causeTimed] using effectivenessOnRise_of (u := causeAdded c d s) h.effectiveness (by simp [addCause])
      (by simp [addCause, hr])
  minDwell := by simpa [causeTimed] using h.minDwell
  settle := by simpa [causeTimed] using h.settle
  lead := by simpa [causeTimed] using h.lead
  doorClose := by simpa [causeTimed] using h.doorClose

theorem runCore_risen (h : RunCore s) {c : Cause} (hc : hasCause s c = false)
    (hr : s.brs.stage.rank < c.stage.rank) (d : Detail) : RunCore (risen c d s) where
  stage := by simpa [StageInv, addCause] using stageInv_addCause h.stage hc d
  outputs := (outputInv_updateOutputs (causeTimed c d s)).congr rfl rfl rfl rfl rfl (markedLocked_congr rfl)
    (allLocked_mono rfl rfl (Nat.le_refl _))
  line := by simpa [LineInv] using h.line
  timers :=
    have ht := timerInv_updateOutputs (timerInv_causeTimed h.timers hr d)
    ⟨ht.refresh, ht.releaseWait, ht.sbApply, ht.ebApply, ht.effectiveness, ht.minDwell, ht.settle, ht.lead, ht.doorClose⟩
  releases := by simp [ReleaseInv]

/-- The trip at a rise of the stage (R103, R104). -/
theorem runCore_tripOnRise (h : RunCore s) (hevac : ∀ c, s.dri.evac.get c = false)
    (hmaint : ∀ c d, (s.dri.maint.get c).get d = false) : RunCore (tripOnRise s) := by
  have habort (hs : inFlight s.trc.state = true) (hb : s.trc.state ≠ .braking) :
      RunCore (pendingsUnderStage (abortTrip .brake s)) := by
    refine RunQuiet.core ?_ (runCore_abortTrip h hs hb .brake)
    apply runQuiet_of_kept <;> simp
  have hbraking (hs : isPowered s.trc.state = true) : RunCore (setTripState .braking s) := by
    refine runCore_setTripState h.stage ?_ h.timers (fun hl => ?_) (by simp [hevac]) (by simp [hmaint])
    · have hne : s.trc.state ≠ .none := fun hn => by simp [hn, isPowered] at hs
      simpa using fun hc => hne (h.line.mpr hc)
    · have := (h.timers.lead hl).2
      cases hst : s.trc.state <;> simp_all [isPowered, isDwell]
  unfold tripOnRise
  split
  next hs => exact habort (by simp [hs, inFlight]) (by simp [hs])
  next hs => exact habort (by simp [hs, inFlight]) (by simp [hs])
  next hs => exact habort (by simp [hs, inFlight]) (by simp [hs])
  next hs => exact hbraking (by simp [hs, isPowered])
  next hs => exact hbraking (by simp [hs, isPowered])
  next hs => exact hbraking (by simp [hs, isPowered])
  next => exact h

theorem flightInv_tripOnRise (h : FlightInv s) : FlightInv (tripOnRise s) := by
  have habort : FlightInv (pendingsUnderStage (abortTrip .brake s)) := by
    simp [FlightInv, flights_pendingsUnderStage, flights_abortTrip, inFlight_abortState]
  have hbraking (hs : inFlight s.trc.state = true) : FlightInv (setTripState .braking s) := by
    have hf : flights (setTripState .braking s) = flights s := flights_congr (by simp) (by simp)
    rw [FlightInv, hf, setTripState_state]
    exact h.trans (if_pos hs)
  unfold tripOnRise
  split
  next => exact habort
  next => exact habort
  next => exact habort
  next hs => exact hbraking (by simp [hs, inFlight])
  next hs => exact hbraking (by simp [hs, inFlight])
  next hs => exact hbraking (by simp [hs, inFlight])
  next => exact h

/-- From CLOSING on, no trip state but BRAKING survives a rise of the stage. -/
theorem inFlight_riseState (h : inFlight (riseState s) = true) : riseState s = .braking := by
  unfold riseState at h ⊢
  split <;> simp_all [inFlight_abortState]
  cases hs : s.trc.state <;> simp_all [inFlight]

theorem raiseCause_runSafe (h : RunSafe s) (c : Cause) (d : Detail) : RunSafe (raiseCause c d s) := by
  obtain ⟨hcore, hflight, htrip⟩ := runSafe_iff.mp h
  rw [raiseCause_eq]
  split
  next => exact h
  next hc =>
    have hc : hasCause s c = false := by simpa using hc
    split
    next hr =>
      rw [stageRise_eq, runSafe_iff]
      have hstage : (risen c d s).brs.stage ≠ .none := by
        intro hn
        simp only [risen_frame, addCause, hr, if_true] at hn
        simp [hn, Stage.rank] at hr
      refine ⟨runCore_tripOnRise (runCore_risen hcore hc hr d) (by simp) (by simp), flightInv_tripOnRise ?_, ?_, ?_⟩
      · exact hflight.congr (by simp) (by simp) (by simp)
      · rw [tripOnRise_state]
        exact fun hf hb => absurd (inFlight_riseState hf) hb
      · simpa using fun _ => hstage
    next hr =>
      have hq : RunQuiet (s.onBrs (addCause c d)) (causeAdded c d s) := by
        apply runQuiet_of_kept <;> simp
      refine runSafe_iff.mpr ⟨hq.core (runCore_addCause hcore hc hr d), ?_, ?_⟩
      · exact hflight.congr (by simp) (by simp) (by simp)
      · exact htrip.congr (by simp [addCause, hr]) (by simp)

end Sys2Proof.Machine
end

section
/-! O53: every move keeps the running line safe, and so does every act. -/

namespace Sys2Proof.Machine

variable {s t u : State}

/-! ## Reports and outputs set again -/

/-- A change of the reports alone, with the outputs set again. -/
theorem runSafe_reports (h : RunSafe s) (f : Cru → Cru) : RunSafe (updateOutputs (s.onCru f)) := by
  obtain ⟨hcore, hflight, htrip⟩ := runSafe_iff.mp h
  refine runSafe_iff.mpr ⟨runCore_updateOutputs ?_ ?_ ?_ ?_, hflight.congr ?_ ?_ ?_, htrip.congr ?_ ?_⟩
  case refine_1 => simpa [StageInv] using hcore.stage
  case refine_2 => simpa [LineInv] using hcore.line
  case refine_3 =>
    have ht := hcore.timers
    exact ⟨ht.refresh, ht.releaseWait, ht.sbApply, ht.ebApply, ht.effectiveness, ht.minDwell, ht.settle, ht.lead, ht.doorClose⟩
  case refine_4 => simpa [ReleaseInv] using hcore.releases
  all_goals simp

/-- The write of T_CAR, after what the old value has made stale is stale (R39). -/
theorem runQuiet_reportTime (f : Cfg → Cfg) (ha : staleDue s .a = false) (hb : staleDue s .b = false) :
    RunQuiet s (s.onCfg f) := by
  constructor
  case marked => exact markedLocked_congr rfl
  case locked => exact fun ht => allLocked_of_marked ha hb (marked_of_allLocked (s := s.onCfg f) ht)
  all_goals simp +contextual

/-! ## Standstill and feedbacks -/

theorem runSafe_confirmStill (h : RunSafe s) : RunSafe (confirmStill s) := by
  obtain ⟨hcore, hflight, htrip⟩ := runSafe_iff.mp h
  refine runSafe_iff.mpr ⟨⟨?_, ?_, ?_, ?_, ?_⟩, hflight.congr ?_ ?_ ?_, htrip.congr ?_ ?_⟩
  case refine_1 => simpa [StageInv, confirmStill] using hcore.stage
  case refine_2 =>
    refine hcore.outputs.congr ?_ ?_ ?_ ?_ ?_ (markedLocked_congr ?_) (allLocked_mono ?_ ?_ ?_) <;> simp [confirmStill]
  case refine_3 => simpa [LineInv, confirmStill] using hcore.line
  case refine_4 =>
    have ht := hcore.timers
    exact ⟨ht.refresh, ht.releaseWait, ht.sbApply, ht.ebApply, (fun he => nomatch he), ht.minDwell, ht.settle, ht.lead,
      ht.doorClose⟩
  case refine_5 => simpa [ReleaseInv, confirmStill] using hcore.releases
  all_goals simp [confirmStill]

theorem runSafe_loseStill (h : RunSafe s) : RunSafe (s.onPsu fun u => { u with still := false }) := by
  obtain ⟨hcore, hflight, htrip⟩ := runSafe_iff.mp h
  refine runSafe_iff.mpr ⟨⟨hcore.stage, ?_, hcore.line, ?_, hcore.releases⟩, hflight, htrip⟩
  · exact hcore.outputs.congr rfl rfl rfl rfl rfl (markedLocked_congr rfl) (allLocked_mono rfl rfl (Nat.le_refl _))
  · have ht := hcore.timers
    exact ⟨ht.refresh, ht.releaseWait, ht.sbApply, ht.ebApply, fun he => ⟨(ht.effectiveness he).1, rfl⟩, ht.minDwell,
      ht.settle, ht.lead, ht.doorClose⟩

/-- A feedback changes its brake's apply timer alone. -/
theorem timerAtFeedback_brs (b : Brake) (level : Feedback) (s : State) :
    ∃ tm, (timerAtFeedback b level s).brs = s.brs.setApply tm b := by
  unfold timerAtFeedback
  split
  · exact ⟨_, rfl⟩
  · split
    · exact ⟨match b with | .service => s.brs.sbApply | .emergency => s.brs.ebApply, by cases b <;> rfl⟩
    · exact ⟨_, rfl⟩

/-- A feedback taken, with its apply timer (R71, R72). -/
theorem timerInv_feedback (ht : TimerInv s) (b : Brake) (level : Feedback) :
    TimerInv (timerAtFeedback b level (s.onBrs fun r => r.setFb level b)) := by
  have hs := ht.sbApply
  have he := ht.ebApply
  cases level with
  | applied =>
    cases b
    case service =>
      exact ⟨ht.refresh, ht.releaseWait, (fun h => nomatch h), he, ht.effectiveness, ht.minDwell, ht.settle, ht.lead, ht.doorClose⟩
    case emergency =>
      exact ⟨ht.refresh, ht.releaseWait, hs, (fun h => nomatch h), ht.effectiveness, ht.minDwell, ht.settle, ht.lead, ht.doorClose⟩
  | released =>
    simp only [timerAtFeedback]
    split
    all_goals
      cases b
      case service =>
        exact ⟨ht.refresh, ht.releaseWait, fun _ => rfl, he, ht.effectiveness, ht.minDwell, ht.settle, ht.lead, ht.doorClose⟩
      case emergency =>
        exact ⟨ht.refresh, ht.releaseWait, hs, fun _ => rfl, ht.effectiveness, ht.minDwell, ht.settle, ht.lead, ht.doorClose⟩

theorem runSafe_feedback (h : RunSafe s) (b : Brake) (level : Feedback) :
    RunSafe (timerAtFeedback b level (s.onBrs fun r => r.setFb level b)) := by
  obtain ⟨hcore, hflight, htrip⟩ := runSafe_iff.mp h
  obtain ⟨tm, hbrs⟩ := timerAtFeedback_brs b level (s.onBrs fun r => r.setFb level b)
  obtain ⟨hstage, hcauses, hpermit, hsb, heb⟩ :
      ((s.brs.setFb level b).setApply tm b).stage = s.brs.stage ∧
        ((s.brs.setFb level b).setApply tm b).causes = s.brs.causes ∧
        ((s.brs.setFb level b).setApply tm b).drivePermit = s.brs.drivePermit ∧
        ((s.brs.setFb level b).setApply tm b).sbHoldoff = s.brs.sbHoldoff ∧
        ((s.brs.setFb level b).setApply tm b).ebHoldoff = s.brs.ebHoldoff := by
    cases b <;> exact ⟨rfl, rfl, rfl, rfl, rfl⟩
  rw [State.onBrs_brs] at hbrs
  rw [← hbrs] at hstage hcauses hpermit hsb heb
  refine runSafe_iff.mpr ⟨⟨?_, ?_, ?_, timerInv_feedback hcore.timers b level, ?_⟩, hflight.congr ?_ ?_ ?_,
    htrip.congr hstage ?_⟩
  case refine_1 => simpa only [StageInv, hstage, hcauses] using hcore.stage
  case refine_2 =>
    refine hcore.outputs.congr hstage ?_ hpermit hsb heb (markedLocked_congr ?_) (allLocked_mono ?_ ?_ ?_) <;> simp
  case refine_3 => simpa [LineInv] using hcore.line
  case refine_4 => simpa [ReleaseInv, hstage] using hcore.releases
  all_goals simp

end Sys2Proof.Machine
end

section
/-! O53: a stage cleared, a trip begun, moved on and ended, and every move together. -/

namespace Sys2Proof.Machine

variable {s t u : State}

/-! ## No release stands where a trip runs -/

theorem evac_of_moving (h : ReleaseInv s) (hflight : inFlight s.trc.state = true) (hb : s.trc.state ≠ .braking) (c : Car) :
    s.dri.evac.get c = false := by
  by_contra hc
  rcases (h.1 c (by simpa using hc)).2 with hs | hs
  · exact hb hs
  · simp [hs, inFlight] at hflight

theorem maint_of_inFlight (h : ReleaseInv s) (hflight : inFlight s.trc.state = true) (c : Car) (d : Side) :
    (s.dri.maint.get c).get d = false := by
  by_contra hc
  simp [(h.2 c d (by simpa using hc)).2] at hflight

theorem line_of_state (h : LineInv s) (hs : s.trc.state ≠ .none) : s.lsu.line ≠ .closed := fun hc => hs (h.mpr hc)

/-! ## A stage cleared (R80, R104) -/

/-- The stage cleared, before the trip reacts. -/
def cleared (s : State) : State :=
  endEvacuations <| updateOutputs <| s.onBrs fun b =>
    { b with stage := .none, causes := [], effectiveness := none, overspeedCount := 0 }

theorem clearStage_eq (s : State) :
    clearStage s = if s.trc.state = .braking then endBraking (cleared s) else cleared s := by
  simp [clearStage, cleared]

@[simp] theorem cleared_frame (s : State) :
    (cleared s).cfg = s.cfg ∧ (cleared s).cru = s.cru ∧ (cleared s).psu = s.psu ∧ (cleared s).brs.stage = .none ∧
      (cleared s).trc = s.trc ∧ (∀ c, (cleared s).dri.evac.get c = false) ∧ (cleared s).dri.maint = s.dri.maint ∧
      (cleared s).adm = s.adm ∧ (cleared s).lsu = s.lsu ∧ (cleared s).now = s.now := by
  refine ⟨?_, ?_, ?_, ?_, ?_, fun c => ?_, ?_, ?_, ?_, ?_⟩
  case refine_6 => cases c <;> rfl
  all_goals simp [cleared]

theorem runCore_cleared (h : RunCore s) : RunCore (cleared s) where
  stage := by simp [StageInv, cleared, Stage.rank]
  outputs := (outputInv_updateOutputs _).congr rfl rfl rfl rfl rfl (markedLocked_congr rfl)
    (allLocked_mono rfl rfl (Nat.le_refl _))
  line := by simpa [LineInv] using h.line
  timers := by
    have ht := h.timers
    have hw : TimerInv (s.onBrs fun b => { b with stage := .none, causes := [], effectiveness := none, overspeedCount := 0 }) :=
      ⟨ht.refresh, ht.releaseWait, ht.sbApply, ht.ebApply, (fun he => nomatch he), ht.minDwell, ht.settle, ht.lead,
        ht.doorClose⟩
    have hv := timerInv_updateOutputs hw
    exact ⟨hv.refresh, hv.releaseWait, hv.sbApply, hv.ebApply, hv.effectiveness, hv.minDwell, hv.settle, hv.lead, hv.doorClose⟩
  releases := by simpa [ReleaseInv] using h.releases.2

theorem runQuiet_stopPendings (s : State) : RunQuiet s (stopPendings s) := by
  apply runQuiet_of_kept <;> simp

/-- The end of a brake stop (R104). -/
theorem runCore_endBraking (h : RunCore s) (hs : s.trc.state = .braking) (hevac : ∀ c, s.dri.evac.get c = false) :
    RunCore (endBraking s) := by
  have hflight : inFlight s.trc.state = true := by rw [hs]; rfl
  have hline : s.lsu.line ≠ .closed := line_of_state h.line (by simp [hs])
  have hset {ts : TripState} (hts : ts ≠ .none) (hlead : stopsLead ts = true ∨ isDwell ts = true)
      (f : TripRecord → TripRecord) : RunCore (setTripState ts (s.onTrip f)) := by
    have h' := (runQuiet_onTrip f s).core h
    exact runCore_setTripState h'.stage (by simp [hts, hline]) h'.timers (fun _ => hlead) (by simp [hevac])
      (by simp [maint_of_inFlight h.releases hflight])
  unfold endBraking
  split
  · exact (runQuiet_tripEnd _ _ _ _).core (runCore_newDwell (hset (by simp) (by simp [isDwell]) _))
  · exact (runQuiet_stopPendings _).core
      ((runQuiet_tripEnd _ _ _ _).core (hset (ts := .stoppedOnLine) (by simp) (.inl rfl) _))

theorem endBraking_over (s : State) : flights (endBraking s) = 0 ∧ inFlight (endBraking s).trc.state = false := by
  unfold endBraking
  split
  · refine ⟨flights_freed (cancelled := false) (v0 := s.trc.slot0) (v1 := s.trc.slot1) ?_ ?_, ?_⟩ <;>
      simp [freeSlots, inFlight]
  · rw [flights_stopPendings]
    refine ⟨flights_freed (cancelled := false) (v0 := s.trc.slot0) (v1 := s.trc.slot1) ?_ ?_, ?_⟩ <;>
      simp [freeSlots, inFlight]

theorem runSafe_of_over (h : RunCore t) (hf : flights t = 0) (hs : inFlight t.trc.state = false) : RunSafe t := by
  refine runSafe_iff.mpr ⟨h, by simp [FlightInv, hf, hs], fun ht => by simp [hs] at ht, fun hb => ?_⟩
  simp [hb, inFlight] at hs

theorem runSafe_clear (h : RunSafe s) : RunSafe (clearStage s) := by
  obtain ⟨hcore, hflight, -⟩ := runSafe_iff.mp h
  have hc := runCore_cleared hcore
  rw [clearStage_eq]
  split
  next hb =>
    obtain ⟨hf, hs⟩ := endBraking_over (cleared s)
    exact runSafe_of_over (runCore_endBraking hc (by simp [hb]) (by simp)) hf hs
  next hb =>
    refine runSafe_iff.mpr ⟨hc, hflight.congr ?_ ?_ ?_, fun _ _ => ?_, fun hb' => absurd ?_ hb⟩
    case refine_5 => simpa using hb'
    all_goals simp

/-! ## A trip moves on and ends (R98 to R103) -/

/-- What holds before and after each trip state on the way. -/
theorem follows_facts {old new : TripState} (h : follows old new = true) :
    inFlight old = true ∧ inFlight new = true ∧ old ≠ .braking ∧ new ≠ .braking ∧ isDwell old = false ∧ new ≠ .none := by
  revert h
  unfold follows
  split
  case h_6 => exact fun h => nomatch h
  all_goals exact fun _ => ⟨rfl, rfl, by simp, by simp, rfl, by simp⟩

theorem runSafe_advance (h : RunSafe s) {new : TripState} (hn : follows s.trc.state new = true) :
    RunSafe (setTripState new s) := by
  obtain ⟨hcore, hflight, htrip⟩ := runSafe_iff.mp h
  obtain ⟨hold, hnew, hb, hnb, hnd, hnn⟩ := follows_facts hn
  have hline : s.lsu.line ≠ .closed := line_of_state hcore.line fun hc => by simp [hc, inFlight] at hold
  refine runSafe_iff.mpr ⟨runCore_setTripState hcore.stage (by simp [hnn, hline]) hcore.timers (fun hl => ?_) ?_ ?_, ?_, ?_, ?_⟩
  · simp [(hcore.timers.lead hl).2] at hnd
  · simp [evac_of_moving hcore.releases hold hb]
  · simp [maint_of_inFlight hcore.releases hold]
  · have hf : flights (setTripState new s) = flights s := flights_congr (by simp) (by simp)
    rw [FlightInv, hf, setTripState_state, if_pos hnew]
    exact hflight.trans (if_pos hold)
  · simpa using fun _ _ => htrip.1 hold hb
  · simp [hnb]

theorem runSafe_abort (h : RunSafe s) (hs : cancellable s.trc.state = true) (cause : AbortCause) :
    RunSafe (abortTrip cause s) := by
  obtain ⟨hold, hb⟩ : inFlight s.trc.state = true ∧ s.trc.state ≠ .braking := by
    cases hst : s.trc.state <;> simp_all [cancellable, inFlight]
  refine runSafe_of_over (runCore_abortTrip (runSafe_iff.mp h).1 hold hb cause) (flights_abortTrip cause s) ?_
  rw [abortTrip_state, inFlight_abortState]

theorem runSafe_complete (h : RunSafe s) (hs : s.trc.state = .arriving) : RunSafe (completeTrip s) := by
  have hcore := (runSafe_iff.mp h).1
  have hold : inFlight s.trc.state = true := by rw [hs]; rfl
  have hb : s.trc.state ≠ .braking := by simp [hs]
  have hline : s.lsu.line ≠ .closed := line_of_state hcore.line (by simp [hs])
  refine runSafe_of_over ?_ (flights_freed (cancelled := false) (v0 := s.trc.slot0) (v1 := s.trc.slot1) ?_ ?_) ?_
  · have h' := (runQuiet_onTrip (fun t => { t with outcome := .done }) s).core hcore
    refine (runQuiet_tripEnd _ _ _ _).core (runCore_newDwell (runCore_setTripState h'.stage ?_ h'.timers ?_ ?_ ?_))
    · simp [hline]
    · simp [isDwell]
    · simp [evac_of_moving hcore.releases hold hb]
    · simp [maint_of_inFlight hcore.releases hold]
  all_goals simp [completeTrip, freeSlots, inFlight]

/-! ## A trip begins (R95) -/

theorem runQuiet_beginTrip (id : SlotId) (r : TripReq) (dest : Stop) (origin : Option Stop) (s : State) :
    RunQuiet s (beginTrip id r dest origin s) := by
  constructor
  case marked => exact markedLocked_congr (by simp)
  case locked => exact allLocked_mono (by simp) (by simp) (by simp)
  case maint => intro c d hd; cases c <;> cases d <;> simp [beginTrip, PerCar.get, PerSide.get] at hd
  all_goals simp +contextual

theorem flights_beginTrip (id : SlotId) (r : TripReq) (dest : Stop) (origin : Option Stop) (h : flights s = 0) :
    flights (beginTrip id r dest origin s) = 1 := by
  have hset : flights (setSlot id (.inFlight r) s) = 1 := by
    unfold flights at h
    have h0 : s.trc.slot0.name ≠ .inFlight := fun hc => by simp [hc] at h
    have h1 : s.trc.slot1.name ≠ .inFlight := fun hc => by simp [hc] at h
    cases id with
    | slot0 => exact congrArg₂ (· + ·) (if_pos rfl) (if_neg h1)
    | slot1 => exact congrArg₂ (· + ·) (if_neg h0) (if_pos rfl)
  refine (flights_congr ?_ ?_).trans hset <;> simp [beginTrip]

theorem runSafe_start (h : RunSafe s) (id : SlotId) (r : TripReq) (dest : Stop) {origin : Option Stop} {new : TripState}
    (hstart : Starts s origin new) : RunSafe (setTripState new (beginTrip id r dest origin s)) := by
  obtain ⟨hcore, hflight, -⟩ := runSafe_iff.mp h
  obtain ⟨hstage, hstates⟩ := hstart
  obtain ⟨hold, hnone, hnew, hlead, hnb⟩ : inFlight s.trc.state = false ∧ s.trc.state ≠ .none ∧ inFlight new = true ∧
      stopsLead new = true ∧ new ≠ .braking := by
    rcases hstates with ⟨k, hs, -, rfl⟩ | ⟨hs, -, rfl⟩
    · rw [hs]
      split <;> exact ⟨rfl, by simp, rfl, rfl, by simp⟩
    · rw [hs]
      exact ⟨rfl, by simp, rfl, rfl, by simp⟩
  have hline : s.lsu.line ≠ .closed := line_of_state hcore.line hnone
  have hb := (runQuiet_beginTrip id r dest origin s).core hcore
  have hnn : new ≠ .none := fun hc => by simp [hc, inFlight] at hnew
  refine runSafe_iff.mpr ⟨runCore_setTripState hb.stage (by simp [hnn, hline]) hb.timers (fun _ => .inl hlead) ?_ ?_, ?_, ?_⟩
  · intro c hc
    have hc := (runQuiet_beginTrip id r dest origin s).evac c hc
    exact absurd hstage (hcore.releases.1 c hc).1
  · intro c d hd
    cases c <;> cases d <;> simp [beginTrip, PerCar.get, PerSide.get] at hd
  · have hf : flights (setTripState new (beginTrip id r dest origin s)) = flights (beginTrip id r dest origin s) :=
      flights_congr (by simp) (by simp)
    rw [FlightInv, hf, flights_beginTrip id r dest origin (hflight.trans (if_neg (by simp [hold]))), setTripState_state,
      if_pos hnew]
  · simp [TripStageInv, hstage, hnb]

/-! ## Slots and door releases -/

theorem runSafe_slot (h : RunSafe s) {id : SlotId} {v : Slot} (hv : v.name ≠ .inFlight)
    (hs : (slotOf s id).name ≠ .inFlight) : RunSafe (setSlot id v s) := by
  obtain ⟨hcore, hflight, htrip⟩ := runSafe_iff.mp h
  have hq : RunQuiet s (setSlot id v s) := by apply runQuiet_of_kept <;> simp
  refine runSafe_iff.mpr ⟨hq.core hcore, ?_, htrip.congr (by simp) (by simp)⟩
  rw [FlightInv, flights_setSlot hv hs, hq.state]
  exact hflight

/-- A change of the releases alone. -/
theorem runSafe_releases (h : RunSafe s) (f : Dri → Dri) (hlead : (f s.dri).leadTimer = s.dri.leadTimer)
    (hphase : (f s.dri).phase = s.dri.phase) (hdoor : (f s.dri).doorTimer = s.dri.doorTimer) (hr : ReleaseInv (s.onDri f)) :
    RunSafe (s.onDri f) := by
  obtain ⟨hcore, hflight, htrip⟩ := runSafe_iff.mp h
  have ht := hcore.timers
  refine runSafe_iff.mpr ⟨⟨hcore.stage, ?_, hcore.line, ?_, hr⟩, hflight, htrip⟩
  · exact hcore.outputs.congr rfl rfl rfl rfl rfl (markedLocked_congr rfl) (allLocked_mono rfl rfl (Nat.le_refl _))
  · refine ⟨ht.refresh, ht.releaseWait, ht.sbApply, ht.ebApply, ht.effectiveness, ht.minDwell, ht.settle, ?_, ?_⟩
    · simpa [hlead, hphase] using ht.lead
    · simpa [hdoor] using ht.doorClose

theorem runSafe_evacuate (h : RunSafe s) {c : Car} (hc : evacuateCheck s = none) : RunSafe (setEvac c true s) := by
  have hcheck : (s.trc.state = .stoppedOnLine ∨ s.trc.state = .braking) ∧ s.brs.stage ≠ .none := by
    unfold evacuateCheck at hc
    split at hc
    · cases hc
    next hs =>
      split at hc
      · cases hc
      next hn => exact ⟨not_not.mp hs, hn⟩
  refine runSafe_releases h _ rfl rfl rfl ⟨fun x hx => ?_, h.releases.2⟩
  exact ⟨hcheck.2, hcheck.1.symm⟩

theorem runSafe_maintain (h : RunSafe s) {c : Car} {d : Side} (hc : maintCheck s = none) : RunSafe (setMaint c d true s) := by
  have hcheck : s.lsu.line ≠ .inService ∧ inFlight s.trc.state = false := by
    unfold maintCheck at hc
    split at hc
    · cases hc
    next hs =>
      obtain ⟨hline, hflight⟩ := not_or.mp hs
      exact ⟨by rcases not_not.mp hline with h | h <;> simp [h], by simpa using hflight⟩
  exact runSafe_releases h _ rfl rfl rfl ⟨h.releases.1, fun _ _ _ => hcheck⟩

end Sys2Proof.Machine
end

section
/-! O53: every move, every act and every step keeps the running line safe. -/

namespace Sys2Proof.Machine

variable {s t u : State}

/-! ## Moves that the running line does not mind -/

/-- A change of the store and of the lanes and loads, which leaves T_CAR. -/
theorem runQuiet_store (f : Cfg → Cfg) (g : Adm → Adm) (htCar : (f s.cfg).params.tCar = s.params.tCar) :
    RunQuiet s ((s.onCfg f).onAdm g) := by
  constructor
  case marked => exact markedLocked_congr rfl
  case locked =>
    intro ht
    have hfresh (c : Car) : isFresh ((s.onCfg f).onAdm g) c = isFresh s c := isFresh_congr c rfl rfl htCar
    rw [allLocked_iff, hfresh, hfresh] at ht
    exact allLocked_iff.mpr ht
  all_goals simp +contextual

theorem runQuiet_cfg (f : Cfg → Cfg) (htCar : (f s.cfg).params.tCar = s.params.tCar) : RunQuiet s (s.onCfg f) :=
  runQuiet_store f id htCar

/-- The same for a write, which leaves the store uncommitted. -/
theorem runQuiet_write (f : Cfg → Cfg) (htCar : (f s.cfg).params.tCar = s.params.tCar) :
    RunQuiet s (uncommit (s.onCfg f)) :=
  runQuiet_store (fun c => { f c with committed := false }) id htCar

theorem runQuiet_laneWrite (f : Cfg → Cfg) (g : Adm → Adm) (htCar : (f s.cfg).params.tCar = s.params.tCar) :
    RunQuiet s (uncommit ((s.onCfg f).onAdm g)) :=
  runQuiet_store (fun c => { f c with committed := false }) g htCar

/-- A car's alarm latch and its mirror. -/
theorem runQuiet_setLatch (c : Car) (v : Bool) (s : State) : RunQuiet s (setLatch c v s) := by
  constructor
  case marked => cases c <;> rfl
  case locked =>
    have hfresh (x : Car) : isFresh (setLatch c v s) x = isFresh s x := by cases c <;> cases x <;> rfl
    have hpolls : (setLatch c v s).cru.a.poll = s.cru.a.poll ∧ (setLatch c v s).cru.b.poll = s.cru.b.poll := by
      cases c <;> exact ⟨rfl, rfl⟩
    simp only [allLocked_iff, hfresh, hpolls, imp_self]
  all_goals simp +contextual [setLatch]

theorem Params.put_tCar {p : NumParam} (h : p ≠ .tCar) (q : Params) (n : Nat) : (q.put n p).tCar = q.tCar := by
  cases p with
  | tCar => exact absurd rfl h
  | _ => rfl

/-- A store write takes its value into the parameters and uncommits the store. -/
theorem runQuiet_number {p : NumParam} (hp : p ≠ .tCar) (n : Nat) :
    RunQuiet s (uncommit (s.onCfg fun c => { c with params := c.params.put n p })) :=
  runQuiet_write _ (Params.put_tCar hp _ _)

/-- Every move keeps the running line safe. -/
theorem Move.runSafe (h : RunSafe s) (m : Move s u) : RunSafe u := by
  cases m with
  | quiet q => exact q.runQuiet.runSafe (by rw [q.slot0]) (by rw [q.slot1]) h
  | raise c d => exact raiseCause_runSafe h c d
  | poll c p => exact runSafe_reports h _
  | stale c => exact runSafe_reports h _
  | alarm c v => exact (runQuiet_setLatch c v s).runSafe rfl rfl h
  | confirmStill => exact runSafe_confirmStill h
  | loseStill => exact runSafe_loseStill h
  | feedback b level => exact runSafe_feedback h b level
  | clear => exact runSafe_clear h
  | slot id v hv hs => exact runSafe_slot h hv hs
  | advance new hn => exact runSafe_advance h hn
  | start id r dest origin new hstart => exact runSafe_start h id r dest hstart
  | abort cause hs => exact runSafe_abort h hs cause
  | complete hs => exact runSafe_complete h hs
  | number p v hp => exact (runQuiet_number hp _).runSafe rfl rfl h
  | reportTime v ha hb => exact (runQuiet_reportTime _ ha hb).runSafe rfl rfl h
  | choice q hq => exact (runQuiet_write (fun c => { c with params := q }) (hq .tCar)).runSafe rfl rfl h
  | doorSide | profile | markers => exact (runQuiet_write _ (by rfl)).runSafe rfl rfl h
  | putLane | dropLane => exact (runQuiet_laneWrite _ _ (by rfl)).runSafe rfl rfl h
  | uncommit | commit => exact (runQuiet_cfg _ (by rfl)).runSafe rfl rfl h
  | hand | capture | markIncident | stillCount | mismatch | ceiling | lane | grant | drop | board | load | waiting =>
    refine RunQuiet.runSafe ?_ (by simp) (by simp) h
    apply runQuiet_of_kept <;> simp

theorem Moves.runSafe (h : RunSafe s) (m : Moves s u) : RunSafe u := by
  induction m with
  | refl => exact h
  | tail _ m ih => exact m.runSafe ih

/-! ## Acts -/

/-- What every step keeps: what the tick and a change of the queue keep, and every act up to what ends it. -/
theorem step_keeps {P Q : State → Prop} (htick : ∀ s, P s → P (tick s))
    (hqueue : ∀ (s : State) q, P s → P { s with pending := q }) (hact : ∀ s c u, P s → Act s c u → Q u)
    (hend : ∀ s u t, Q u → Ended s u t → P t) (s t : State) (h : P s) (hstep : step s = .next t) : P t := by
  unfold step at hstep
  split at hstep
  next => cases hstep; exact htick s h
  next c rest _ =>
    obtain ⟨u, ha, he⟩ := exec_acts hstep
    exact hend _ u t (hact _ c u (hqueue s rest h) ha) he

theorem timerInv_changeLine (ht : TimerInv s) (new : LineState) (slots : Bool) : TimerInv (changeLine new slots s) := by
  refine ⟨?_, ?_, ?_, ?_, ?_, ?_, ?_, ?_, ?_⟩
  · simpa using ht.refresh
  · simpa using ht.releaseWait
  · simpa using ht.sbApply
  · simpa using ht.ebApply
  · simpa using ht.effectiveness
  · simpa using ht.minDwell
  · simpa using ht.settle
  · simpa using ht.lead
  · simpa using ht.doorClose

@[simp] theorem changeLine_evac (new : LineState) (slots : Bool) (s : State) (c : Car) :
    (changeLine new slots s).dri.evac.get c = false := by
  cases c <;> simp [changeLine, withdrawReleases, PerCar.get]

@[simp] theorem changeLine_maint (new : LineState) (slots : Bool) (s : State) (c : Car) (d : Side) :
    ((changeLine new slots s).dri.maint.get c).get d = false := by
  cases c <;> cases d <;> simp [changeLine, withdrawReleases, PerCar.get, PerSide.get]

@[simp] theorem changeLine_slot0 (new : LineState) (slots : Bool) (s : State) :
    (changeLine new slots s).trc.slot0 = if slots then .empty else s.trc.slot0 := by
  cases slots <;> simp [changeLine, emptySlots]

@[simp] theorem changeLine_slot1 (new : LineState) (slots : Bool) (s : State) :
    (changeLine new slots s).trc.slot1 = if slots then .empty else s.trc.slot1 := by
  cases slots <;> simp [changeLine, emptySlots]

/-- The trip state that a change of the line state sets (R143). -/
theorem runCore_changeLine (h : RunCore s) {new : LineState} {ts : TripState} (slots : Bool) (hline : ts = .none ↔ new = .closed)
    (hlead : stopsLead ts = true ∨ isDwell ts = true) : RunCore (setTripState ts (changeLine new slots s)) :=
  runCore_setTripState (by simpa [StageInv] using h.stage) (by simpa using hline) (timerInv_changeLine h.timers new slots)
    (fun _ => hlead) (by simp) (by simp)

theorem runSafe_openAt (h : RunSafe s) (hl : s.lsu.line = .closed) (k : Stop) : RunSafe (openAt k s) := by
  obtain ⟨hcore, hflight, -⟩ := runSafe_iff.mp h
  have hs : s.trc.state = .none := hcore.line.mpr hl
  have hf : flights s = 0 := hflight.trans (if_neg (by simp [hs, inFlight]))
  refine runSafe_of_over (runCore_newDwell (runCore_changeLine hcore false (by simp) (.inr rfl))) ?_ (by simp [openAt, inFlight])
  exact (flights_congr (by simp [openAt]) (by simp [openAt])).trans hf

theorem flights_emptied (h0 : t.trc.slot0 = .empty) (h1 : t.trc.slot1 = .empty) : flights t = 0 := by
  simp [flights, h0, h1, Slot.name]

theorem runSafe_closeLine (h : RunSafe s) : RunSafe (closeLine s) :=
  runSafe_of_over (runCore_changeLine (runSafe_iff.mp h).1 true (by simp) (.inl rfl))
    (flights_emptied (by simp [closeLine]) (by simp [closeLine])) (by simp [closeLine, inFlight])

theorem runSafe_enterInspection (h : RunSafe s) : RunSafe (enterInspection s) := by
  have hcore := (runSafe_iff.mp h).1
  unfold enterInspection
  dsimp only
  split
  · exact runSafe_of_over (runCore_newDwell (runCore_changeLine hcore true (by simp) (.inr rfl)))
      (flights_emptied (by simp) (by simp)) (by simp [inFlight])
  · exact runSafe_of_over (runCore_changeLine hcore true (by simp) (.inl rfl))
      (flights_emptied (by simp) (by simp)) (by simp [inFlight])

/-- The blocks after a reset are safe, whatever the reset finds (R81, R106, R121, R151). -/
theorem runSafe_resetBlocks (s : State) : RunSafe (resetBlocks s) := by
  refine runSafe_of_over ⟨?_, ?_, ?_, ?_, ?_⟩ (flights_emptied rfl rfl) rfl
  · simp [StageInv, resetBlocks, brsReset, Stage.rank]
  · simp [OutputInv, resetBlocks, brsReset, wantedOutputs, outputsWith, trcReset]
  · simp [LineInv, resetBlocks, trcReset, lsuReset]
  · constructor <;> simp [resetBlocks, brsReset, trcReset, driReset]
    case sbApply => simp [applyAtReset, startAt]; cases s.pins.sbIn.level <;> simp
    case ebApply => simp [applyAtReset, startAt]; cases s.pins.ebIn.level <;> simp
  · refine ⟨fun c hc => ?_, fun c d hd => ?_⟩
    · cases c <;> cases hc
    · cases c <;> cases d <;> cases hd

/-- A change that leaves every part the running line reads. -/
theorem runSafe_same (h : RunSafe s) (hcfg : t.cfg = s.cfg) (hcru : t.cru = s.cru) (hpsu : t.psu = s.psu)
    (hbrs : t.brs = s.brs) (htrc : t.trc = s.trc) (hdri : t.dri = s.dri) (hlsu : t.lsu = s.lsu) (hnow : t.now = s.now) :
    RunSafe t :=
  RunQuiet.runSafe (runQuiet_of_kept hcru hcfg hnow (by rw [hlsu]) (by rw [hpsu]) hbrs (by rw [htrc]) (by rw [htrc])
    (by rw [htrc]) (by rw [htrc]) hdri) (by rw [htrc]) (by rw [htrc]) h

theorem Act.runSafe {c : Instr} (h : RunSafe s) (a : Act s c u) : RunSafe u := by
  cases a with
  | moves _ m => exact m.runSafe h
  | openLine hl => exact runSafe_openAt h hl _
  | closeLine | leaveInspection => exact runSafe_closeLine h
  | enterInspection => exact runSafe_enterInspection h
  | evacuate c hc => exact runSafe_evacuate h hc
  | maintain c d hc => exact runSafe_maintain h hc
  | select => apply runSafe_same h <;> (unfold takeSnapshotSelect; split <;> simp)
  | snapshot => apply runSafe_same h <;> simp [takeSnapshot]
  | readNotice | enableNotices => apply runSafe_same h <;> simp
  | powerOn | pinReset => exact runSafe_same (s := resetCleared _) (runSafe_resetBlocks _) rfl rfl rfl rfl rfl rfl rfl rfl
  | resetPart => exact runSafe_resetBlocks _
  | resetRefused => exact h

theorem Ended.runSafe (h : RunSafe u) (e : Ended s u t) : RunSafe t := by
  obtain ⟨hcfg, hcru, hpsu, -, hbrs, htrc, hdri, -, hlsu, -, -, -, -, -, hnow, -⟩ := e.same
  exact runSafe_same h hcfg hcru hpsu hbrs htrc hdri hlsu hnow

/-- A tick moves the clock, and what waits in the queue. -/
theorem tick_eq (s : State) : tick s = { s with now := s.now + 1, pending := (tick s).pending } := by
  unfold tick
  dsimp only
  split <;> rfl

/-- One millisecond passes: reports grow old. -/
theorem runQuiet_tick (s : State) : RunQuiet s (tick s) := by
  rw [tick_eq]
  constructor
  case marked => exact markedLocked_congr rfl
  case locked => exact allLocked_mono rfl rfl (Nat.le_succ s.now)
  all_goals simp +contextual

/-- Settles O53: every act is a chain of moves, a change of the line state or a reset, and each keeps `RunSafe`. -/
theorem everyStepKeepsRunSafe : Obligations.EveryStepKeepsRunSafe := by
  refine step_keeps (Q := RunSafe) (fun s h => ?_) (fun s q h => ?_) (fun s c u h a => a.runSafe h)
    fun s u t h e => e.runSafe h
  · exact (runQuiet_tick s).runSafe (by rw [tick_eq]) (by rw [tick_eq]) h
  · exact runSafe_same h rfl rfl rfl rfl rfl rfl rfl rfl

end Sys2Proof.Machine
end

section
/-! O55: every step keeps the outputs as R64 gives them. Each operation that changes the stage, the trip state or the
reports sets the outputs last. -/

namespace Sys2Proof.Machine

variable {s t u : State}

/-- A change of nothing that the outputs read. -/
theorem OutputInv.same (h : OutputInv s) (hbrs : t.brs = s.brs) (hstate : t.trc.state = s.trc.state) (hcru : t.cru = s.cru)
    (hcfg : t.cfg = s.cfg) (hnow : t.now = s.now) : OutputInv t :=
  h.congr (by rw [hbrs]) hstate (by rw [hbrs]) (by rw [hbrs]) (by rw [hbrs]) (markedLocked_congr hcru)
    (allLocked_mono hcru hcfg (Nat.le_of_eq hnow.symm))

theorem RunQuiet.outputs (q : RunQuiet s t) (h : OutputInv s) : OutputInv t :=
  h.congr q.stage q.state q.drivePermit q.sbHoldoff q.ebHoldoff q.marked q.locked

/-! ## Dwells, aborts and brake stops -/

theorem newDwell_brs (k : Stop) (s : State) : (newDwell k s).brs = (setTripState (.dwell k) s).brs := by
  simp [newDwell, driNewDwell]

theorem resumedDwell_brs (k : Stop) (s : State) : (resumedDwell k s).brs = (setTripState (.dwell k) s).brs := by
  simp [resumedDwell]

theorem outputInv_newDwell (k : Stop) (s : State) : OutputInv (newDwell k s) :=
  (outputInv_setTripState (.dwell k) s).same (newDwell_brs k s) (by simp) (by simp) (by simp) (by simp)

theorem outputInv_resumedDwell (k : Stop) (s : State) : OutputInv (resumedDwell k s) :=
  (outputInv_setTripState (.dwell k) s).same (resumedDwell_brs k s) (by simp) (by simp) (by simp) (by simp)

theorem outputInv_abortTrip (cause : AbortCause) (s : State) : OutputInv (abortTrip cause s) := by
  unfold abortTrip
  refine (runQuiet_tripEnd _ _ _ _).outputs ?_
  split
  · exact outputInv_resumedDwell _ _
  · exact outputInv_setTripState _ _

theorem outputInv_endBraking (s : State) : OutputInv (endBraking s) := by
  unfold endBraking
  split
  · exact (runQuiet_tripEnd _ _ _ _).outputs (outputInv_newDwell _ _)
  · exact (runQuiet_stopPendings _).outputs ((runQuiet_tripEnd _ _ _ _).outputs (outputInv_setTripState _ _))

theorem outputInv_clearStage (s : State) : OutputInv (clearStage s) := by
  rw [clearStage_eq]
  split
  · exact outputInv_endBraking _
  · exact (outputInv_updateOutputs _).same rfl rfl rfl rfl rfl

theorem outputInv_tripOnRise (h : OutputInv s) : OutputInv (tripOnRise s) := by
  have habort : OutputInv (pendingsUnderStage (abortTrip .brake s)) :=
    (outputInv_abortTrip .brake s).same (by simp) (by simp) (by simp) (by simp) (by simp)
  unfold tripOnRise
  split
  case h_7 => exact h
  case h_4 | h_5 | h_6 => exact outputInv_setTripState _ s
  all_goals exact habort

theorem outputInv_raiseCause (h : OutputInv s) (c : Cause) (d : Detail) : OutputInv (raiseCause c d s) := by
  rw [raiseCause_eq]
  split
  next => exact h
  next =>
    split
    next =>
      rw [stageRise_eq]
      exact outputInv_tripOnRise ((outputInv_updateOutputs (causeTimed c d s)).same rfl rfl rfl rfl rfl)
    next hr =>
      refine h.congr ?_ ?_ ?_ ?_ ?_ (markedLocked_congr ?_) (allLocked_mono ?_ ?_ ?_) <;> simp [addCause, hr]

theorem outputInv_feedback (h : OutputInv s) (b : Brake) (level : Feedback) :
    OutputInv (timerAtFeedback b level (s.onBrs fun r => r.setFb level b)) := by
  obtain ⟨tm, hbrs⟩ := timerAtFeedback_brs b level (s.onBrs fun r => r.setFb level b)
  refine h.congr ?_ ?_ ?_ ?_ ?_ (markedLocked_congr ?_) (allLocked_mono ?_ ?_ ?_) <;> simp only [hbrs, timerAtFeedback_frame]
  case refine_9 => exact Nat.le_refl _
  all_goals cases b <;> rfl

/-! ## Every move and every act -/

theorem Move.outputs (h : OutputInv s) (m : Move s u) : OutputInv u := by
  cases m with
  | quiet q => exact q.runQuiet.outputs h
  | raise c d => exact outputInv_raiseCause h c d
  | poll | stale => exact outputInv_updateOutputs _
  | alarm c v => exact (runQuiet_setLatch c v s).outputs h
  | feedback b level => exact outputInv_feedback h b level
  | clear => exact outputInv_clearStage s
  | advance | start => exact outputInv_setTripState _ _
  | abort cause => exact outputInv_abortTrip cause s
  | complete => exact (runQuiet_tripEnd _ _ _ _).outputs (outputInv_newDwell _ _)
  | number p v hp => exact (runQuiet_number hp _).outputs h
  | reportTime v ha hb => exact (runQuiet_reportTime _ ha hb).outputs h
  | choice q hq => exact (runQuiet_write (fun c => { c with params := q }) (hq .tCar)).outputs h
  | doorSide | profile | markers => exact (runQuiet_write _ (by rfl)).outputs h
  | putLane | dropLane => exact (runQuiet_laneWrite _ _ (by rfl)).outputs h
  | uncommit | commit => exact (runQuiet_cfg _ (by rfl)).outputs h
  | confirmStill =>
    refine h.congr ?_ ?_ ?_ ?_ ?_ (markedLocked_congr ?_) (allLocked_mono ?_ ?_ ?_) <;> simp [Machine.confirmStill]
  | _ => apply h.same <;> simp

theorem Moves.outputs (h : OutputInv s) (m : Moves s u) : OutputInv u := by
  induction m with
  | refl => exact h
  | tail _ m ih => exact m.outputs ih

theorem outputInv_enterInspection (s : State) : OutputInv (enterInspection s) := by
  unfold enterInspection
  dsimp only
  split
  · exact outputInv_newDwell _ _
  · exact outputInv_setTripState _ _

theorem Act.outputs {c : Instr} (h : OutputInv s) (a : Act s c u) : OutputInv u := by
  have hreset (v : State) : OutputInv (resetBlocks v) := (runSafe_resetBlocks v).outputs
  cases a with
  | moves _ m => exact m.outputs h
  | openLine => exact outputInv_newDwell _ _
  | closeLine | leaveInspection => exact outputInv_setTripState _ _
  | enterInspection => exact outputInv_enterInspection s
  | select => apply h.same <;> (unfold takeSnapshotSelect; split <;> simp)
  | snapshot => apply h.same <;> simp [takeSnapshot]
  | evacuate | maintain | readNotice | enableNotices => apply h.same <;> simp
  | powerOn | pinReset => exact OutputInv.same (s := resetCleared _) (hreset _) rfl rfl rfl rfl rfl
  | resetPart => exact hreset _
  | resetRefused => exact h

theorem Ended.outputs (h : OutputInv u) (e : Ended s u t) : OutputInv t := by
  obtain ⟨hcfg, hcru, -, -, hbrs, htrc, -, -, -, -, -, -, -, -, hnow, -⟩ := e.same
  exact h.same hbrs (by rw [htrc]) hcru hcfg hnow

/-! ## The drive permit -/

/-- Where R64 calls for the permit. -/
theorem outputsWith_permit_iff (locked : Bool) :
    (outputsWith locked s).drivePermit = true ↔
      (s.trc.state = .running ∨ s.trc.state = .arriving) ∧ s.brs.stage = .none ∧ locked = true := by
  unfold outputsWith
  split
  next hs => split <;> simp_all
  next hs => simp [hs]
  next hs => simp [hs]

theorem drivePermitLaw_of_outputInv (h : OutputInv s) : DrivePermitLaw s := by
  refine ⟨fun hp => (outputsWith_permit_iff _).mp (h.2.2.2 hp), fun hpin => ?_⟩
  unfold outputPins at hpin
  split at hpin
  · cases hpin
  · simpa using hpin

/-- Settles O55: every change of what the outputs follow ends by setting them. -/
theorem everyStepKeepsOutputs : Obligations.EveryStepKeepsOutputs := by
  refine ⟨step_keeps (Q := OutputInv) (fun s h => (runQuiet_tick s).outputs h) (fun s q h => ?_)
    (fun s c u h a => a.outputs h) fun s u t h e => e.outputs h, fun s => drivePermitLaw_of_outputInv⟩
  exact h.same rfl rfl rfl rfl rfl

end Sys2Proof.Machine
end

section
/-! O37: the door permits and their grounds, and what a rise of the stage leaves of them (R62, R108, R109, R119). -/

namespace Sys2Proof.Machine

variable {s t u : State}

/-! ## The grounds -/

theorem platformGround_iff (c : Car) (d : Side) : platformGround s c d = true ↔ OnPlatform s c d := by
  have hserved (k : Stop) : servedAt s c d k = true ↔
      s.cfg.doorSide.alight.get (berthAt k c) = d ∨
        (s.dri.phase = .boarding ∧ s.cfg.doorSide.board.get (berthAt k c) = d) := by
    simp only [servedAt, decide_eq_true_eq]
  unfold platformGround OnPlatform
  split
  next k hs => simp [hs, hserved]
  next k hs => simp [hs, hserved]
  next hd hc =>
    refine iff_of_false (by simp) fun ⟨_, _, k, hk, _⟩ => ?_
    exact hk.elim (hd k) (hc k)

theorem permit_iff (c : Car) (d : Side) : permit s c d = true ↔ ReleasePermitted s c d := by
  have hheld : heldFor s (isFresh s c) = true ↔
      s.brs.drivePermit = false ∧ s.psu.still = true ∧ s.brs.sbFb = .applied ∧
        (s.cru.get c).fresh = true ∧ reportAge s c ≤ s.params.tCar := by
    simp only [heldFor, decide_eq_true_eq, isFresh_iff]
  have hevac : evacuationGround s c d = true ↔
      s.dri.evac.get c = true ∧ d = s.params.walkwaySide ∧ (s.trc.state = .stoppedOnLine ∨ s.trc.state = .braking) := by
    simp only [evacuationGround, decide_eq_true_eq]
  have hmaint : maintGround s c d = true ↔
      (s.dri.maint.get c).get d = true ∧ (s.lsu.line = .closed ∨ s.lsu.line = .inspection) ∧
        inFlight s.trc.state = false := by
    simp only [maintGround, decide_eq_true_eq]
  simp only [permit, permitWith, decide_eq_true_eq, hheld, platformGround_iff, hevac, hmaint, ReleasePermitted]

/-! ## A rise of the stage -/

/-- No evacuation release and no maintenance release is in force. -/
def NoReleases (s : State) : Prop := (∀ c, s.dri.evac.get c = false) ∧ ∀ c d, (s.dri.maint.get c).get d = false

theorem NoReleases.dri (h : NoReleases s) :
    s.dri.evac = ⟨false, false⟩ ∧ s.dri.maint = ⟨⟨false, false⟩, ⟨false, false⟩⟩ := by
  obtain ⟨hevac, hmaint⟩ := h
  have hside (x : PerSide Bool) (hl : x.get .left = false) (hr : x.get .right = false) : x = ⟨false, false⟩ := by
    obtain ⟨l, r⟩ := x
    simp_all [PerSide.get]
  have hcar {α : Type} (x : PerCar α) (y : α) (ha : x.get .a = y) (hb : x.get .b = y) : x = ⟨y, y⟩ := by
    obtain ⟨a, b⟩ := x
    simp_all [PerCar.get]
  exact ⟨hcar _ _ (hevac .a) (hevac .b),
    hcar _ _ (hside _ (hmaint .a .left) (hmaint .a .right)) (hside _ (hmaint .b .left) (hmaint .b .right))⟩

/-- Under a stage no permit stands on a platform's ground, and without a release none on another. -/
theorem permit_of_noReleases (h : NoReleases s) (hs : s.brs.stage ≠ .none) (c : Car) (d : Side) : permit s c d = false := by
  rw [Bool.eq_false_iff]
  intro hp
  obtain ⟨-, hground⟩ := (permit_iff c d).mp hp
  rcases hground with ⟨-, hn, -⟩ | ⟨he, -⟩ | ⟨hm, -⟩
  · exact hs hn
  · simp [h.1] at he
  · simp [h.2] at hm

/-- A rise of the stage takes every release away, and nothing puts one in force where none is. -/
def Withdraws (s u : State) : Prop :=
  (s.brs.stage.rank < u.brs.stage.rank → NoReleases u) ∧ (NoReleases s → NoReleases u)

theorem withdraws_of_same (hstage : u.brs.stage = s.brs.stage) (hdri : u.dri.evac = s.dri.evac ∧ u.dri.maint = s.dri.maint) :
    Withdraws s u := by
  refine ⟨fun hr => ?_, fun h => ?_⟩
  · simp [hstage] at hr
  · simpa only [NoReleases, hdri] using h

theorem withdraws_raiseCause (c : Cause) (d : Detail) (s : State) : Withdraws s (raiseCause c d s) := by
  rw [raiseCause_eq]
  split
  next => exact withdraws_of_same rfl ⟨rfl, rfl⟩
  next =>
    split
    next =>
      have h : NoReleases (tripOnRise (risen c d s)) := by simp [NoReleases]
      rw [stageRise_eq]
      exact ⟨fun _ => h, fun _ => h⟩
    next hr => exact withdraws_of_same (by simp [addCause, hr]) (by simp)

theorem withdraws_clearStage (s : State) : Withdraws s (clearStage s) := by
  have hrank : (clearStage s).brs.stage.rank = 0 := by simp [clearStage_stage, Stage.rank]
  refine ⟨fun hr => by omega, fun h => ?_⟩
  rw [clearStage_eq]
  split <;> simpa [NoReleases] using h.2

theorem Move.withdraws (m : Move s u) : Withdraws s u := by
  cases m with
  | raise c d => exact withdraws_raiseCause c d s
  | clear => exact withdraws_clearStage s
  | quiet q =>
    refine ⟨fun hr => by simp [q.stage] at hr, fun h => ⟨fun c => ?_, fun c d => ?_⟩⟩
    · exact Bool.eq_false_iff.mpr fun hc => by simpa [h.1 c] using q.evac c hc
    · exact Bool.eq_false_iff.mpr fun hd => by simpa [h.2 c d] using q.maint c d hd
  | start id r dest origin new =>
    refine ⟨fun hr => by simp at hr, fun h => ?_⟩
    refine ⟨fun c => by simpa using h.1 c, fun c d => ?_⟩
    cases c <;> cases d <;> simp [beginTrip, PerCar.get, PerSide.get]
  | _ => apply withdraws_of_same <;> simp

theorem Moves.withdraws (m : Moves s u) : Withdraws s u := by
  induction m with
  | refl => exact withdraws_of_same rfl ⟨rfl, rfl⟩
  | @tail t u _ m ih =>
    have hm := m.withdraws
    refine ⟨fun hr => ?_, fun h => hm.2 (ih.2 h)⟩
    by_cases hst : s.brs.stage.rank < t.brs.stage.rank
    · exact hm.2 (ih.1 hst)
    · exact hm.1 (by omega)

/-- The acts that are no chain of moves raise no stage. -/
theorem Act.withdraws {c : Instr} (a : Act s c u) (hr : s.brs.stage.rank < u.brs.stage.rank) : NoReleases u := by
  have hrank (h : u.brs.stage = s.brs.stage ∨ u.brs.stage = .none) : NoReleases u := by
    rcases h with h | h <;> simp [h, Stage.rank] at hr
  cases a with
  | moves _ m => exact m.withdraws.1 hr
  | powerOn | pinReset | resetPart => exact hrank (.inr rfl)
  | select => exact hrank (.inl (by unfold takeSnapshotSelect; split <;> simp))
  | snapshot => exact hrank (.inl (by simp [takeSnapshot]))
  | _ => exact hrank (.inl (by simp))

/-- Settles O37: of the operations a cause raised alone raises the stage, and it withdraws every release. -/
theorem riseWithdrawsPermits : Obligations.RiseWithdrawsPermits := by
  refine ⟨fun s c d => permit_iff c d, fun c s t ht hr => ?_⟩
  obtain ⟨u, hact, hend⟩ := exec_acts ht
  obtain ⟨-, -, -, -, hbrs, -, hdri, -⟩ := hend.same
  rw [hbrs] at hr
  have hnone : NoReleases t := by
    simpa only [NoReleases, hdri] using hact.withdraws hr
  have hstage : t.brs.stage ≠ .none := fun hn => by simp [← hbrs, hn, Stage.rank] at hr
  exact ⟨hnone.dri.1, hnone.dri.2, permit_of_noReleases hnone hstage⟩

end Sys2Proof.Machine
end

section
/-! What a change of the trip state leaves of the admission unit: the lanes, the reservations and the loads, but for the
uncounted counts that a dwell hands to the cars (R136). -/

namespace Sys2Proof.Machine

variable {s t u : State}

/-- Of the lanes, the reservations and the loads at most the uncounted counts change, and they stay within their limit. -/
structure AdmKept (a b : Adm) : Prop where
  lanes        : b.lanes = a.lanes
  reservations : b.reservations = a.reservations
  aboard       : ∀ c, (b.loads.get c).aboard = (a.loads.get c).aboard
  mirror       : ∀ c, (b.loads.get c).alarmMirror = (a.loads.get c).alarmMirror
  uncounted    : ∀ c, (b.loads.get c).uncounted ≤ Config.count255 ∨ (b.loads.get c).uncounted = (a.loads.get c).uncounted
  waiting      : ∀ x, b.uncounted.get x ≤ Config.count255 ∨ b.uncounted.get x = a.uncounted.get x

theorem AdmKept.of_same {a b : Adm} (hlanes : b.lanes = a.lanes) (hres : b.reservations = a.reservations)
    (hloads : b.loads = a.loads) (hunc : b.uncounted = a.uncounted) : AdmKept a b := by
  constructor <;> simp [hlanes, hres, hloads, hunc]

theorem AdmKept.refl (a : Adm) : AdmKept a a := .of_same rfl rfl rfl rfl

theorem AdmKept.trans {a b c : Adm} (h : AdmKept a b) (h' : AdmKept b c) : AdmKept a c where
  lanes := h'.lanes.trans h.lanes
  reservations := h'.reservations.trans h.reservations
  aboard := fun x => (h'.aboard x).trans (h.aboard x)
  mirror := fun x => (h'.mirror x).trans (h.mirror x)
  uncounted := fun x => (h'.uncounted x).elim .inl fun he => he ▸ h.uncounted x
  waiting := fun x => (h'.waiting x).elim .inl fun he => he ▸ h.waiting x

theorem transferBerth_kept (old new : TripState) (b : Berth) (a : Adm) : AdmKept a (transferBerth old new b a) := by
  unfold transferBerth
  split
  next c _ _ =>
    refine ⟨rfl, rfl, fun x => ?_, fun x => ?_, fun x => ?_, fun x => ?_⟩
    · by_cases hx : x = c
      · subst hx; simp
      · simp [PerCar.get_set_other _ _ hx]
    · by_cases hx : x = c
      · subst hx; simp
      · simp [PerCar.get_set_other _ _ hx]
    · by_cases hx : x = c
      · subst hx; left; simp [satAdd]
      · right; simp [PerCar.get_set_other _ _ hx]
    · by_cases hx : x = b
      · subst hx; left; simp
      · right; simp [PerBerth.get_set_other _ _ hx]
  next => exact .refl a

theorem admOnTrip_kept (old new : TripState) (s : State) : AdmKept s.adm (admOnTrip old new s).adm := by
  have hfold (l : List Berth) (a : Adm) : AdmKept a (l.foldl (fun x b => transferBerth old new b x) a) := by
    induction l generalizing a with
    | nil => exact .refl a
    | cons b l ih => exact (transferBerth_kept old new b a).trans (ih _)
  unfold admOnTrip
  simp only [State.onAdm_adm]
  split
  · exact hfold _ _
  · split
    · exact .of_same rfl rfl rfl rfl
    · exact .refl _

theorem setTripState_admKept (new : TripState) (s : State) : AdmKept s.adm (setTripState new s).adm := by
  rw [setTripState_adm]
  exact admOnTrip_kept _ _ s

theorem newDwell_admKept (k : Stop) (s : State) : AdmKept s.adm (newDwell k s).adm := by
  unfold newDwell
  exact (setTripState_admKept (.dwell k) s).trans (.of_same (by simp) (by simp) (by simp) (by simp))

theorem resumedDwell_admKept (k : Stop) (s : State) : AdmKept s.adm (resumedDwell k s).adm := by
  unfold resumedDwell
  exact (setTripState_admKept (.dwell k) s).trans (.of_same (by simp) (by simp) (by simp) (by simp))

theorem abortTrip_admKept (cause : AbortCause) (s : State) : AdmKept s.adm (abortTrip cause s).adm := by
  unfold abortTrip
  simp only [zeroMismatch_frame, handOwner_frame, freeSlots_frame]
  split
  · exact resumedDwell_admKept _ (s.onTrip _)
  · exact setTripState_admKept _ (s.onTrip _)

theorem completeTrip_admKept (s : State) : AdmKept s.adm (completeTrip s).adm := by
  unfold completeTrip
  simp only [zeroMismatch_frame, handOwner_frame, freeSlots_frame]
  exact newDwell_admKept _ (s.onTrip _)

theorem tripOnRise_admKept (s : State) : AdmKept s.adm (tripOnRise s).adm := by
  unfold tripOnRise
  split
  next => simpa using abortTrip_admKept .brake s
  next => simpa using abortTrip_admKept .brake s
  next => simpa using abortTrip_admKept .brake s
  next => exact setTripState_admKept .braking s
  next => exact setTripState_admKept .braking s
  next => exact setTripState_admKept .braking s
  next => exact .refl _

theorem raiseCause_admKept (c : Cause) (d : Detail) (s : State) : AdmKept s.adm (raiseCause c d s).adm := by
  rw [raiseCause_eq]
  split
  · exact .refl _
  · split
    · simpa [stageRise_eq] using tripOnRise_admKept (risen c d s)
    · simpa using AdmKept.refl s.adm

theorem clearStage_admKept (s : State) : AdmKept s.adm (clearStage s).adm := by
  have hend : AdmKept s.adm (endBraking (cleared s)).adm := by
    unfold endBraking
    dsimp only
    split <;> simp only [stopPendings_frame, zeroMismatch_frame, handOwner_frame, freeSlots_frame]
    · simpa using newDwell_admKept _ ((cleared s).onTrip _)
    · simpa using setTripState_admKept _ ((cleared s).onTrip _)
  rw [clearStage_eq]
  split
  · exact hend
  · simpa using AdmKept.refl s.adm

end Sys2Proof.Machine
end

section
/-! O54: the store, the reservations, the capacity and the thresholds, each kept by every move and every act. -/

namespace Sys2Proof.Machine

variable {s t u : State}

/-! ## The commit checks (R16, R17) -/

/-- The checks that read the store alone pass. -/
def StorePasses (s : State) : Prop :=
  commit1 s = none ∧ commit2 s = none ∧ commit3 s = none ∧ commit4 s = none ∧ commit5 s = none ∧ commit6 s = none ∧
    commit7 s = none ∧ commit8 s = none

theorem commit9_eq_none : commit9 s = none ↔ ∀ c, (s.adm.loads.get c).aboard ≤ s.params.capacity := by
  unfold commit9
  constructor
  · intro h c
    split at h
    · cases h
    · split at h
      · cases h
      · cases c <;> simp only [PerCar.get] <;> omega
  · intro h
    have ha := h .a
    have hb := h .b
    simp only [PerCar.get] at ha hb
    rw [if_neg (by omega), if_neg (by omega)]

theorem commitFailure_eq_none : commitFailure s = none ↔
    StorePasses s ∧ ∀ c, (s.adm.loads.get c).aboard ≤ s.params.capacity := by
  rw [← commit9_eq_none]
  simp [commitFailure, commitChecks, StorePasses, and_assoc]

theorem StorePasses.congr (h : t.cfg = s.cfg) : StorePasses t ↔ StorePasses s := by
  obtain ⟨⟩ := t
  cases h
  exact Iff.rfl

/-- No check reads T_CAR. -/
theorem storePasses_tCar (n : Nat) :
    StorePasses (s.onCfg fun c => { c with params := c.params.put n .tCar }) ↔ StorePasses s := by
  have hseg (l : List Segment) (k : Nat) (b : Option Nat) :
      badSegment (s.params.put n .tCar) k b l = badSegment s.params k b l := by
    induction l generalizing k b with
    | nil => rfl
    | cons x l ih =>
      unfold badSegment
      simp only [ih]
      rfl
  have hmark (l : List Nat) (k : Nat) (b : Option Nat) :
      badMarker (s.params.put n .tCar) k b l = badMarker s.params k b l := by
    induction l generalizing k b with
    | nil => rfl
    | cons x l ih =>
      unfold badMarker
      simp only [ih]
      rfl
  have h2 : commit2 (s.onCfg fun c => { c with params := c.params.put n .tCar }) = commit2 s := by
    unfold commit2
    simp only [State.onCfg_cfg]
    cases s.cfg.profile with
    | nil => rfl
    | cons x l => exact congrArg (Option.map CommitItem.segment) (hseg (x :: l) 0 none)
  have h3 : commit3 (s.onCfg fun c => { c with params := c.params.put n .tCar }) = commit3 s :=
    congrArg (Option.map CommitItem.marker) (hmark s.cfg.markers 0 none)
  unfold StorePasses
  rw [h2, h3]
  rfl

/-- The thresholds of a ceiling that the checks allow (R57): 10 ≤ C ≤ W1 ≤ S < E. -/
theorem thresholds_of_bounds (hp : ParamInv s) (hc : StorePasses s) {c : Nat} (hlo : s.params.vcreep ≤ c)
    (hhi : c ≤ max s.params.vcreep (max s.params.vinsp (max s.params.vred s.params.vmax))) :
    10 ≤ c ∧ c ≤ threshW1 s.params c ∧ threshW1 s.params c ≤ threshS s.params c ∧
      threshS s.params c < threshE s.params c := by
  obtain ⟨-, -, -, -, h5, -, h7, -⟩ := hc
  simp only [commit5] at h5
  simp only [commit7] at h7
  have hcreep : 10 ≤ s.params.vcreep := (hp .vcreep).1
  split at h5
  · cases h5
  split at h5
  · cases h5
  split at h5
  · cases h5
  split at h7
  · cases h7
  split at h7
  · cases h7
  have hmax : c ≤ s.params.vmax := by omega
  have hw : c * s.params.kWarn ≤ c * s.params.kSrv := Nat.mul_le_mul_left _ (by omega)
  have he : c * s.params.kSrv + 160 ≤ c * s.params.kEm := by
    calc c * s.params.kSrv + 160 ≤ c * s.params.kSrv + c * 16 := by omega
      _ = c * (s.params.kSrv + 16) := by rw [Nat.mul_add]
      _ ≤ c * s.params.kEm := Nat.mul_le_mul_left _ (by omega)
  have hs : c * s.params.kSrv ≤ s.params.vmax * s.params.kSrv := Nat.mul_le_mul_right _ hmax
  simp only [threshW1, threshS, threshE, withMargin] at *
  omega

/-! ## Reservations -/

/-- Reservations live on where their cars stay bound. -/
theorem ReservationInv.kept (h : ReservationInv s) (hline : t.lsu.line = s.lsu.line)
    (hres : t.adm.reservations = s.adm.reservations)
    (hbound : s.adm.reservations ≠ [] → ∀ b c, boundIn s.trc.state b = some c → boundIn t.trc.state b = some c)
    (horigin : ∀ k, t.trc.state = .closing k → t.trc.trip.origin = some k) : ReservationInv t where
  line := by rw [hres, hline]; exact h.line
  lanes := hres ▸ h.lanes
  bound := by
    rw [hres]
    intro r hr
    exact hbound (List.ne_nil_of_mem hr) _ _ (h.bound r hr)
  origin := horigin

theorem ReservationInv.same (h : ReservationInv s) (hline : t.lsu.line = s.lsu.line)
    (hres : t.adm.reservations = s.adm.reservations) (hstate : t.trc.state = s.trc.state)
    (horigin : t.trc.trip.origin = s.trc.trip.origin) : ReservationInv t :=
  h.kept hline hres (fun _ _ _ hb => hstate ▸ hb) (by rw [hstate, horigin]; exact h.origin)

/-- No reservation stands while no car is bound (R126). -/
theorem ReservationInv.nil (h : ReservationInv s) (hs : ∀ b, boundIn s.trc.state b = none) : s.adm.reservations = [] := by
  by_contra hne
  obtain ⟨r, hr⟩ := List.exists_mem_of_ne_nil _ hne
  simpa [boundCar, hs] using h.bound r hr

/-- Reservations taken away. -/
theorem ReservationInv.sublist (h : ReservationInv s) (hline : t.lsu.line = s.lsu.line)
    (hres : t.adm.reservations.Sublist s.adm.reservations) (hstate : t.trc.state = s.trc.state)
    (horigin : t.trc.trip.origin = s.trc.trip.origin) : ReservationInv t where
  line := fun hne => hline ▸ h.line fun he => hne (List.sublist_nil.mp (he ▸ hres))
  lanes := h.lanes.sublist (hres.map _)
  bound := fun r hr => by simpa [boundCar, hstate] using h.bound r (hres.subset hr)
  origin := by rw [hstate, horigin]; exact h.origin

end Sys2Proof.Machine
end

section
/-! O54: every move, every act and every step keeps the store and what rests on it. -/

namespace Sys2Proof.Machine

variable {s t u : State}

/-! ## The store as it stands -/

theorem TableInv.same (h : TableInv s) (htables : t.cfg.profile = s.cfg.profile ∧ t.cfg.markers = s.cfg.markers ∧ t.cfg.lanes = s.cfg.lanes)
    (hids : t.adm.lanes.map (·.id) = s.adm.lanes.map (·.id)) : TableInv t := by
  obtain ⟨hp, hm, hl⟩ := htables
  exact ⟨hp ▸ h.profile, hp ▸ h.profileSize, hm ▸ h.markers, hm ▸ h.markerSize, hl ▸ h.lanes,
    hids.trans (h.laneOps.trans (by rw [hl]))⟩

/-- With the store as it was: the lanes configured have their states, and a committed store its capacity. -/
theorem StoreSafe.kept (h : StoreSafe s) (hcfg : t.cfg = s.cfg) (hids : t.adm.lanes.map (·.id) = s.adm.lanes.map (·.id))
    (hres : ReservationInv t) (hcap : CapacityInv t) (hthr : ThresholdInv t) : StoreSafe t where
  tables := h.tables.same (by simp [hcfg]) hids
  params := by
    have hparams : t.params = s.params := by simp only [State.params, hcfg]
    intro p
    rw [hparams]
    exact h.params p
  reservations := hres
  capacity := hcap
  committed := by
    intro hc
    have hpass := (commitFailure_eq_none.mp (h.committed (hcfg ▸ hc))).1
    exact commitFailure_eq_none.mpr ⟨(StorePasses.congr hcfg).mpr hpass, fun c => Nat.le_trans (Nat.le_add_right _ _) (hcap hc c)⟩
  thresholds := hthr

theorem CapacityInv.kept (h : CapacityInv s) (hcfg : t.cfg = s.cfg) (hres : t.adm.reservations = s.adm.reservations)
    (hab : ∀ c, (t.adm.loads.get c).aboard = (s.adm.loads.get c).aboard) : CapacityInv t := by
  intro hc c
  simp only [reservedFor, State.params, hres, hab, hcfg]
  exact h (hcfg ▸ hc) c

/-- A change of the trip, with what it leaves of the admission unit. -/
theorem StoreSafe.onTrip (h : StoreSafe s) (hcfg : t.cfg = s.cfg) (hadm : AdmKept s.adm t.adm)
    (hclc : t.clc.c = s.clc.c ∧ t.clc.w1 = s.clc.w1 ∧ t.clc.s = s.clc.s ∧ t.clc.e = s.clc.e)
    (hres : ReservationInv t) : StoreSafe t := by
  refine h.kept hcfg (by rw [hadm.lanes]) hres (h.capacity.kept hcfg hadm.reservations hadm.aboard) ?_
  obtain ⟨hc, hw, hs, he⟩ := hclc
  simpa [ThresholdInv, hc, hw, hs, he] using h.thresholds

/-- A change of neither the store, the lanes nor the trip. -/
theorem StoreSafe.same (h : StoreSafe s) (hcfg : t.cfg = s.cfg) (hadm : AdmKept s.adm t.adm)
    (hclc : t.clc.c = s.clc.c ∧ t.clc.w1 = s.clc.w1 ∧ t.clc.s = s.clc.s ∧ t.clc.e = s.clc.e)
    (hline : t.lsu.line = s.lsu.line) (hstate : t.trc.state = s.trc.state)
    (horigin : t.trc.trip.origin = s.trc.trip.origin) : StoreSafe t :=
  h.onTrip hcfg hadm hclc (h.reservations.same hline hadm.reservations hstate horigin)

/-- Reservations taken away, with the loads as they were. -/
theorem StoreSafe.fewer (h : StoreSafe s) (hcfg : t.cfg = s.cfg) (hclc : t.clc = s.clc) (hline : t.lsu.line = s.lsu.line)
    (htrc : t.trc = s.trc) (hids : t.adm.lanes.map (·.id) = s.adm.lanes.map (·.id))
    (hloads : ∀ c, (t.adm.loads.get c).aboard = (s.adm.loads.get c).aboard)
    (hres : t.adm.reservations.Sublist s.adm.reservations) : StoreSafe t := by
  refine h.kept hcfg hids (h.reservations.sublist hline hres (by rw [htrc]) (by rw [htrc])) (fun hc c => ?_)
    (by simpa [ThresholdInv, hclc] using h.thresholds)
  have hle := (hres.filter (fun r => decide (r.car = c))).length_le
  have hcap := h.capacity (hcfg ▸ hc) c
  simp only [reservedFor, State.params, hcfg] at hcap ⊢
  rw [hloads]
  omega

/-! ## Places granted and taken (R126, R127, R128) -/

theorem reservationOf_eq_none {id : LaneId} : reservationOf s id = none ↔ ∀ r ∈ s.adm.reservations, r.lane ≠ id := by
  simp [reservationOf, List.find?_eq_none]

theorem admitCheck_ok {l : Lane} {c : Car} (h : admitCheck s l = .ok c) :
    laneEnabled s l.id = true ∧ reservationOf s l.id = none ∧ boundCar s l.platform = some c ∧
      admissionOpen s (berthOf l.platform) = true ∧ hasRoom s c = true := by
  unfold admitCheck at h
  split at h
  · cases h
  next hen =>
    split at h
    · cases h
    next hres =>
      split at h
      next hb =>
        split at h
        · cases h
        next hw =>
          split at h
          · cases h
          next hr =>
            cases h
            exact ⟨by simpa using hen, by simpa using hres, hb, by simpa using hw, by simpa using hr⟩
      · cases h

theorem onLane_ids (id : LaneId) (f : LaneOp → LaneOp) (hid : ∀ o, (f o).id = o.id) (s : State) :
    (onLane id f s).adm.lanes.map (·.id) = s.adm.lanes.map (·.id) := by
  simp only [onLane, State.onAdm_adm, List.map_map]
  refine List.map_congr_left fun o _ => ?_
  dsimp only [Function.comp]
  split
  · exact hid o
  · rfl

theorem storeSafe_grant (h : StoreSafe s) {l : Lane} {c : Car} (hc : admitCheck s l = .ok c) : StoreSafe (grant l c s) := by
  obtain ⟨-, hfree, hbound, hopen, hroom⟩ := admitCheck_ok hc
  have hres : (grant l c s).adm.reservations =
      s.adm.reservations ++ [⟨l.id, l.platform, c, startAt s.now (s.params.passTmo * 1000)⟩] := rfl
  have hline : s.lsu.line = .inService := by
    simp only [admissionOpen, decide_eq_true_eq] at hopen
    exact hopen.1
  refine h.kept (by simp) ?_ ⟨fun _ => hline, ?_, ?_, h.reservations.origin⟩ (fun hcom x => ?_) h.thresholds
  · exact onLane_ids l.id (fun o => { o with lapsed := false }) (fun _ => rfl) s
  · rw [hres, List.map_append, List.nodup_append]
    refine ⟨h.reservations.lanes, by simp, fun x hx y hy => ?_⟩
    obtain ⟨r, hr, rfl⟩ := List.mem_map.mp hx
    simp only [List.map_cons, List.map_nil, List.mem_singleton] at hy
    exact hy ▸ reservationOf_eq_none.mp hfree r hr
  · rw [hres]
    intro r hr
    rcases List.mem_append.mp hr with hr | hr
    · exact h.reservations.bound r hr
    · rw [List.mem_singleton.mp hr]; exact hbound
  · have hcap := h.capacity hcom x
    simp only [hasRoom, decide_eq_true_eq] at hroom
    simp only [reservedFor] at hcap hroom
    have hp : (grant l c s).params = s.params := rfl
    have hl : (grant l c s).adm.loads = s.adm.loads := rfl
    rw [hp, hl, reservedFor, hres, List.filter_append, List.length_append]
    by_cases hx : c = x
    · subst hx; simp; omega
    · simp [hx]; exact hcap

/-- A person who passes on a reservation takes its place in the count of the car. -/
theorem storeSafe_board (h : StoreSafe s) {l : Lane} {r : Reservation} (hr : reservationOf s l.id = some r) :
    StoreSafe (onLoad r.car (fun x => { x with aboard := x.aboard + 1 }) (dropReservation l.id s)) := by
  have hmem : r ∈ s.adm.reservations := List.mem_of_find?_eq_some hr
  have hlane : r.lane = l.id := by simpa using List.find?_some hr
  have hsub : (dropReservation l.id s).adm.reservations.Sublist s.adm.reservations := by simp [dropReservation]
  refine h.kept (by simp) rfl (h.reservations.sublist (by simp) hsub (by simp) (by simp)) (fun hcom c => ?_) h.thresholds
  have hcap := h.capacity hcom c
  simp only [onLoad, dropReservation, State.onAdm_adm, reservedFor, State.params, State.onAdm_cfg] at hcap ⊢
  by_cases hc : c = r.car
  · subst hc
    have hlt : ((s.adm.reservations.filter fun x => x.lane ≠ l.id).filter fun x => x.car = r.car).length <
        (s.adm.reservations.filter fun x => x.car = r.car).length := by
      rw [List.filter_comm, ← List.countP_eq_length_filter]
      refine Nat.lt_of_le_of_ne List.countP_le_length fun he => ?_
      have := List.countP_eq_length.mp he r (List.mem_filter.mpr ⟨hmem, by simp⟩)
      simp [hlane] at this
    simp only [PerCar.get_set_self]
    omega
  · have hle := ((List.filter_sublist (l := s.adm.reservations) (p := fun x => decide (x.lane ≠ l.id))).filter
      (fun x => decide (x.car = c))).length_le
    simp only [PerCar.get_set_other _ _ hc]
    omega

theorem storeSafe_load (h : StoreSafe s) (c : Car) (f : Load → Load)
    (ha : (f (s.adm.loads.get c)).aboard ≤ (s.adm.loads.get c).aboard ∨
      (f (s.adm.loads.get c)).aboard + reservedFor s c ≤ s.params.capacity) : StoreSafe (onLoad c f s) := by
  refine h.kept (by simp) rfl (h.reservations.same rfl rfl rfl rfl) (fun hcom x => ?_) h.thresholds
  have hcap := h.capacity hcom x
  show (((s.adm.loads.set c (f (s.adm.loads.get c))).get x).aboard + reservedFor s x ≤ s.params.capacity)
  by_cases hx : x = c
  · subst hx
    simp only [PerCar.get_set_self]
    omega
  · rw [PerCar.get_set_other _ _ hx]
    exact hcap

/-! ## The trip -/

theorem raiseCause_trcState (c : Cause) (d : Detail) (s : State) :
    (raiseCause c d s).trc.state = s.trc.state ∨ (raiseCause c d s).trc.state = riseState s := by
  rw [raiseCause_eq]
  split
  · exact .inl rfl
  · split
    · right
      rw [stageRise_eq, tripOnRise_state]
      simp [riseState, abortState]
    · exact .inl (by simp)

/-- A stop from which a trip returns: a car bound there in CLOSING stays bound (R103, R126). -/
theorem ReservationInv.abort (h : ReservationInv s) (hline : t.lsu.line = s.lsu.line)
    (hres : t.adm.reservations = s.adm.reservations) (hs : ∀ k, s.trc.state ≠ .dwell k)
    (hstate : t.trc.state = abortState s) : ReservationInv t := by
  refine h.kept hline hres (fun hne => ?_) fun k hk => ?_
  · cases hst : s.trc.state with
    | closing k =>
      have ho := h.origin k hst
      intro b c hb
      simpa [hstate, abortState, ho, boundIn] using hb
    | dwell k => exact absurd hst (hs k)
    | _ => exact absurd (h.nil fun b => by simp [hst, boundIn]) hne
  · rw [hstate] at hk
    unfold abortState at hk
    split at hk <;> cases hk

theorem reservationInv_rise (h : ReservationInv s) (hline : t.lsu.line = s.lsu.line)
    (hres : t.adm.reservations = s.adm.reservations) (hstate : t.trc.state = riseState s)
    (horigin : t.trc.trip.origin = s.trc.trip.origin) : ReservationInv t := by
  unfold riseState at hstate
  split at hstate
  next hs => exact h.abort hline hres (by simp [hs]) hstate
  next hs => exact h.abort hline hres (by simp [hs]) hstate
  next hs => exact h.abort hline hres (by simp [hs]) hstate
  next hs => exact h.kept hline hres (by simp [hs, boundIn]) (by simp [hstate])
  next hs => exact h.kept hline hres (by simp [hs, boundIn]) (by simp [hstate])
  next hs => exact h.kept hline hres (by simp [hs, boundIn]) (by simp [hstate])
  next => exact h.same hline hres hstate horigin

end Sys2Proof.Machine
end

section
/-! O54, O18: the tables of lanes as LANE PUT and LANE REMOVE leave them, and the writes of the store. -/

namespace Sys2Proof.Machine

variable {s t u : State}

/-! ## Lanes in their order (R13, R14) -/

theorem laneKey_injective {i j : LaneId} (h : laneKey i = laneKey j) : i = j := by
  obtain ⟨g, n, hn⟩ := i
  obtain ⟨g', m, hm⟩ := j
  have hbot : allGates.idxOf Gate.bot = 0 := rfl
  have hmid : allGates.idxOf Gate.mid = 1 := rfl
  have htop : allGates.idxOf Gate.top = 2 := rfl
  simp only [laneKey] at h
  cases g <;> cases g' <;> simp only [hbot, hmid, htop, LaneId.mk.injEq, Fin.mk.injEq, true_and] at h ⊢ <;> omega

theorem mem_insertLane {l m : Lane} {ls : List Lane} (h : m ∈ insertLane l ls) : m = l ∨ m ∈ ls := by
  induction ls with
  | nil => simpa [insertLane] using h
  | cons a ls ih =>
    unfold insertLane at h
    split at h
    · simpa using h
    · split at h <;> simp only [List.mem_cons] at h ⊢ <;> tauto

theorem pairwise_insertLane {l : Lane} {ls : List Lane} (h : ls.Pairwise fun l m => laneKey l.id < laneKey m.id) :
    (insertLane l ls).Pairwise fun l m => laneKey l.id < laneKey m.id := by
  induction ls with
  | nil => simp [insertLane]
  | cons a ls ih =>
    obtain ⟨ha, hls⟩ := List.pairwise_cons.mp h
    unfold insertLane
    split
    next hlt =>
      refine List.pairwise_cons.mpr ⟨fun m hm => ?_, h⟩
      rcases List.mem_cons.mp hm with rfl | hm
      · exact hlt
      · exact hlt.trans (ha m hm)
    next hlt =>
      split
      next he => exact List.pairwise_cons.mpr ⟨fun m hm => he ▸ ha m hm, hls⟩
      next hne =>
        refine List.pairwise_cons.mpr ⟨fun m hm => ?_, ih hls⟩
        rcases mem_insertLane hm with rfl | hm
        · exact lt_of_le_of_ne (not_lt.mp hlt) fun hk => hne (laneKey_injective hk).symm
        · exact ha m hm

/-- The operating states follow the layouts. -/
theorem insertLaneOp_ids (l : Lane) (o : LaneOp) (ho : o.id = l.id) (ls : List Lane) (os : List LaneOp)
    (h : os.map (·.id) = ls.map (·.id)) : (insertLaneOp o os).map (·.id) = (insertLane l ls).map (·.id) := by
  induction ls generalizing os with
  | nil =>
    obtain rfl : os = [] := by simpa using h
    simp [insertLane, insertLaneOp, ho]
  | cons a ls ih =>
    cases os with
    | nil => simp at h
    | cons b os =>
      simp only [List.map_cons, List.cons.injEq] at h
      obtain ⟨hb, hos⟩ := h
      simp only [insertLane, insertLaneOp, ho, hb]
      split
      · simp [ho, hb, hos]
      · split
        · simp [ho, hos]
        · simp [hb, ih os hos]

theorem storeSafe_of_uncommitted (h : StoreSafe s) (htables : TableInv t) (hparams : ParamInv t) (hclc : t.clc = s.clc)
    (hres : ReservationInv t) (hc : t.cfg.committed = false) : StoreSafe t where
  tables := htables
  params := hparams
  reservations := hres
  capacity := fun hcom => by simp [hc] at hcom
  committed := fun hcom => by simp [hc] at hcom
  thresholds := by simpa [ThresholdInv, hclc] using h.thresholds

/-- A write that leaves the lanes (R8). -/
theorem storeSafe_write (h : StoreSafe s) (f : Cfg → Cfg) (hp : ProfileOk (f s.cfg).profile) (hm : MarkersOk (f s.cfg).markers)
    (hl : (f s.cfg).lanes = s.cfg.lanes)
    (hq : ∀ p, (paramRow p).lo ≤ (f s.cfg).params.get p ∧ (f s.cfg).params.get p ≤ (paramRow p).hi) :
    StoreSafe (uncommit (s.onCfg f)) := by
  refine storeSafe_of_uncommitted h ⟨hp.1, hp.2, hm.1, hm.2, ?_, ?_⟩ hq rfl (h.reservations.same rfl rfl rfl rfl) rfl
  · exact hl ▸ h.tables.lanes
  · exact hl ▸ h.tables.laneOps

theorem TableInv.profileOk (h : TableInv s) : ProfileOk s.cfg.profile := ⟨h.profile, h.profileSize⟩

theorem TableInv.markersOk (h : TableInv s) : MarkersOk s.cfg.markers := ⟨h.markers, h.markerSize⟩

theorem storeSafe_putLane (h : StoreSafe s) (l : Lane) : StoreSafe (uncommit (putLane l s)) := by
  have ht := h.tables
  refine storeSafe_of_uncommitted h ⟨ht.profile, ht.profileSize, ht.markers, ht.markerSize, ?_, ?_⟩ h.params rfl ?_ rfl
  · exact pairwise_insertLane ht.lanes
  · exact insertLaneOp_ids l _ rfl _ _ ht.laneOps
  · exact h.reservations.sublist rfl List.filter_sublist rfl rfl

theorem storeSafe_dropLane (h : StoreSafe s) (id : LaneId) : StoreSafe (uncommit (dropLane id s)) := by
  have ht := h.tables
  refine storeSafe_of_uncommitted h ⟨ht.profile, ht.profileSize, ht.markers, ht.markerSize, ?_, ?_⟩ h.params rfl ?_ rfl
  · exact ht.lanes.sublist List.filter_sublist
  · show (s.adm.lanes.filter fun l => l.id ≠ id).map (·.id) = (s.cfg.lanes.filter fun l => l.id ≠ id).map (·.id)
    have hmap (p : LaneId → Bool) {α : Type} (f : α → LaneId) (l : List α) :
        (l.filter fun x => p (f x)).map f = (l.map f).filter p := by
      rw [List.filter_map]; rfl
    rw [hmap (fun i => decide (i ≠ id)) (·.id) s.adm.lanes, hmap (fun i => decide (i ≠ id)) (·.id) s.cfg.lanes, ht.laneOps]
  · exact h.reservations.sublist rfl List.filter_sublist rfl rfl

/-! ## Parameters (R6) -/

theorem Params.get_put_self (q : Params) (n : Nat) (p : NumParam) : (q.put n p).get p = n := by
  cases p <;> rfl

theorem Params.get_put_other {p r : NumParam} (h : r ≠ p) (q : Params) (n : Nat) : (q.put n p).get r = q.get r := by
  cases p <;> cases r <;> trivial

theorem clampNat_bounds {lo hi : Nat} (h : lo ≤ hi) (v : Int) : lo ≤ clampNat lo hi v ∧ clampNat lo hi v ≤ hi := by
  simp only [clampNat]
  omega

theorem paramRow_lo_le_hi (p : NumParam) : (paramRow p).lo ≤ (paramRow p).hi := by
  cases p <;> decide

theorem paramInv_put (h : ParamInv s) (p : NumParam) (v : Int) (r : NumParam) :
    (paramRow r).lo ≤ (s.params.put (clampNat (paramRow p).lo (paramRow p).hi v) p).get r ∧
      (s.params.put (clampNat (paramRow p).lo (paramRow p).hi v) p).get r ≤ (paramRow r).hi := by
  by_cases hr : r = p
  · subst hr
    rw [Params.get_put_self]
    exact clampNat_bounds (paramRow_lo_le_hi r) v
  · rw [Params.get_put_other hr]
    exact h r

/-- T_CAR stored: the one parameter that is stored with the store still committed, as no check reads it. -/
theorem storeSafe_reportTime (h : StoreSafe s) (v : Int) :
    StoreSafe (s.onCfg fun c => { c with params := c.params.put (clampNat (paramRow .tCar).lo (paramRow .tCar).hi v) .tCar }) where
  tables := h.tables.same ⟨rfl, rfl, rfl⟩ rfl
  params := paramInv_put h.params .tCar v
  reservations := h.reservations.same rfl rfl rfl rfl
  capacity := h.capacity
  committed := by
    intro hc
    obtain ⟨hpass, hcap⟩ := commitFailure_eq_none.mp (h.committed hc)
    exact commitFailure_eq_none.mpr ⟨(storePasses_tCar _).mpr hpass, hcap⟩
  thresholds := h.thresholds

/-- A committed store of a CLOSED line, on which no reservation stands. -/
theorem storeSafe_commit (h : StoreSafe s) (hline : s.lsu.line = .closed) (hc : commitFailure s = none) :
    StoreSafe (s.onCfg fun c => { c with committed := true }) where
  tables := h.tables.same ⟨rfl, rfl, rfl⟩ rfl
  params := h.params
  reservations := h.reservations.same rfl rfl rfl rfl
  capacity := by
    intro _ c
    have hnil : s.adm.reservations = [] := by
      by_contra hne
      simp [h.reservations.line hne] at hline
    have hcap := (commitFailure_eq_none.mp hc).2 c
    show (s.adm.loads.get c).aboard + (s.adm.reservations.filter fun r => r.car = c).length ≤ s.params.capacity
    simpa [hnil] using hcap
  committed := by
    intro _
    obtain ⟨hpass, hcap⟩ := commitFailure_eq_none.mp hc
    exact commitFailure_eq_none.mpr ⟨hpass, hcap⟩
  thresholds := h.thresholds

end Sys2Proof.Machine
end

section
/-! O54: every move, every act and every step keeps `StoreSafe`. -/

namespace Sys2Proof.Machine

variable {s t u : State}

/-! ## Moves -/

theorem follows_closing {new : TripState} (hf : follows s.trc.state new = true) (k : Stop) : new ≠ .closing k := by
  intro hk
  subst hk
  cases hs : s.trc.state <;> simp [hs, follows] at hf

theorem storeSafe_advance (h : StoreSafe s) {new : TripState} (hf : follows s.trc.state new = true)
    (hr : isClosing s.trc.state = true → s.adm.reservations = []) : StoreSafe (setTripState new s) := by
  have hadm := setTripState_admKept new s
  refine h.onTrip (by simp) hadm (by simp) (h.reservations.kept (by simp) hadm.reservations (fun hne => ?_) fun k hk => ?_)
  · refine absurd ?_ hne
    cases hs : s.trc.state with
    | closing k => exact hr (by simp [hs, isClosing])
    | dwell k => simp [hs, follows] at hf
    | _ => exact h.reservations.nil fun b => by simp [hs, boundIn]
  · exact absurd (by simpa using hk) (follows_closing hf k)

theorem storeSafe_start (h : StoreSafe s) (id : SlotId) (r : TripReq) (dest : Stop) {origin : Option Stop} {new : TripState}
    (hs : Starts s origin new) : StoreSafe (setTripState new (beginTrip id r dest origin s)) := by
  have hadm : AdmKept s.adm (setTripState new (beginTrip id r dest origin s)).adm := by
    simpa using setTripState_admKept new (beginTrip id r dest origin s)
  have horigin : (beginTrip id r dest origin s).trc.trip.origin = origin := by simp [beginTrip, startRecord]
  refine h.onTrip (by simp) hadm (by simp) (h.reservations.kept (by simp) hadm.reservations (fun hne => ?_) fun k hk => ?_)
  · obtain ⟨-, ⟨k, hst, -, hn⟩ | ⟨hst, -, -⟩⟩ := hs
    · rw [if_pos (h.reservations.line hne)] at hn
      intro b c hb
      simpa [hn, boundIn, hst] using hb
    · exact absurd (h.reservations.nil fun b => by simp [hst, boundIn]) hne
  · rw [setTripState_state] at hk
    simp only [setTripState_frame, horigin]
    obtain ⟨-, ⟨j, -, ho, hn⟩ | ⟨-, -, hn⟩⟩ := hs
    · rw [hn] at hk
      split at hk
      · cases hk; exact ho
      · cases hk
    · rw [hn] at hk; cases hk

theorem storeSafe_abort (h : StoreSafe s) (hs : cancellable s.trc.state = true) (cause : AbortCause) :
    StoreSafe (abortTrip cause s) := by
  have hadm := abortTrip_admKept cause s
  refine h.onTrip (by simp) hadm (by simp) (h.reservations.abort (by simp) hadm.reservations (fun k hk => ?_) (by simp))
  simp [hk, cancellable] at hs

theorem storeSafe_complete (h : StoreSafe s) (hs : s.trc.state = .arriving) : StoreSafe (completeTrip s) := by
  have hadm := completeTrip_admKept s
  refine h.onTrip (by simp) hadm (by simp) (h.reservations.kept (by simp) hadm.reservations (fun hne => ?_) fun k hk => ?_)
  · exact absurd (h.reservations.nil fun b => by simp [hs, boundIn]) hne
  · simp [completeTrip] at hk

theorem storeSafe_raise (h : StoreSafe s) (c : Cause) (d : Detail) : StoreSafe (raiseCause c d s) := by
  have hadm := raiseCause_admKept c d s
  refine h.onTrip (by simp) hadm (by simp) ?_
  obtain hst | hst := raiseCause_trcState c d s
  · exact h.reservations.same (by simp) hadm.reservations hst (by simp)
  · exact reservationInv_rise h.reservations (by simp) hadm.reservations hst (by simp)

theorem storeSafe_clear (h : StoreSafe s) : StoreSafe (clearStage s) := by
  have hadm := clearStage_admKept s
  refine h.onTrip (by simp) hadm (by simp) ?_
  by_cases hs : s.trc.state = .braking
  · refine h.reservations.kept (by simp) hadm.reservations (fun hne => ?_) fun k hk => ?_
    · exact absurd (h.reservations.nil fun b => by simp [hs, boundIn]) hne
    · have hover := (endBraking_over (cleared s)).2
      rw [clearStage_eq, if_pos hs] at hk
      simp [hk, inFlight] at hover
  · exact h.reservations.same (by simp) hadm.reservations (by simp [clearStage_eq, hs]) (by simp)

theorem storeSafe_ceiling (h : StoreSafe s) {c : Nat} (hc : s.cfg.committed = true) (hlo : s.params.vcreep ≤ c)
    (hhi : c ≤ max s.params.vcreep (max s.params.vinsp (max s.params.vred s.params.vmax))) : StoreSafe (setCeiling c s) :=
  h.kept rfl rfl (h.reservations.same rfl rfl rfl rfl) h.capacity
    (thresholds_of_bounds h.params (commitFailure_eq_none.mp (h.committed hc)).1 hlo hhi)

theorem setLatch_admKept (c : Car) (v : Bool) (s : State) (x : Car) :
    ((setLatch c v s).adm.loads.get x).aboard = (s.adm.loads.get x).aboard := by
  cases c <;> cases x <;> rfl

theorem Move.storeSafe (h : StoreSafe s) (m : Move s u) : StoreSafe u := by
  cases m with
  | quiet q =>
    exact h.same q.cfg (.of_same q.lanes q.reservations q.loads q.uncounted)
      ⟨q.ceiling, q.warn, q.service, q.emergency⟩ q.line q.state q.origin
  | raise c d => exact storeSafe_raise h c d
  | clear => exact storeSafe_clear h
  | advance new hf hr => exact storeSafe_advance h hf hr
  | start id r dest origin new hs => exact storeSafe_start h id r dest hs
  | abort cause hs => exact storeSafe_abort h hs cause
  | complete hs => exact storeSafe_complete h hs
  | ceiling c hc hlo hhi => exact storeSafe_ceiling h hc hlo hhi
  | alarm c v =>
    exact h.fewer (by simp [setLatch]) (by simp [setLatch]) (by simp [setLatch]) (by simp [setLatch]) (by simp [setLatch])
      (setLatch_admKept c v s) (by simp [setLatch])
  | lane id f hid => exact h.fewer rfl rfl rfl rfl (onLane_ids id f hid s) (fun _ => rfl) (.refl _)
  | grant l c hc => exact storeSafe_grant h hc
  | drop id => exact h.fewer rfl rfl rfl rfl rfl (fun _ => rfl) List.filter_sublist
  | board l r hr => exact storeSafe_board h hr
  | load c f hm hu ha => exact storeSafe_load h c f ha
  | waiting b n => exact h.fewer rfl rfl rfl rfl rfl (fun _ => rfl) (.refl _)
  | number p v => exact storeSafe_write h _ h.tables.profileOk h.tables.markersOk rfl (paramInv_put h.params p v)
  | reportTime v => exact storeSafe_reportTime h v
  | choice q hq =>
    exact storeSafe_write h (fun c => { c with params := q }) h.tables.profileOk h.tables.markersOk rfl
      fun p => hq p ▸ h.params p
  | doorSide f =>
    exact storeSafe_write h (fun c => { c with doorSide := f }) h.tables.profileOk h.tables.markersOk rfl h.params
  | profile l hl =>
    exact storeSafe_write h (fun c => { c with profile := l }) (hl h.tables.profileOk) h.tables.markersOk rfl h.params
  | markers l hl =>
    exact storeSafe_write h (fun c => { c with markers := l }) h.tables.profileOk (hl h.tables.markersOk) rfl h.params
  | putLane l => exact storeSafe_putLane h l
  | dropLane id => exact storeSafe_dropLane h id
  | uncommit => exact storeSafe_write h id h.tables.profileOk h.tables.markersOk rfl h.params
  | commit hline hc => exact storeSafe_commit h hline hc
  | hand | capture | markIncident | poll | stale | stillCount | confirmStill | loseStill | mismatch | feedback | slot =>
    apply h.same <;> simp [AdmKept.refl]

theorem Moves.storeSafe (h : StoreSafe s) (m : Moves s u) : StoreSafe u := by
  induction m with
  | refl => exact h
  | tail _ m ih => exact m.storeSafe ih

/-! ## Acts -/

theorem markLapsed_ids (rs : List Reservation) (ops : List LaneOp) : (markLapsed rs ops).map (·.id) = ops.map (·.id) := by
  simp only [markLapsed, List.map_map]
  refine List.map_congr_left fun o _ => ?_
  dsimp only [Function.comp]
  split <;> rfl

theorem changeLine_adm (new : LineState) (slots : Bool) (s : State) :
    (changeLine new slots s).adm = { s.adm with reservations := [], lanes := markLapsed s.adm.reservations s.adm.lanes } := by
  cases slots <;> simp [changeLine, emptyReservations]

/-- A change of the line state empties the reservation list, whatever trip state follows (R133, R143). -/
theorem storeSafe_changeLine (h : StoreSafe s) (new : LineState) (slots : Bool)
    (hadm : AdmKept (changeLine new slots s).adm t.adm) (hcfg : t.cfg = s.cfg)
    (hclc : t.clc.c = s.clc.c ∧ t.clc.w1 = s.clc.w1 ∧ t.clc.s = s.clc.s ∧ t.clc.e = s.clc.e)
    (hstate : ∀ k, t.trc.state ≠ .closing k) : StoreSafe t := by
  rw [changeLine_adm] at hadm
  have hnil : t.adm.reservations = [] := hadm.reservations
  refine h.kept hcfg ?_ ⟨by simp [hnil], by simp [hnil], by simp [hnil], fun k hk => absurd hk (hstate k)⟩ (fun hc c => ?_) ?_
  · rw [hadm.lanes]
    exact markLapsed_ids _ _
  · have hcap := h.capacity (hcfg ▸ hc) c
    have hab := hadm.aboard c
    simp only [reservedFor, hnil, State.params, hcfg, hab] at hcap ⊢
    simp
    omega
  · obtain ⟨hc, hw, hs, he⟩ := hclc
    simpa [ThresholdInv, hc, hw, hs, he] using h.thresholds

theorem storeSafe_closeLine (h : StoreSafe s) : StoreSafe (closeLine s) :=
  storeSafe_changeLine h .closed true (setTripState_admKept _ _) (by simp [closeLine]) (by simp [closeLine])
    (by simp [closeLine])

theorem storeSafe_openAt (h : StoreSafe s) (k : Stop) : StoreSafe (openAt k s) :=
  storeSafe_changeLine h .inService false (newDwell_admKept _ _) (by simp [openAt]) (by simp [openAt]) (by simp [openAt])

theorem storeSafe_enterInspection (h : StoreSafe s) : StoreSafe (enterInspection s) := by
  unfold enterInspection
  dsimp only
  split
  · exact storeSafe_changeLine h .inspection true (newDwell_admKept _ _) (by simp) (by simp) (by simp)
  · exact storeSafe_changeLine h .inspection true (setTripState_admKept _ _) (by simp) (by simp) (by simp)

/-- The admission unit after a reset: no reservation, and nobody aboard (R141). -/
theorem storeSafe_reset (htables : TableInv t) (hparams : ParamInv t) (hres : t.adm.reservations = [])
    (hload : ∀ c, (t.adm.loads.get c).aboard = 0) (hpass : t.cfg.committed = true → StorePasses t)
    (hstate : t.trc.state = .none) (hthr : ThresholdInv t) : StoreSafe t where
  tables := htables
  params := hparams
  reservations := ⟨by simp [hres], by simp [hres], by simp [hres], by simp [hstate]⟩
  capacity := by simp [CapacityInv, reservedFor, hres, hload]
  committed := fun hc => commitFailure_eq_none.mpr ⟨hpass hc, by simp [hload]⟩
  thresholds := hthr

theorem admReset_loads (lanes : List Lane) (c : Car) : ((admReset lanes).loads.get c).aboard = 0 := by
  cases c <;> rfl

theorem admReset_ids (lanes : List Lane) : (admReset lanes).lanes.map (·.id) = lanes.map (·.id) := by
  simp [admReset, laneOpReset, Function.comp_def]

/-- R6, R18: the power-on values lie in their ranges. -/
theorem powerOn_inRange (p : NumParam) :
    (paramRow p).lo ≤ Params.powerOn.get p ∧ Params.powerOn.get p ≤ (paramRow p).hi := by
  cases p <;> decide

theorem storeSafe_resetCleared (s : State) (f : Pins → Pins) : StoreSafe ((resetCleared s).onPins f) := by
  refine storeSafe_reset ⟨.nil, Nat.zero_le _, .nil, Nat.zero_le _, .nil, rfl⟩ powerOn_inRange rfl (admReset_loads []) ?_ rfl ?_
  · intro hc
    cases hc
  · show 10 ≤ clcPowerOn.c ∧ clcPowerOn.c ≤ clcPowerOn.w1 ∧ clcPowerOn.w1 ≤ clcPowerOn.s ∧ clcPowerOn.s < clcPowerOn.e
    decide

theorem storeSafe_resetPart (h : StoreSafe s) : StoreSafe (resetPart s) := by
  have ht := h.tables
  have hpass (hc : s.cfg.committed = true) : StorePasses s := (commitFailure_eq_none.mp (h.committed hc)).1
  refine storeSafe_reset ⟨ht.profile, ht.profileSize, ht.markers, ht.markerSize, ht.lanes, admReset_ids s.cfg.lanes⟩
    h.params rfl (admReset_loads s.cfg.lanes) (fun hc => (StorePasses.congr rfl).mpr (hpass hc)) rfl ?_
  show ThresholdInv { s with clc := clcResetPart s.cfg s.clc }
  unfold clcResetPart
  split
  next hc => exact thresholds_of_bounds h.params (hpass hc) (Nat.le_refl _) (Nat.le_max_left _ _)
  next => exact h.thresholds

/-- A change that leaves every part the store reads. -/
theorem storeSafe_same (h : StoreSafe s) (hcfg : t.cfg = s.cfg) (hclc : t.clc = s.clc) (htrc : t.trc = s.trc)
    (hadm : t.adm = s.adm) (hlsu : t.lsu = s.lsu) : StoreSafe t :=
  h.same hcfg (hadm ▸ .refl _) (by simp [hclc]) (by rw [hlsu]) (by rw [htrc]) (by rw [htrc])

theorem Act.storeSafe {c : Instr} (h : StoreSafe s) (a : Act s c u) : StoreSafe u := by
  cases a with
  | moves _ m => exact m.storeSafe h
  | openLine => exact storeSafe_openAt h _
  | closeLine | leaveInspection => exact storeSafe_closeLine h
  | enterInspection => exact storeSafe_enterInspection h
  | evacuate | maintain => apply storeSafe_same h <;> simp
  | select => apply storeSafe_same h <;> (unfold takeSnapshotSelect; split <;> simp)
  | snapshot => apply storeSafe_same h <;> simp [takeSnapshot]
  | readNotice | enableNotices => apply storeSafe_same h <;> simp
  | powerOn | pinReset => exact storeSafe_resetCleared _ _
  | resetPart => exact storeSafe_resetPart h
  | resetRefused => exact h

theorem Ended.storeSafe (h : StoreSafe u) (e : Ended s u t) : StoreSafe t := by
  obtain ⟨hcfg, -, -, hclc, -, htrc, -, hadm, hlsu, -⟩ := e.same
  exact storeSafe_same h hcfg hclc htrc hadm hlsu

/-- Settles O54: every act is a chain of moves, a change of the line state or a reset, and each keeps `StoreSafe`. -/
theorem everyStepKeepsStoreSafe : Obligations.EveryStepKeepsStoreSafe := by
  refine step_keeps (Q := StoreSafe) (fun s h => ?_) (fun s q h => ?_) (fun s c u h a => a.storeSafe h)
    fun s u t h e => e.storeSafe h
  · rw [tick_eq]
    exact storeSafe_same h rfl rfl rfl rfl rfl
  · exact storeSafe_same h rfl rfl rfl rfl rfl

end Sys2Proof.Machine
end

section
/-! O57: the state after power-on reset. -/

namespace Sys2Proof.Machine

theorem latchInv_reset : LatchInv State.reset := by
  refine ⟨fun st => ?_, fun st _ => ?_⟩
  · have hrec : State.reset.niu.notices.get st = { pending := [], enabled := [], latched := none } := by cases st <;> rfl
    simp [hrec]
  · cases st <;> rfl

theorem countInv_reset : CountInv State.reset where
  still := Nat.zero_le _
  mismatch := fun c => by cases c <;> exact Nat.zero_le _
  overspeed := Nat.zero_le _
  uncounted := fun c => by cases c <;> exact Nat.zero_le _
  platform := fun b => by cases b <;> exact Nat.zero_le _
  lapses := by simp [State.reset, admReset]

/-- Settles O57: the blocks after a reset are safe whatever it finds, and the lists are empty. -/
theorem resetMeetsTheInvariants : Obligations.ResetMeetsTheInvariants := by
  refine ⟨?_, ?_, latchInv_reset, countInv_reset, ?_, fun st => ?_, ⟨rfl, rfl⟩⟩
  · exact runSafe_same (runSafe_resetBlocks State.reset) rfl rfl rfl rfl rfl rfl rfl rfl
  · exact storeSafe_same (storeSafe_resetCleared State.reset id) rfl rfl rfl rfl rfl
  · exact ⟨Nat.zero_le _, Nat.zero_le _, by decide⟩
  · cases st <;> simp [State.reset, lbpReset, PerStation.all, PerStation.get]

end Sys2Proof.Machine
end

section
/-! O56: the counts, the incident list, the selections and the alarm mirrors, kept by every move and every act. -/

namespace Sys2Proof.Machine

variable {s t u : State}

/-! ## The counts and the mirrors -/

/-- A change that keeps every saturating count within its limit and every mirror with its latch. -/
structure CountsKept (s t : State) : Prop where
  still     : t.psu.stillCount ≤ Config.stillMax ∨ t.psu.stillCount = s.psu.stillCount
  mismatch  : ∀ c, t.psu.mismatch.get c ≤ Config.mismatchMax ∨ t.psu.mismatch.get c = s.psu.mismatch.get c
  overspeed : t.brs.overspeedCount ≤ 2 ∨ t.brs.overspeedCount = s.brs.overspeedCount
  uncounted : ∀ c, (t.adm.loads.get c).uncounted ≤ Config.count255 ∨
    (t.adm.loads.get c).uncounted = (s.adm.loads.get c).uncounted
  platform  : ∀ b, t.adm.uncounted.get b ≤ Config.count255 ∨ t.adm.uncounted.get b = s.adm.uncounted.get b
  lapses    : ∀ l ∈ t.adm.lanes, l.lapses ≤ Config.lapseMax ∨ ∃ m ∈ s.adm.lanes, l.lapses = m.lapses
  mirror    : ∀ c, (s.adm.loads.get c).alarmMirror = (s.cru.get c).latch →
    (t.adm.loads.get c).alarmMirror = (t.cru.get c).latch

theorem mirrorInv_iff : MirrorInv s ↔ ∀ c, (s.adm.loads.get c).alarmMirror = (s.cru.get c).latch := by
  constructor
  · rintro ⟨ha, hb⟩ (_ | _)
    · exact ha
    · exact hb
  · exact fun h => ⟨h .a, h .b⟩

theorem CountsKept.mirrorInv (k : CountsKept s t) (h : MirrorInv s) : MirrorInv t :=
  mirrorInv_iff.mpr fun c => k.mirror c (mirrorInv_iff.mp h c)

theorem CountsKept.countInv (k : CountsKept s t) (h : CountInv s) : CountInv t where
  still := k.still.elim id fun he => he ▸ h.still
  mismatch := fun c => (k.mismatch c).elim id fun he => he ▸ h.mismatch c
  overspeed := k.overspeed.elim id fun he => he ▸ h.overspeed
  uncounted := fun c => (k.uncounted c).elim id fun he => he ▸ h.uncounted c
  platform := fun b => (k.platform b).elim id fun he => he ▸ h.platform b
  lapses := fun l hl => (k.lapses l hl).elim id fun ⟨m, hm, he⟩ => he ▸ h.lapses m hm

/-- A change of the trip, with what it leaves of the admission unit. -/
theorem countsKept_of_adm (hadm : AdmKept s.adm t.adm) (hlatch : ∀ c, (t.cru.get c).latch = (s.cru.get c).latch)
    (hstill : t.psu.stillCount = s.psu.stillCount)
    (hmismatch : t.psu.mismatch = s.psu.mismatch ∨ t.psu.mismatch = ⟨0, 0⟩)
    (hover : t.brs.overspeedCount = s.brs.overspeedCount ∨ t.brs.overspeedCount = 0) : CountsKept s t where
  still := .inr hstill
  mismatch := by
    rcases hmismatch with h | h
    · exact fun c => .inr (by rw [h])
    · exact fun c => .inl (by rw [h]; cases c <;> exact Nat.zero_le _)
  overspeed := hover.elim .inr fun h => .inl (by omega)
  uncounted := hadm.uncounted
  platform := hadm.waiting
  lapses := fun l hl => .inr ⟨l, hadm.lanes ▸ hl, rfl⟩
  mirror := fun c h => (hadm.mirror c).trans (h.trans (hlatch c).symm)

/-- A change of the lanes and the loads alone. -/
theorem countsKept_of_lanes (hcru : t.cru = s.cru) (hpsu : t.psu = s.psu) (hbrs : t.brs = s.brs)
    (huncounted : ∀ c, (t.adm.loads.get c).uncounted ≤ Config.count255 ∨
      (t.adm.loads.get c).uncounted = (s.adm.loads.get c).uncounted)
    (hmirror : ∀ c, (t.adm.loads.get c).alarmMirror = (s.adm.loads.get c).alarmMirror)
    (hplatform : ∀ b, t.adm.uncounted.get b ≤ Config.count255 ∨ t.adm.uncounted.get b = s.adm.uncounted.get b)
    (hlapses : ∀ l ∈ t.adm.lanes, l.lapses ≤ Config.lapseMax ∨ ∃ m ∈ s.adm.lanes, l.lapses = m.lapses) : CountsKept s t where
  still := .inr (by rw [hpsu])
  mismatch := fun c => .inr (by rw [hpsu])
  overspeed := .inr (by rw [hbrs])
  uncounted := huncounted
  platform := hplatform
  lapses := hlapses
  mirror := fun c h => by rw [hmirror, h, hcru]

theorem lapses_kept (hlanes : t.adm.lanes = s.adm.lanes) :
    ∀ l ∈ t.adm.lanes, l.lapses ≤ Config.lapseMax ∨ ∃ m ∈ s.adm.lanes, l.lapses = m.lapses :=
  fun l hl => .inr ⟨l, hlanes ▸ hl, rfl⟩

theorem countsKept_lane (lane : LaneId) (f : LaneOp → LaneOp)
    (hl : ∀ o, (f o).lapses ≤ Config.lapseMax ∨ (f o).lapses = o.lapses) : CountsKept s (onLane lane f s) := by
  refine countsKept_of_lanes rfl rfl rfl (fun _ => .inr rfl) (fun _ => rfl) (fun _ => .inr rfl) fun l hmem => ?_
  obtain ⟨o, ho, rfl⟩ := List.mem_map.mp hmem
  split
  · exact (hl o).imp id fun he => ⟨o, ho, he⟩
  · exact .inr ⟨o, ho, rfl⟩

theorem countsKept_load (c : Car) (f : Load → Load) (hm : ∀ x, (f x).alarmMirror = x.alarmMirror)
    (hu : (f (s.adm.loads.get c)).uncounted ≤ Config.count255 ∨
      (f (s.adm.loads.get c)).uncounted = (s.adm.loads.get c).uncounted) : CountsKept s (onLoad c f s) := by
  refine countsKept_of_lanes rfl rfl rfl (fun x => ?_) (fun x => ?_) (fun _ => .inr rfl) (lapses_kept rfl)
  · by_cases hx : x = c
    · subst hx; simpa [onLoad] using hu
    · right; simp [onLoad, PerCar.get_set_other _ _ hx]
  · by_cases hx : x = c
    · subst hx; simp [onLoad, hm]
    · simp [onLoad, PerCar.get_set_other _ _ hx]

theorem mem_insertLaneOp {o p : LaneOp} {os : List LaneOp} (h : p ∈ insertLaneOp o os) : p = o ∨ p ∈ os := by
  induction os with
  | nil => simpa [insertLaneOp] using h
  | cons a os ih =>
    unfold insertLaneOp at h
    split at h
    · simpa using h
    · split at h <;> simp only [List.mem_cons] at h ⊢ <;> tauto

theorem tripOnRise_mismatch (s : State) :
    (tripOnRise s).psu.mismatch = s.psu.mismatch ∨ (tripOnRise s).psu.mismatch = ⟨0, 0⟩ := by
  unfold tripOnRise
  split <;> simp

theorem raiseCause_mismatch (c : Cause) (d : Detail) (s : State) :
    (raiseCause c d s).psu.mismatch = s.psu.mismatch ∨ (raiseCause c d s).psu.mismatch = ⟨0, 0⟩ := by
  rw [raiseCause_eq]
  split
  · exact .inl rfl
  · split
    · simpa [stageRise_eq] using tripOnRise_mismatch (risen c d s)
    · exact .inl (by simp)

theorem raiseCause_overspeedCount (c : Cause) (d : Detail) (s : State) :
    (raiseCause c d s).brs.overspeedCount = s.brs.overspeedCount := by
  rw [raiseCause_eq]
  split
  · rfl
  · split
    · simp [stageRise_eq, risen, causeTimed, addCause]
    · simp [addCause]

@[simp] theorem completeTrip_mismatch (s : State) : (completeTrip s).psu.mismatch = ⟨0, 0⟩ := by
  simp [completeTrip, zeroMismatch]

theorem endBraking_mismatch (s : State) : (endBraking s).psu.mismatch = ⟨0, 0⟩ := by
  unfold endBraking
  split <;> simp [zeroMismatch]

theorem countsKept_clear (s : State) : CountsKept s (clearStage s) := by
  refine countsKept_of_adm (clearStage_admKept s) (by simp) (by simp) ?_ (.inr ?_)
  · rw [clearStage_eq]
    split
    · exact .inr (endBraking_mismatch _)
    · exact .inl (by simp)
  · rw [clearStage_eq]
    split <;> simp [cleared]

theorem Move.countsKept (m : Move s u) : CountsKept s u := by
  cases m with
  | quiet q =>
    refine ⟨.inr q.stillCount, fun c => .inr (by rw [q.mismatch]), q.overspeed, fun c => .inr (by rw [q.loads]),
      fun b => .inr (by rw [q.uncounted]), lapses_kept q.lanes, fun c h => by rw [q.loads, q.cru, h]⟩
  | raise c d =>
    exact countsKept_of_adm (raiseCause_admKept c d s) (by simp) (by simp) (raiseCause_mismatch c d s)
      (.inl (raiseCause_overspeedCount c d s))
  | clear => exact countsKept_clear s
  | advance new => exact countsKept_of_adm (setTripState_admKept new s) (by simp) (by simp) (by simp) (by simp)
  | start id r dest origin new =>
    refine countsKept_of_adm (by simpa using setTripState_admKept new (beginTrip id r dest origin s)) (by simp) (by simp) ?_
      (by simp)
    exact .inr (by simp [beginTrip, zeroMismatch])
  | abort cause => exact countsKept_of_adm (abortTrip_admKept cause s) (by simp) (by simp) (by simp) (by simp)
  | complete => exact countsKept_of_adm (completeTrip_admKept s) (by simp) (by simp) (by simp) (by simp)
  | poll c p =>
    refine countsKept_of_adm (by simp [AdmKept.refl]) (fun x => ?_) (by simp) (by simp) (by simp)
    cases c <;> cases x <;> rfl
  | stale c =>
    refine countsKept_of_adm (by simp [AdmKept.refl]) (fun x => ?_) (by simp) (by simp) (by simp)
    cases c <;> cases x <;> rfl
  | alarm c v =>
    refine ⟨.inr rfl, fun _ => .inr rfl, .inr rfl, fun x => .inr ?_, fun _ => .inr rfl, lapses_kept rfl, fun x h => ?_⟩
    · cases c <;> cases x <;> rfl
    · cases c <;> cases x <;> first | rfl | exact h
  | stillCount n hn =>
    exact ⟨.inl hn, fun _ => .inr rfl, .inr rfl, fun _ => .inr rfl, fun _ => .inr rfl, lapses_kept rfl, fun _ h => h⟩
  | mismatch c n hn =>
    refine ⟨.inr rfl, fun x => ?_, .inr rfl, fun _ => .inr rfl, fun _ => .inr rfl, lapses_kept rfl, fun _ h => h⟩
    by_cases hx : x = c
    · subst hx; left; simpa using hn
    · right; simp [PerCar.get_set_other _ _ hx]
  | lane id f hid hl => exact countsKept_lane id f hl
  | grant l c =>
    have h := countsKept_lane (s := s) l.id (fun o => { o with lapsed := false }) fun _ => .inr rfl
    exact ⟨h.still, h.mismatch, h.overspeed, h.uncounted, h.platform, h.lapses, h.mirror⟩
  | drop id =>
    exact countsKept_of_lanes rfl rfl rfl (fun _ => .inr rfl) (fun _ => rfl) (fun _ => .inr rfl) (lapses_kept rfl)
  | board l r =>
    have h := countsKept_load (s := s) r.car (fun x => { x with aboard := x.aboard + 1 }) (fun _ => rfl) (.inr rfl)
    exact ⟨h.still, h.mismatch, h.overspeed, h.uncounted, h.platform, h.lapses, h.mirror⟩
  | load c f hm hu => exact countsKept_load c f hm hu
  | waiting b n hn =>
    refine countsKept_of_lanes rfl rfl rfl (fun _ => .inr rfl) (fun _ => rfl) (fun x => ?_) (lapses_kept rfl)
    by_cases hx : x = b
    · subst hx; left; simpa using hn
    · right; simp [PerBerth.get_set_other _ _ hx]
  | putLane l =>
    refine countsKept_of_lanes rfl rfl rfl (fun _ => .inr rfl) (fun _ => rfl) (fun _ => .inr rfl) fun o ho => ?_
    rcases mem_insertLaneOp ho with rfl | ho
    · exact .inl (Nat.zero_le _)
    · exact .inr ⟨o, ho, rfl⟩
  | dropLane id =>
    exact countsKept_of_lanes rfl rfl rfl (fun _ => .inr rfl) (fun _ => rfl) (fun _ => .inr rfl) fun o ho =>
      .inr ⟨o, (List.mem_filter.mp ho).1, rfl⟩
  | feedback b level =>
    refine countsKept_of_adm (by simp [AdmKept.refl]) (by simp) (by simp) (by simp) (.inl ?_)
    obtain ⟨tm, hbrs⟩ := timerAtFeedback_brs b level (s.onBrs fun r => r.setFb level b)
    rw [hbrs]
    cases b <;> rfl
  | _ =>
    apply countsKept_of_adm
    all_goals simp [AdmKept.refl]

/-! ## The incident list (R171, R172) -/

theorem dropOldestAcked_length {l kept : List Incident} (h : dropOldestAcked l = some kept) :
    kept.length + 1 = l.length := by
  induction l generalizing kept with
  | nil => cases h
  | cons i l ih =>
    unfold dropOldestAcked at h
    split at h
    · cases h; rfl
    · obtain ⟨k, hk, rfl⟩ := Option.map_eq_some_iff.mp h
      simpa using ih hk

theorem incidentInv_placeIncident (h : IncidentInv s) (cause : IncidentCause) {kept : List Incident}
    (hk : kept.length < Config.incidentMax) : IncidentInv (placeIncident cause kept s) := by
  obtain ⟨-, hover, -⟩ := h
  refine ⟨?_, by simpa using hover, ?_⟩
  · simpa [placeIncident] using hk
  · simpa [placeIncident] using Nat.mod_lt _ (by decide)

theorem incidentInv_capture (h : IncidentInv s) (cause : IncidentCause) : IncidentInv (capture cause s) := by
  unfold capture
  split
  next hl => exact incidentInv_placeIncident h cause hl
  next hl =>
    split
    next kept hk =>
      have hlen := dropOldestAcked_length hk
      have hmax := h.1
      exact incidentInv_placeIncident h cause (by omega)
    next =>
      obtain ⟨hlen, -, hseq⟩ := h
      exact ⟨by simpa using hlen, by simp [satAdd], by simpa using hseq⟩

theorem onFirst_length (seq : Int) (f : Incident → Incident) (l : List Incident) : (onFirst seq f l).length = l.length := by
  induction l with
  | nil => rfl
  | cons i l ih => unfold onFirst; split <;> simp [ih]

theorem IncidentInv.congr (h : IncidentInv s) (hinc : t.niu.incidents = s.niu.incidents)
    (hover : t.niu.overflow = s.niu.overflow) (hseq : t.niu.seq = s.niu.seq) : IncidentInv t := by
  simpa only [IncidentInv, hinc, hover, hseq] using h

@[simp] theorem tripOnRise_incidents (s : State) :
    (tripOnRise s).niu.incidents = s.niu.incidents ∧ (tripOnRise s).niu.overflow = s.niu.overflow ∧
      (tripOnRise s).niu.seq = s.niu.seq := by
  unfold tripOnRise
  split <;> simp

theorem incidentInv_raiseCause (h : IncidentInv s) (c : Cause) (d : Detail) : IncidentInv (raiseCause c d s) := by
  have hcap : IncidentInv (capture (.cause c) (s.onBrs (addCause c d))) :=
    incidentInv_capture (s := s.onBrs (addCause c d)) h _
  have hadd : IncidentInv (causeAdded c d s) := hcap.congr (by simp [causeAdded]) (by simp [causeAdded]) (by simp [causeAdded])
  rw [raiseCause_eq]
  split
  · exact h
  · split
    · rw [stageRise_eq]
      exact hadd.congr (by simp [risen, causeTimed]) (by simp [risen, causeTimed]) (by simp [risen, causeTimed])
    · exact hadd

theorem Move.incidentInv (h : IncidentInv s) (m : Move s u) : IncidentInv u := by
  cases m with
  | quiet q => exact h.congr q.incidents q.overflow q.seq
  | capture cause => exact incidentInv_capture h cause
  | raise c d => exact incidentInv_raiseCause h c d
  | markIncident seq f =>
    obtain ⟨hlen, hover, hseq⟩ := h
    exact ⟨by simpa [onIncident, onFirst_length] using hlen, hover, hseq⟩
  | _ => apply h.congr <;> simp

/-! ## The selections (R160, R161) -/

/-- A master's continuation point is one of its selected kinds, and none only for an empty selection. -/
def SelectionOk (continuation : Option SnapKind) (selection : List SnapKind) : Prop :=
  match continuation with
  | some k => k ∈ selection
  | none => selection = []

theorem selectionInv_iff : SelectionInv s ↔ ∀ st, SelectionOk (s.lbp.continuation.get st) (s.lbp.selection.get st) := Iff.rfl

theorem selectionOk_head (l : List SnapKind) : SelectionOk l.head? l := by
  cases l with
  | nil => rfl
  | cons k l => exact List.mem_cons_self

theorem SelectionInv.congr (h : SelectionInv s) (hsel : t.lbp.selection = s.lbp.selection)
    (hcont : t.lbp.continuation = s.lbp.continuation) : SelectionInv t := by
  rw [selectionInv_iff, hsel, hcont]
  exact h

theorem selectionInv_reset (h : t.lbp.selection = lbpReset.selection ∧ t.lbp.continuation = lbpReset.continuation) :
    SelectionInv t := by
  rw [selectionInv_iff, h.1, h.2]
  intro st
  cases st <;> simp [lbpReset, SelectionOk, PerStation.all, PerStation.get]

theorem selectionInv_select (h : SelectionInv s) (st : Station) (ks : List (Coded SnapKind)) :
    SelectionInv (takeSnapshotSelect st ks s).state := by
  unfold takeSnapshotSelect
  split
  next l _ =>
    rw [selectionInv_iff] at h ⊢
    intro x
    by_cases hx : x = st
    · subst hx
      simp only [accept_state, State.onLbp_lbp, PerStation.get_set_self]
      exact selectionOk_head _
    · simpa [PerStation.get_set_other _ _ hx] using h x
  next => exact h

theorem kindsFrom_subset (start : Option SnapKind) (l : List SnapKind) {k : SnapKind} (h : k ∈ kindsFrom start l) : k ∈ l := by
  unfold kindsFrom at h
  split at h
  · cases h
  · exact (List.dropWhile_sublist _).subset h

theorem selectionInv_snapshot (h : SelectionInv s) (st : Station) : SelectionInv (takeSnapshot st () s).state := by
  rw [selectionInv_iff] at h ⊢
  intro x
  by_cases hx : x = st
  · subst hx
    simp only [takeSnapshot, accept_state, State.onLbp_lbp, PerStation.get_set_self]
    obtain ⟨hall, -⟩ := fitting_spec s Config.snapshotRoom (kindsFrom (s.lbp.continuation.get x) (s.lbp.selection.get x))
    cases hhead : (fitting s Config.snapshotRoom (kindsFrom (s.lbp.continuation.get x) (s.lbp.selection.get x))).2.head? with
    | none => exact selectionOk_head (s.lbp.selection.get x)
    | some k =>
      refine kindsFrom_subset (s.lbp.continuation.get x) _ (k := k) ?_
      rw [← hall]
      exact List.mem_append_right _ (List.mem_of_mem_head? hhead)
  · simpa [takeSnapshot, PerStation.get_set_other _ _ hx] using h x

/-! ## Acts -/

/-- O56: the counts, the incidents, the selections and the mirrors within their rules. -/
def RecordsInv (s : State) : Prop := CountInv s ∧ IncidentInv s ∧ SelectionInv s ∧ MirrorInv s

theorem Moves.recordsInv (h : RecordsInv s) (m : Moves s u) : RecordsInv u := by
  induction m with
  | refl => exact h
  | tail _ m ih =>
    obtain ⟨hcount, hinc, hsel, hmir⟩ := ih
    have hlbp := m.kept.2.1
    exact ⟨m.countsKept.countInv hcount, m.incidentInv hinc, hsel.congr (by rw [hlbp]) (by rw [hlbp]),
      m.countsKept.mirrorInv hmir⟩

/-- A change that leaves the counts, the incidents and the mirrors, or keeps them within their limits. -/
theorem RecordsInv.kept (h : RecordsInv s) (k : CountsKept s t) (hinc : t.niu.incidents = s.niu.incidents)
    (hover : t.niu.overflow = s.niu.overflow) (hseq : t.niu.seq = s.niu.seq) (hsel : SelectionInv s → SelectionInv t) :
    RecordsInv t := by
  obtain ⟨hcount, hi, hs, hmir⟩ := h
  exact ⟨k.countInv hcount, hi.congr hinc hover hseq, hsel hs, k.mirrorInv hmir⟩

end Sys2Proof.Machine
end

section
/-! O56: every act and every step keeps the counts, the incidents, the selections and the mirrors. -/

namespace Sys2Proof.Machine

variable {s t u : State}

/-- A change that leaves every part the records read. -/
theorem RecordsInv.same (h : RecordsInv s) (hcru : t.cru = s.cru) (hpsu : t.psu = s.psu) (hbrs : t.brs = s.brs)
    (hadm : t.adm = s.adm) (hinc : t.niu.incidents = s.niu.incidents) (hover : t.niu.overflow = s.niu.overflow)
    (hseq : t.niu.seq = s.niu.seq) (hsel : SelectionInv s → SelectionInv t) : RecordsInv t :=
  h.kept (countsKept_of_adm (hadm ▸ .refl _) (by simp [hcru]) (by rw [hpsu]) (.inl (by rw [hpsu])) (.inl (by rw [hbrs])))
    hinc hover hseq hsel

theorem recordsInv_changeLine (h : RecordsInv s) (new : LineState) (slots : Bool) : RecordsInv (changeLine new slots s) := by
  refine h.kept (countsKept_of_lanes (by simp) (by simp) (by simp) (by simp) (by simp) (by simp) fun l hl => ?_) (by simp)
    (by simp) (by simp) fun hs => hs.congr (by simp) (by simp)
  rw [changeLine_adm] at hl
  obtain ⟨o, ho, rfl⟩ := List.mem_map.mp hl
  exact .inr ⟨o, ho, by split <;> rfl⟩

theorem recordsInv_setTripState (h : RecordsInv s) (new : TripState) : RecordsInv (setTripState new s) :=
  h.kept (countsKept_of_adm (setTripState_admKept new s) (by simp) (by simp) (.inl (by simp)) (.inl (by simp))) (by simp)
    (by simp) (by simp) fun hs => hs.congr (by simp) (by simp)

theorem recordsInv_newDwell (h : RecordsInv s) (k : Stop) : RecordsInv (newDwell k s) :=
  h.kept (countsKept_of_adm (newDwell_admKept k s) (by simp) (by simp) (.inl (by simp)) (.inl (by simp))) (by simp)
    (by simp) (by simp) fun hs => hs.congr (by simp) (by simp)

theorem recordsInv_enterInspection (h : RecordsInv s) : RecordsInv (enterInspection s) := by
  have hline := recordsInv_changeLine h .inspection true
  unfold enterInspection
  dsimp only
  split
  · exact recordsInv_newDwell hline _
  · exact recordsInv_setTripState hline _

/-- The blocks after a reset, with an incident list that was in order (R42, R81, R141, R163, R176). -/
theorem recordsInv_reset (hinc : IncidentInv t) (hcru : t.cru = cruReset s.now) (hpsu : t.psu = psuReset s.now s.params.ts)
    (hover : t.brs.overspeedCount = 0) {lanes : List Lane} (hadm : t.adm = admReset lanes)
    (hlbp : t.lbp = lbpReset) : RecordsInv t := by
  refine ⟨⟨?_, fun c => ?_, by omega, fun c => ?_, fun b => ?_, fun l hl => ?_⟩, hinc,
    selectionInv_reset (by simp [hlbp]), ?_⟩
  · simp [hpsu, psuReset]
  · rw [hpsu]; cases c <;> exact Nat.zero_le _
  · rw [hadm]; cases c <;> exact Nat.zero_le _
  · rw [hadm]; cases b <;> exact Nat.zero_le _
  · rw [hadm] at hl
    obtain ⟨m, -, rfl⟩ := List.mem_map.mp hl
    exact Nat.zero_le _
  · rw [MirrorInv, hadm, hcru]
    exact ⟨rfl, rfl⟩

theorem Act.recordsInv {c : Instr} (h : RecordsInv s) (a : Act s c u) : RecordsInv u := by
  cases a with
  | moves _ m => exact m.recordsInv h
  | openLine => exact recordsInv_newDwell (recordsInv_changeLine h .inService false) _
  | closeLine | leaveInspection => exact recordsInv_setTripState (recordsInv_changeLine h .closed true) _
  | enterInspection => exact recordsInv_enterInspection h
  | evacuate | maintain | readNotice | enableNotices =>
    refine h.same ?_ ?_ ?_ ?_ ?_ ?_ ?_ fun hs => hs.congr ?_ ?_ <;> simp
  | select =>
    rename_i ks
    refine h.same ?_ ?_ ?_ ?_ ?_ ?_ ?_ fun hs => selectionInv_select hs _ ks
    all_goals (unfold takeSnapshotSelect; split <;> simp)
  | snapshot => refine h.same ?_ ?_ ?_ ?_ ?_ ?_ ?_ fun hs => selectionInv_snapshot hs _ <;> simp [takeSnapshot]
  | powerOn =>
    exact recordsInv_reset (s := { s with cfg := cfgPowerOn })
      ⟨Nat.zero_le _, Nat.zero_le _, (by decide : 0 < Config.wrap16)⟩ rfl rfl rfl (lanes := []) rfl rfl
  | pinReset => exact recordsInv_reset (s := { s with cfg := cfgPowerOn }) h.2.1 rfl rfl rfl (lanes := []) rfl rfl
  | resetPart => exact recordsInv_reset (s := s) h.2.1 rfl rfl rfl (lanes := s.cfg.lanes) rfl rfl
  | resetRefused => exact h

theorem Ended.recordsInv (h : RecordsInv u) (e : Ended s u t) : RecordsInv t := by
  obtain ⟨-, hcru, hpsu, -, hbrs, -, -, hadm, -, hsel, hcont, hinc, hover, hseq, -⟩ := e.same
  exact h.same hcru hpsu hbrs hadm hinc hover hseq fun hs => hs.congr hsel hcont

/-- Settles O56: every act is a chain of moves, a change of the line state, of a selection or a reset. -/
theorem everyStepKeepsRecords : Obligations.EveryStepKeepsRecords := by
  refine step_keeps (P := RecordsInv) (Q := RecordsInv) (fun s h => ?_) (fun s q h => ?_)
    (fun s c u h a => a.recordsInv h) fun s u t h e => e.recordsInv h
  · rw [tick_eq]
    exact h.same rfl rfl rfl rfl rfl rfl rfl id
  · exact h.same rfl rfl rfl rfl rfl rfl rfl id

end Sys2Proof.Machine
end

section
/-! What an operation hands to the masters (R166, R167): the kinds it may hand, and what it leaves of each record. -/

namespace Sys2Proof.Machine

variable {s t u : State} {K L : List NoticeKind}

/-! ## Records and masters -/

/-- A record to which notices of the kinds `K` alone have been handed. -/
structure RecordTold (K : List NoticeKind) (r r' : NoticeRecord) : Prop where
  latched : r'.latched = r.latched
  enabled : r'.enabled = r.enabled
  nodup   : (r.pending.map (·.kind)).Nodup → (r'.pending.map (·.kind)).Nodup
  stays   : ∀ k, isPending r k = true → isPending r' k = true
  others  : ∀ n, n.kind ∉ K → (n ∈ r'.pending ↔ n ∈ r.pending)

/-- Notices of the kinds `K` alone have been handed to the masters. -/
def Told (K : List NoticeKind) (s t : State) : Prop := ∀ st, RecordTold K (s.niu.notices.get st) (t.niu.notices.get st)

theorem isPending_iff {r : NoticeRecord} {k : NoticeKind} : isPending r k = true ↔ k ∈ r.pending.map (·.kind) := by
  simp [isPending]

theorem RecordTold.refl (r : NoticeRecord) : RecordTold K r r := ⟨rfl, rfl, id, fun _ h => h, fun _ _ => Iff.rfl⟩

theorem RecordTold.trans {a b c : NoticeRecord} (h : RecordTold K a b) (h' : RecordTold K b c) : RecordTold K a c where
  latched := h'.latched.trans h.latched
  enabled := h'.enabled.trans h.enabled
  nodup := h'.nodup ∘ h.nodup
  stays := fun k hk => h'.stays k (h.stays k hk)
  others := fun n hn => (h'.others n hn).trans (h.others n hn)

/-- A notice joins: a kind already pending is marked repeated, another comes last (R167). -/
theorem recordTold_joinPending {k : NoticeKind} (hk : k ∈ K) (d : NoticeDetail) (r : NoticeRecord) :
    RecordTold K r (joinPending k d r) := by
  have hstays (j : NoticeKind) (hj : isPending r j = true) : isPending (joinPending k d r) j = true := by
    rw [isPending_joinPending, hj, Bool.true_or]
  have hkind (n : Pending) : (if n.kind = k then { n with repeated := true } else n).kind = n.kind := by split <;> rfl
  by_cases hp : isPending r k = true
  · have hjoin : joinPending k d r =
        { r with pending := r.pending.map fun n => if n.kind = k then { n with repeated := true } else n } := by
      rw [joinPending, if_pos hp]
    refine ⟨by rw [hjoin], by rw [hjoin], fun hn => ?_, hstays, fun n hn => ?_⟩
    · rw [hjoin]
      simpa only [List.map_map, Function.comp_def, hkind] using hn
    · rw [hjoin]
      have hne : n.kind ≠ k := fun he => hn (he ▸ hk)
      simp only [List.mem_map]
      constructor
      · rintro ⟨m, hm, rfl⟩
        rw [hkind] at hne
        rwa [if_neg hne]
      · exact fun hm => ⟨n, hm, if_neg hne⟩
  · have hjoin : joinPending k d r = { r with pending := r.pending ++ [⟨k, d, false⟩] } := by
      rw [joinPending, if_neg hp]
    refine ⟨by rw [hjoin], by rw [hjoin], fun hn => ?_, hstays, fun n hn => ?_⟩
    · rw [hjoin, List.map_append, List.nodup_append]
      refine ⟨hn, by simp, fun a ha b hb => ?_⟩
      simp only [List.map_cons, List.map_nil, List.mem_singleton] at hb
      rintro rfl
      exact hp (isPending_iff.mpr (hb ▸ ha))
    · rw [hjoin]
      have hne : n ≠ ⟨k, d, false⟩ := fun he => hn (by simpa [he] using hk)
      simp [hne]

namespace Told

theorem refl (s : State) : Told K s s := fun _ => .refl _

theorem of_same (h : t.niu.notices = s.niu.notices) : Told K s t := fun st => by rw [h]; exact .refl _

theorem trans (h : Told K s t) (h' : Told K t u) : Told K s u := fun st => (h st).trans (h' st)

theorem mono (h : Told K s t) (hKL : K ⊆ L) : Told L s t := fun st =>
  ⟨(h st).latched, (h st).enabled, (h st).nodup, (h st).stays, fun n hn => (h st).others n fun hk => hn (hKL hk)⟩

theorem same (h : Told K s t) (he : u.niu.notices = t.niu.notices) : Told K s u := h.trans (.of_same he)

theorem ite {p : Prop} [Decidable p] (ht : p → Told K s t) (hu : ¬ p → Told K s u) : Told K s (if p then t else u) := by
  split
  next hp => exact ht hp
  next hp => exact hu hp

theorem handTo {k : NoticeKind} (h : Told K s t) (hk : k ∈ K) (d : NoticeDetail) (st : Station) :
    Told K s (handTo k d st t) := by
  refine h.trans fun x => ?_
  by_cases hx : x = st
  · subst hx
    simpa [Machine.handTo] using recordTold_joinPending hk d _
  · simpa [Machine.handTo, PerStation.get_set_other _ _ hx] using RecordTold.refl _

theorem hand {k : NoticeKind} (h : Told K s t) (hk : k ∈ K) (d : NoticeDetail) (sts : List Station) :
    Told K s (hand k d sts t) := by
  induction sts generalizing t with
  | nil => exact h
  | cons st sts ih => exact ih (h.handTo hk d st)

end Told

/-- Handed notices leave the records in order (R165). -/
theorem NoticeInv.told (h : NoticeInv s) (ht : Told K s t) : NoticeInv t := by
  intro st
  obtain ⟨hnodup, hlatched⟩ := h st
  refine ⟨(ht st).nodup hnodup, fun k hk => ?_⟩
  rw [(ht st).latched] at hk
  exact isPending_iff.mp ((ht st).stays k (isPending_iff.mpr (hlatched k hk)))

/-! ## The operations -/

/-- The notices of the windows (R124). -/
def windowKinds : List NoticeKind := [.admissionOpen, .admissionClosed]

theorem told_noteGate (before after : State) (g : Gate) (s : State) : Told windowKinds s (noteGate before after g s) := by
  have hopen : Told windowKinds s (if (newlyOpen before after g).isEmpty then s
      else handTo .admissionOpen (.platforms (newlyOpen before after g)) (gateStation g) s) :=
    .ite (fun _ => .refl s) (fun _ => (Told.refl s).handTo (by simp [windowKinds]) _ _)
  exact .ite (fun _ => hopen) (fun _ => hopen.handTo (by simp [windowKinds]) _ _)

theorem told_noteWindows (before after : State) : Told windowKinds after (noteWindows before after) :=
  ((told_noteGate before after .bot after).trans (told_noteGate before after .mid _)).trans
    (told_noteGate before after .top _)

theorem told_setReleaseMark (v : Bool) (s : State) : Told windowKinds s (setReleaseMark v s) := by
  have hset : Told windowKinds s (s.onAdm fun a => { a with releaseMark := v }) := .of_same (by simp)
  exact hset.trans (told_noteWindows s _)

theorem told_setTripState (new : TripState) (s : State) : Told windowKinds s (setTripState new s) := by
  unfold setTripState
  exact (Told.of_same (by simp)).trans (told_noteWindows s _)

theorem told_newDwell (k : Stop) (s : State) : Told windowKinds s (newDwell k s) := by
  unfold newDwell
  exact ((told_setTripState (.dwell k) s).same (by simp [driNewDwell])).trans (told_setReleaseMark _ _)

theorem told_resumedDwell (k : Stop) (s : State) : Told windowKinds s (resumedDwell k s) := by
  unfold resumedDwell
  exact ((told_setTripState (.dwell k) s).same (by simp)).trans (told_setReleaseMark _ _)

/-- What a capture tells (R171, R172). -/
def captureKinds : List NoticeKind := [.incidentCaptured, .incidentOverflow]

theorem told_capture (cause : IncidentCause) (s : State) : Told captureKinds s (capture cause s) := by
  have hplace (kept : List Incident) : Told captureKinds s (placeIncident cause kept s) :=
    Told.hand (.of_same (by simp)) (by simp [captureKinds]) _ _
  unfold capture
  split
  · exact hplace _
  · split
    · exact hplace _
    · exact Told.hand (.of_same (by simp)) (by simp [captureKinds]) _ _

theorem told_evaluateMode (s : State) : Told [.modeChanged] s (evaluateMode s) :=
  .ite (fun _ => .refl s) (fun _ => Told.hand (.of_same (by simp)) (by simp) _ _)

theorem told_handOwner {k : NoticeKind} (h : Told K s t) (hk : k ∈ K) (d : NoticeDetail) : Told K s (handOwner k d t) :=
  h.hand hk d _

theorem told_beginTrip (id : SlotId) (r : TripReq) (dest : Stop) (origin : Option Stop) (s : State) :
    Told [.tripStarted] s (beginTrip id r dest origin s) := by
  have hset : Told [.tripStarted] s ((setSlot id (.inFlight r) s).onTrip fun _ => startRecord s id r dest origin) :=
    .of_same (by simp)
  exact (told_handOwner (k := .tripStarted) hset (by simp) _).same rfl

theorem told_startTrip (id : SlotId) (r : TripReq) (dest : Stop) (origin : Option Stop) (new : TripState) (s : State) :
    Told (.tripStarted :: windowKinds) s (setTripState new (beginTrip id r dest origin s)) :=
  ((told_beginTrip id r dest origin s).mono (by simp)).trans ((told_setTripState new _).mono (by simp))

theorem told_dropPending (id : SlotId) (r : TripReq) (why : TriggerRefusal) (s : State) :
    Told [.triggerRefused] s (dropPending id r why s) :=
  Told.handTo (.of_same (by simp)) (by simp) _ _

theorem told_stopPendings (s : State) : Told [.triggerRefused] s (stopPendings s) := by
  have hstop (id : SlotId) (s : State) : Told [.triggerRefused] s (stopPending id s) := by
    unfold stopPending
    split
    · exact told_dropPending _ _ _ s
    · exact .refl s
  exact (hstop .slot0 s).trans (hstop .slot1 _)

theorem told_pendingsUnderStage (s : State) : Told [.triggerRefused] s (pendingsUnderStage s) := by
  have hrefuse (id : SlotId) (s : State) : Told [.triggerRefused] s (refusePending id s) := by
    unfold refusePending
    split
    · refine .ite (fun _ => ?_) (fun _ => .refl s)
      split
      · exact told_dropPending _ _ _ s
      · exact .refl s
    · exact .refl s
  exact .ite (fun _ => told_stopPendings s) (fun _ => (hrefuse .slot0 s).trans (hrefuse .slot1 _))

/-- The end of a trip tells its owner (R102, R103, R104). -/
theorem told_tripEnd {k : NoticeKind} (h : Told windowKinds s t) (cancelled : Bool) (d : NoticeDetail) :
    Told (k :: windowKinds) s (zeroMismatch (handOwner k d (freeSlots cancelled t))) := by
  have hfree : Told (k :: windowKinds) s (freeSlots cancelled t) := (h.mono (by simp)).same (by simp)
  exact (told_handOwner (k := k) hfree (by simp) d).same (by simp)

theorem told_abortTrip (cause : AbortCause) (s : State) : Told (.tripAborted :: windowKinds) s (abortTrip cause s) := by
  have htrip (f : TripRecord → TripRecord) : Told windowKinds s (s.onTrip f) := .of_same (by simp)
  unfold abortTrip
  dsimp only
  split
  · exact told_tripEnd ((htrip _).trans (told_resumedDwell _ _)) _ _
  · exact told_tripEnd ((htrip _).trans (told_setTripState _ _)) _ _

theorem told_completeTrip (s : State) : Told (.tripDone :: windowKinds) s (completeTrip s) := by
  have htrip (f : TripRecord → TripRecord) : Told windowKinds s (s.onTrip f) := .of_same (by simp)
  exact told_tripEnd ((htrip _).trans (told_newDwell _ _)) _ _

/-- What a rise of the stage may tell of the trip (R103, R104). -/
def riseKinds : List NoticeKind := .triggerRefused :: .tripAborted :: windowKinds

theorem told_tripOnRise (s : State) : Told riseKinds s (tripOnRise s) := by
  have habort : Told riseKinds s (pendingsUnderStage (abortTrip .brake s)) :=
    ((told_abortTrip .brake s).mono (by simp [riseKinds])).trans ((told_pendingsUnderStage _).mono (by simp [riseKinds]))
  have hbraking : Told riseKinds s (setTripState .braking s) :=
    (told_setTripState .braking s).mono (by simp [riseKinds, windowKinds])
  unfold tripOnRise
  split
  next => exact habort
  next => exact habort
  next => exact habort
  next => exact hbraking
  next => exact hbraking
  next => exact hbraking
  next => exact .refl s

/-- What a new cause tells of itself (R62). -/
def brakeKinds : List NoticeKind := [.serviceBrake, .emergencyBrake, .fault]

theorem told_noticeOfCause (rises : Bool) (c : Cause) (d : Detail) (s : State) :
    Told brakeKinds s (noticeOfCause rises c d s) := by
  refine .ite (fun _ => (Told.refl s).hand ?_ _ _) (fun _ => (Told.refl s).hand (by simp [brakeKinds]) _ _)
  split <;> simp [brakeKinds]

/-- What a new cause tells before the trip reacts (R62, R171). -/
def causeKinds : List NoticeKind := .serviceBrake :: .emergencyBrake :: .fault :: captureKinds

theorem told_causeAdded (c : Cause) (d : Detail) (s : State) : Told causeKinds s (causeAdded c d s) := by
  have hadd : Told captureKinds s (s.onBrs (addCause c d)) := .of_same (by simp)
  exact ((hadd.trans (told_capture (.cause c) _)).mono (by simp [causeKinds, captureKinds])).trans
    ((told_noticeOfCause _ c d _).mono (by simp [brakeKinds, causeKinds]))

theorem told_risen (c : Cause) (d : Detail) (s : State) : Told causeKinds s (risen c d s) :=
  (told_causeAdded c d s).same (by simp [risen, causeTimed])

theorem told_raiseCause (c : Cause) (d : Detail) (s : State) : Told (causeKinds ++ riseKinds) s (raiseCause c d s) := by
  rw [raiseCause_eq]
  refine .ite (fun _ => .refl s) (fun _ => .ite (fun _ => ?_) (fun _ => (told_causeAdded c d s).mono (by simp)))
  rw [stageRise_eq]
  exact ((told_risen c d s).mono (by simp)).trans ((told_tripOnRise _).mono (by simp))

/-- What the end of a brake stop tells (R104). -/
def brakeStopKinds : List NoticeKind := .triggerRefused :: .tripStopped :: windowKinds

theorem told_endBraking (s : State) : Told brakeStopKinds s (endBraking s) := by
  have htrip (f : TripRecord → TripRecord) : Told windowKinds s (s.onTrip f) := .of_same (by simp)
  unfold endBraking
  dsimp only
  split
  · exact (told_tripEnd ((htrip _).trans (told_newDwell _ _)) _ _).mono (by simp [brakeStopKinds])
  · exact ((told_tripEnd ((htrip _).trans (told_setTripState _ _)) _ _).mono (by simp [brakeStopKinds])).trans
      ((told_stopPendings _).mono (by simp [brakeStopKinds]))

theorem told_clearStage (s : State) : Told brakeStopKinds s (clearStage s) := by
  have hcleared : Told brakeStopKinds s (cleared s) := .of_same (by simp [cleared])
  rw [clearStage_eq]
  exact .ite (fun _ => hcleared.trans (told_endBraking _)) (fun _ => hcleared)

/-- What a change of the line state tells (R143). -/
def lineKinds : List NoticeKind := .lineState :: .modeChanged :: windowKinds

theorem told_changeLine (new : LineState) (slots : Bool) (s : State) : Told lineKinds s (changeLine new slots s) := by
  have hset : Told windowKinds s (s.onLsu fun l => { l with line := new }) := .of_same (by simp)
  have hline : Told lineKinds s (evaluateMode (noteWindows s (s.onLsu fun l => { l with line := new }))) :=
    ((hset.trans (told_noteWindows s _)).mono (by simp [lineKinds])).trans ((told_evaluateMode _).mono (by simp [lineKinds]))
  have hrest (f : State → State) (hf : ∀ u, (f u).niu = u.niu) :
      Told lineKinds s (emptyReservations (withdrawReleases (f (evaluateMode
        (noteWindows s (s.onLsu fun l => { l with line := new })))))) := hline.same (by simp [hf])
  unfold changeLine
  cases slots with
  | false => exact (hrest id fun _ => rfl).hand (by simp [lineKinds]) _ _
  | true => exact (hrest emptySlots fun _ => by simp).hand (by simp [lineKinds]) _ _

end Sys2Proof.Machine
end

section
/-! O7: the notice records stay in order, and latching leaves none eligible unlatched. -/

namespace Sys2Proof.Machine

variable {s t u : State}

theorem NoticeInv.same (h : NoticeInv s) (he : t.niu.notices = s.niu.notices) : NoticeInv t :=
  h.told (K := []) (.of_same he)

theorem Move.noticeInv (h : NoticeInv s) (m : Move s u) : NoticeInv u := by
  cases m with
  | quiet q => exact h.same q.notices
  | hand k d sts => exact h.told ((Told.refl s).hand (List.mem_singleton.mpr rfl) d sts)
  | capture cause => exact h.told (told_capture cause s)
  | raise c d => exact h.told (told_raiseCause c d s)
  | clear => exact h.told (told_clearStage s)
  | advance new => exact h.told (told_setTripState new s)
  | start id r dest origin new => exact h.told (told_startTrip id r dest origin new s)
  | abort cause => exact h.told (told_abortTrip cause s)
  | complete => exact h.told (told_completeTrip s)
  | _ => apply h.same; simp [onIncident, setLatch]

theorem Moves.noticeInv (h : NoticeInv s) (m : Moves s u) : NoticeInv u := by
  induction m with
  | refl => exact h
  | tail _ m ih => exact m.noticeInv ih

/-- A change of one master's record that keeps it in order. -/
theorem noticeInv_onNotices (h : NoticeInv s) (st : Station) (f : NoticeRecord → NoticeRecord)
    (hnodup : ((s.niu.notices.get st).pending.map (·.kind)).Nodup → ((f (s.niu.notices.get st)).pending.map (·.kind)).Nodup)
    (hlatched : ∀ k, (f (s.niu.notices.get st)).latched = some k → (s.niu.notices.get st).latched = some k ∧
      (f (s.niu.notices.get st)).pending = (s.niu.notices.get st).pending) : NoticeInv (onNotices st f s) := by
  intro x
  by_cases hx : x = st
  · subst hx
    simp only [onNotices, State.onNiu_niu, PerStation.get_set_self]
    refine ⟨hnodup (h x).1, fun k hk => ?_⟩
    obtain ⟨hl, hp⟩ := hlatched k hk
    exact hp ▸ (h x).2 k hl
  · simpa [onNotices, PerStation.get_set_other _ _ hx] using h x

theorem noticeInv_readNotice (h : NoticeInv s) (st : Station) : NoticeInv (onNotices st readNotice s) := by
  refine noticeInv_onNotices h st readNotice (fun hn => ?_) fun k hk => ?_
  · unfold readNotice
    split
    · exact hn.sublist (List.filter_sublist.map _)
    · exact hn
  · unfold readNotice at hk ⊢
    split at hk
    · cases hk
    next hl => simp [hl] at hk

theorem noticeInv_reset (h : t.niu.notices = noticesReset) : NoticeInv t := by
  intro st
  have hrec : t.niu.notices.get st = { pending := [], enabled := [], latched := none } := by rw [h]; cases st <;> rfl
  simp [hrec]

theorem noticeInv_openAt (h : NoticeInv s) (k : Stop) : NoticeInv (openAt k s) :=
  (h.told (told_changeLine .inService false s)).told (told_newDwell k _)

theorem noticeInv_closeLine (h : NoticeInv s) : NoticeInv (closeLine s) :=
  (h.told (told_changeLine .closed true s)).told (told_setTripState .none _)

theorem noticeInv_enterInspection (h : NoticeInv s) : NoticeInv (enterInspection s) := by
  have hline := h.told (told_changeLine .inspection true s)
  unfold enterInspection
  dsimp only
  split
  · exact hline.told (told_newDwell _ _)
  · exact hline.told (told_setTripState .stoppedOnLine _)

theorem Act.noticeInv {c : Instr} (h : NoticeInv s) (a : Act s c u) : NoticeInv u := by
  cases a with
  | moves _ m => exact m.noticeInv h
  | openLine => exact noticeInv_openAt h _
  | closeLine | leaveInspection => exact noticeInv_closeLine h
  | enterInspection => exact noticeInv_enterInspection h
  | evacuate | maintain => exact h.same (by simp)
  | select => exact h.same (by unfold takeSnapshotSelect; split <;> simp)
  | snapshot => exact h.same (by simp [takeSnapshot])
  | readNotice => exact noticeInv_readNotice h _
  | enableNotices => exact noticeInv_onNotices h _ _ id fun k hk => ⟨hk, rfl⟩
  | powerOn | pinReset | resetPart => exact noticeInv_reset rfl
  | resetRefused => exact h

/-- Latching leaves the records in order, with none eligible unlatched (R165, R168). -/
theorem latchInv_of_latched (h : NoticeInv u) (ht : t.niu.notices = u.niu.notices.map latch) : LatchInv t := by
  have hget (st : Station) : t.niu.notices.get st = latch (u.niu.notices.get st) := by rw [ht, PerStation.get_map]
  refine ⟨fun st => ?_, fun st ha => ?_⟩
  · obtain ⟨hnodup, hlatched⟩ := h st
    rw [hget, latch_pending, latch_latched]
    refine ⟨hnodup, fun k hk => ?_⟩
    rcases hl : (u.niu.notices.get st).latched with _ | j
    · rcases he : eligible (u.niu.notices.get st) with _ | ⟨a, ks⟩
      · simp [hl, he] at hk
      · have hk : ks.foldl better a = k := by simpa [hl, he] using hk
        have hmem : k ∈ eligible (u.niu.notices.get st) := hk ▸ he ▸ (foldl_better ks a).1
        exact (List.mem_filter.mp hmem).1
    · exact hlatched k (by simpa [hl] using hk)
  · have hnone : (latch (u.niu.notices.get st)).latched = none := by simpa [attention, hget] using ha
    rw [latch_latched] at hnone
    have hel : eligible (latch (u.niu.notices.get st)) = eligible (u.niu.notices.get st) := by
      simp only [eligible, latch_pending, latch_enabled]
    rw [hget, hel]
    by_contra hne
    obtain ⟨a, ks, he⟩ := List.exists_cons_of_ne_nil hne
    simp [he] at hnone

theorem latchInv_congr (h : LatchInv s) (ht : t.niu.notices = s.niu.notices) : LatchInv t := by
  obtain ⟨hn, hl⟩ := h
  refine ⟨hn.same ht, fun st => ?_⟩
  simp only [attention, ht]
  exact hl st

theorem Ended.latchInv (hs : LatchInv s) (h : NoticeInv u) (e : Ended s u t) : LatchInv t := by
  cases e with
  | silent reply hniu => exact latchInv_congr hs (by rw [hniu])
  | reset o hniu =>
    refine ⟨noticeInv_reset hniu, fun st _ => ?_⟩
    have hrec : u.niu.notices.get st = { pending := [], enabled := [], latched := none } := by rw [hniu]; cases st <;> rfl
    show eligible (u.niu.notices.get st) = []
    rw [hrec]
    rfl
  | finished | taken | replied => exact latchInv_of_latched h (by simp [finish, markChanged, latchAll])

/-- Settles O7: what an act hands keeps the records in order, and every command ends with latching. -/
theorem everyStepKeepsLatching : Obligations.EveryStepKeepsLatching := by
  intro s t h hstep
  unfold step at hstep
  split at hstep
  next =>
    cases hstep
    exact latchInv_congr h (by rw [tick_eq])
  next c rest _ =>
    obtain ⟨u, ha, he⟩ := exec_acts hstep
    have hq : LatchInv { s with pending := rest } := latchInv_congr h rfl
    exact he.latchInv hq (ha.noticeInv hq.1)

end Sys2Proof.Machine
end

section
/-! O15, O16, O17, O18: the writes of the configuration store, each one answer of `cfgWrite` on a CLOSED line. -/

namespace Sys2Proof.Machine

variable {s t u : State}

/-! ## The answers of a write -/

theorem cfgWrite_closed {go : State → Answer} (h : s.lsu.line = .closed) : cfgWrite go s = go s := if_pos h

/-- A write that is accepted: its reply, the store uncommitted, and every other part as the write leaves it (R5, R17). -/
theorem write_does {α : Type} (r : Request) {f : α} {body : α → State → Answer} (h : Heard r .con s) {clamped : Bool}
    {d : CfgData} (ha : body f s = cfgAccept clamped d u) :
    ∃ t, request r .con (.fields f) body s = .next t ∧
      Replied r .con (if clamped then .clamped else .ok) (.cfg d false) t ∧
      t.cfg = { u.cfg with committed := false } ∧ t.psu = u.psu ∧ t.adm = u.adm ∧ t.cru = u.cru ∧ t.brs = u.brs ∧
      ∀ ps, KeepsBut ps s (uncommit u) → KeepsBut ps s t := by
  refine ⟨_, request_fields body h f, ?_, ?_, ?_, ?_, ?_, ?_, fun ps => ?_⟩
  · rw [replied_replyTo_iff, ha]
    exact ⟨rfl, rfl⟩
  all_goals simp only [replyTo_frame, keepsBut_replyTo, ha, cfgAccept_state]
  · rfl
  · rfl
  · rfl
  · rfl
  · rfl
  · exact id

/-- The same with its frame. -/
theorem write_accepted {α : Type} (r : Request) {f : α} {body : α → State → Answer} {ps : List StatePart}
    (h : Heard r .con s) {clamped : Bool} {d : CfgData} (ha : body f s = cfgAccept clamped d u)
    (hk : KeepsBut ps s (uncommit u)) :
    ∃ t, request r .con (.fields f) body s = .next t ∧
      Replied r .con (if clamped then .clamped else .ok) (.cfg d false) t ∧
      t.cfg = { u.cfg with committed := false } ∧ t.psu = u.psu ∧ t.adm = u.adm ∧ KeepsBut ps s t := by
  obtain ⟨t, ht, hr, hcfg, hpsu, hadm, -, -, hkeep⟩ := write_does r h ha
  exact ⟨t, ht, hr, hcfg, hpsu, hadm, hkeep ps hk⟩

/-- A write that is refused (R5). -/
theorem write_denied {α : Type} {r : Request} {st : Station} {f : α} {body : α → State → Answer} {why : Reason}
    (h : Heard r st s) (ha : body f s = cfgDeny why s) :
    ∃ t, request r st (.fields f) body s = .next t ∧ Replied r st (.refused why) (.cfg .nothing s.cfg.committed) t ∧
      KeepsBut [] s t :=
  request_refused body h f ha

/-- The status says whether a value was stored other than as given. -/
theorem status_of_clamped (p : Prop) [Decidable p] :
    (if decide (¬ p) = true then Status.clamped else .ok) = if p then .ok else .clamped := by
  by_cases h : p <;> simp [h]

theorem keepsBut_cfg (f : Cfg → Cfg) : KeepsBut [.cfg] s (uncommit (s.onCfg f)) := by
  simp [keepsBut_iff]

/-! ## O15 -/

theorem exec_slotMode {v : Int} {m : SlotMode} (hreset : s.pins.resetLow = false) (hline : s.lsu.line = .closed)
    (hv : fromCode allSlotModes v = some m) :
    ∃ t, exec (.setParameter .con (.fields (.listed .slotMode, v))) s = .next t ∧
      Replied .setParameter .con .ok (.cfg (.value (.slotMode m)) false) t ∧
      t.cfg = { s.cfg with params := { s.cfg.params with slotMode := m }, committed := false } ∧ KeepsBut [.cfg] s t := by
  have ha : writeParameter (.listed .slotMode, v) s = cfgAccept false (.value (.slotMode m))
      (s.onCfg fun c => { c with params := { c.params with slotMode := m } }) := by
    simp [writeParameter, cfgWrite_closed hline, writeParam, hv]
  obtain ⟨t, ht, hr, hcfg, -, -, hk⟩ := write_accepted .setParameter ⟨hreset, rfl⟩ ha (keepsBut_cfg _)
  exact ⟨t, ht, hr, hcfg, hk⟩

theorem exec_walkwaySide {v : Int} {d : Side} (hreset : s.pins.resetLow = false) (hline : s.lsu.line = .closed)
    (hv : fromCode allSides v = some d) :
    ∃ t, exec (.setParameter .con (.fields (.listed .walkwaySide, v))) s = .next t ∧
      Replied .setParameter .con .ok (.cfg (.value (.side d)) false) t ∧
      t.cfg = { s.cfg with params := { s.cfg.params with walkwaySide := d }, committed := false } ∧ KeepsBut [.cfg] s t := by
  have ha : writeParameter (.listed .walkwaySide, v) s = cfgAccept false (.value (.side d))
      (s.onCfg fun c => { c with params := { c.params with walkwaySide := d } }) := by
    simp [writeParameter, cfgWrite_closed hline, writeParam, hv]
  obtain ⟨t, ht, hr, hcfg, -, -, hk⟩ := write_accepted .setParameter ⟨hreset, rfl⟩ ha (keepsBut_cfg _)
  exact ⟨t, ht, hr, hcfg, hk⟩

theorem exec_platformSide (pf : Platform) (d : Side) (hreset : s.pins.resetLow = false) (hline : s.lsu.line = .closed) :
    ∃ t, exec (.platformSide .con (.fields (.listed pf, .listed d))) s = .next t ∧
      Replied .platformSide .con .ok (.cfg (.value (.side d)) false) t ∧
      t.cfg.doorSide.get pf = d ∧ (∀ q, q ≠ pf → t.cfg.doorSide.get q = s.cfg.doorSide.get q) ∧
      t.cfg = { s.cfg with doorSide := t.cfg.doorSide, committed := false } ∧ KeepsBut [.cfg] s t := by
  have ha : takePlatformSide (.listed pf, .listed d) s = cfgAccept false (.value (.side d))
      (s.onCfg fun c => { c with doorSide := c.doorSide.set pf d }) := by
    simp [takePlatformSide, cfgWrite_closed hline]
  obtain ⟨t, ht, hr, hcfg, -, -, hk⟩ := write_accepted .platformSide ⟨hreset, rfl⟩ ha (keepsBut_cfg _)
  refine ⟨t, ht, hr, ?_, fun q hq => ?_, ?_, hk⟩ <;> rw [hcfg]
  · simp
  · simp [PerPlatform.get_set_other _ _ hq]
  · simp

theorem takePlatformSide_unlisted {pf : Coded Platform} {d : Coded Side} (hline : s.lsu.line = .closed)
    (h : listed? pf = none ∨ listed? d = none) : takePlatformSide (pf, d) s = cfgDeny .badValue s := by
  rw [takePlatformSide, cfgWrite_closed hline]
  split
  next he => cases he; simp [listed?] at h
  next => rfl

/-- Settles O15: the branches of `writeParam` for the two lists, and of `takePlatformSide`. -/
theorem enumeratedWrites : Obligations.EnumeratedWrites := by
  refine ⟨fun v m s hreset hline => exec_slotMode hreset hline, fun v d s hreset hline => exec_walkwaySide hreset hline,
    fun pf d s hreset hline => exec_platformSide pf d hreset hline,
    fun v s hreset hline => ⟨fun hv => ?_, fun hv => ?_⟩, fun code v s hreset hline => ?_, fun pf d s hreset hline h => ?_⟩
  · exact write_denied ⟨hreset, rfl⟩ (by simp [writeParameter, cfgWrite_closed hline, writeParam, hv])
  · exact write_denied ⟨hreset, rfl⟩ (by simp [writeParameter, cfgWrite_closed hline, writeParam, hv])
  · exact write_denied ⟨hreset, rfl⟩ (by simp [writeParameter, cfgWrite_closed hline])
  · exact write_denied ⟨hreset, rfl⟩ (takePlatformSide_unlisted hline h)

/-! ## O16 -/

theorem mem_insertSegment {x v : Segment} {l : List Segment} (h : l.Pairwise fun t u => t.start < u.start) :
    v ∈ insertSegment x l ↔ v = x ∨ (v ∈ l ∧ v.start ≠ x.start) := by
  induction l with
  | nil => simp [insertSegment]
  | cons a l ih =>
    obtain ⟨ha, hl⟩ := List.pairwise_cons.mp h
    have habove (hle : x.start ≤ a.start) (w : Segment) (hw : w ∈ l) : w.start ≠ x.start := by
      have := ha w hw; omega
    unfold insertSegment
    split
    next hlt =>
      simp only [List.mem_cons]
      constructor
      · rintro (rfl | rfl | hv)
        · exact .inl rfl
        · exact .inr ⟨.inl rfl, by omega⟩
        · exact .inr ⟨.inr hv, habove (Nat.le_of_lt hlt) v hv⟩
      · tauto
    next hlt =>
      split
      next heq =>
        simp only [List.mem_cons]
        constructor
        · rintro (rfl | hv)
          · exact .inl rfl
          · exact .inr ⟨.inr hv, habove (Nat.le_of_eq heq) v hv⟩
        · rintro (rfl | ⟨rfl | hv, hne⟩)
          · exact .inl rfl
          · exact absurd heq.symm hne
          · exact .inr hv
      next hne =>
        simp only [List.mem_cons, ih hl]
        constructor
        · rintro (rfl | rfl | ⟨hv, hs⟩)
          · exact .inr ⟨.inl rfl, Ne.symm hne⟩
          · exact .inl rfl
          · exact .inr ⟨.inr hv, hs⟩
        · tauto

/-- A new segment's number counts the starts below its own, which its insertion leaves. -/
theorem segmentNumber_insertSegment (a b : Nat) (l : List Segment) :
    segmentNumber a (insertSegment ⟨a, b⟩ l) = segmentNumber a l := by
  unfold segmentNumber
  induction l with
  | nil => simp [insertSegment]
  | cons x l ih =>
    unfold insertSegment
    split
    · simp
    · split
      next heq =>
        have hx : ¬ x.start < a := fun h => absurd (show a = x.start from heq) (Nat.ne_of_gt h)
        simp [hx]
      next => simp only [List.filter_cons]; split <;> simp [ih]

theorem takeProfilePut_accepted {a b : Int} (hline : s.lsu.line = .closed)
    (hroom : s.cfg.profile.any (fun u => u.start = clampNat 0 400000 a) = true ∨ s.cfg.profile.length < 24) :
    takeProfilePut (a, b) s =
      cfgAccept ((clampNat 0 400000 a : Int) ≠ a ∨ (clampNat 10 1200 b : Int) ≠ b)
        (.segment (clampNat 0 400000 a) (clampNat 10 1200 b) (segmentNumber (clampNat 0 400000 a) s.cfg.profile))
        (s.onCfg fun c => { c with profile := insertSegment ⟨clampNat 0 400000 a, clampNat 10 1200 b⟩ c.profile }) := by
  rw [takeProfilePut, cfgWrite_closed hline]
  refine if_neg fun ⟨hany, hlen⟩ => ?_
  rcases hroom with h | h
  · exact absurd (h.symm.trans hany) (by simp)
  · exact absurd h (Nat.not_lt.mpr hlen)

theorem exec_profilePut (a b : Int) (hreset : s.pins.resetLow = false) (hline : s.lsu.line = .closed) (htab : TableInv s)
    (hroom : s.cfg.profile.any (fun u => u.start = clampNat 0 400000 a) = true ∨ s.cfg.profile.length < 24) :
    ∃ t, exec (.profilePut .con (.fields (a, b))) s = .next t ∧
      Replied .profilePut .con
        (if (clampNat 0 400000 a : Int) = a ∧ (clampNat 10 1200 b : Int) = b then .ok else .clamped)
        (.cfg (.segment (clampNat 0 400000 a) (clampNat 10 1200 b)
          (segmentNumber (clampNat 0 400000 a) t.cfg.profile)) false) t ∧
      (∀ u, u ∈ t.cfg.profile ↔
        u = ⟨clampNat 0 400000 a, clampNat 10 1200 b⟩ ∨ (u ∈ s.cfg.profile ∧ u.start ≠ clampNat 0 400000 a)) ∧
      t.cfg = { s.cfg with profile := t.cfg.profile, committed := false } ∧ TableInv t ∧ KeepsBut [.cfg] s t := by
  obtain ⟨t, ht, hr, hcfg, -, hadm, hk⟩ :=
    write_accepted .profilePut ⟨hreset, rfl⟩ (takeProfilePut_accepted (b := b) hline hroom) (keepsBut_cfg _)
  have hprofile : t.cfg.profile = insertSegment ⟨clampNat 0 400000 a, clampNat 10 1200 b⟩ s.cfg.profile := by rw [hcfg]; rfl
  refine ⟨t, ht, ?_, fun v => ?_, ?_, ?_, hk⟩
  · rw [hprofile, segmentNumber_insertSegment, ← status_of_clamped]
    simpa only [not_and_or] using hr
  · rw [hprofile, mem_insertSegment htab.profile]
  · rw [hcfg]; rfl
  · obtain ⟨hp, hlen⟩ := profileOk_insert hroom htab.profileOk (x := ⟨clampNat 0 400000 a, clampNat 10 1200 b⟩)
    have hm : t.cfg.markers = s.cfg.markers := by rw [hcfg]; rfl
    have hl : t.cfg.lanes = s.cfg.lanes := by rw [hcfg]; rfl
    exact ⟨hprofile ▸ hp, hprofile ▸ hlen, hm ▸ htab.markers, hm ▸ htab.markerSize, hl ▸ htab.lanes,
      by rw [hadm, hl]; exact htab.laneOps⟩

theorem takeProfilePut_full {a b : Int} (hline : s.lsu.line = .closed)
    (hany : s.cfg.profile.any (fun u => u.start = clampNat 0 400000 a) = false) (hlen : 24 ≤ s.cfg.profile.length) :
    takeProfilePut (a, b) s = cfgDeny .full s := by
  rw [takeProfilePut, cfgWrite_closed hline]
  exact if_pos ⟨hany, hlen⟩

theorem exec_profileRemove {n : Nat} (hreset : s.pins.resetLow = false) (hline : s.lsu.line = .closed)
    (hn : n < s.cfg.profile.length) :
    ∃ t, exec (.profileRemove .con (.fields n)) s = .next t ∧ Replied .profileRemove .con .ok (.cfg .nothing false) t ∧
      t.cfg = { s.cfg with profile := s.cfg.profile.eraseIdx n, committed := false } ∧ KeepsBut [.cfg] s t := by
  have ha : takeProfileRemove n s = cfgAccept false .nothing (s.onCfg fun c => { c with profile := c.profile.eraseIdx n }) := by
    simp [takeProfileRemove, cfgWrite_closed hline, hn]
  obtain ⟨t, ht, hr, hcfg, -, -, hk⟩ := write_accepted .profileRemove ⟨hreset, rfl⟩ ha (keepsBut_cfg _)
  exact ⟨t, ht, hr, hcfg, hk⟩

/-- Settles O16: the branches of the three requests on the profile. -/
theorem profileWrites : Obligations.ProfileWrites := by
  refine ⟨fun a b s hreset hline htab hroom => exec_profilePut a b hreset hline htab hroom,
    fun a b s hreset hline hany hlen => write_denied ⟨hreset, rfl⟩ (takeProfilePut_full hline hany hlen),
    fun n s hreset hline hn => exec_profileRemove hreset hline hn, fun n s hreset hline hn => ?_, fun s hreset hline => ?_⟩
  · exact write_denied ⟨hreset, rfl⟩ (by simp [takeProfileRemove, cfgWrite_closed hline, Nat.not_lt.mpr hn])
  · have ha : takeProfileClear () s = cfgAccept false .nothing (s.onCfg fun c => { c with profile := [] }) :=
      cfgWrite_closed hline
    obtain ⟨t, ht, hr, hcfg, -, -, hk⟩ := write_accepted .profileClear ⟨hreset, rfl⟩ ha (keepsBut_cfg _)
    exact ⟨t, ht, hr, hcfg, hk⟩

end Sys2Proof.Machine
end

section
/-! O17, O18: the writes of the marker table and of the lanes. -/

namespace Sys2Proof.Machine

variable {s t u : State}

/-! ## O17 -/

theorem setMarkers_cfg (f : List Nat → List Nat) (s : State) :
    (setMarkers f s).cfg = { s.cfg with markers := f s.cfg.markers } := by
  simp [setMarkers]

theorem withdrawReference_psu (s : State) :
    (withdrawReference s).psu = { s.psu with ref := .unreferenced, expected := ⟨none, none⟩ } := rfl

theorem keepsBut_setMarkers (f : List Nat → List Nat) : KeepsBut [.cfg, .psu] s (uncommit (setMarkers f s)) := by
  simp [keepsBut_iff, setMarkers]

/-- A write of the marker table that is accepted withdraws the reference (R8). -/
theorem exec_setMarkers {α : Type} (r : Request) {f : α} {body : α → State → Answer} (h : Heard r .con s) {clamped : Bool}
    {d : CfgData} {g : List Nat → List Nat} (ha : body f s = cfgAccept clamped d (setMarkers g s)) :
    ∃ t, request r .con (.fields f) body s = .next t ∧ Replied r .con (if clamped then .clamped else .ok) (.cfg d false) t ∧
      t.cfg = { s.cfg with markers := g s.cfg.markers, committed := false } ∧
      t.psu = { s.psu with ref := .unreferenced, expected := ⟨none, none⟩ } ∧ KeepsBut [.cfg, .psu] s t := by
  obtain ⟨t, ht, hr, hcfg, hpsu, -, hk⟩ := write_accepted r h ha (keepsBut_setMarkers g)
  refine ⟨t, ht, hr, ?_, hpsu.trans (withdrawReference_psu _), hk⟩
  rw [hcfg, setMarkers_cfg]

/-- A new position's number counts the positions below it, which its insertion leaves. -/
theorem markerNumber_insertMarker (x : Nat) (l : List Nat) : markerNumber x (insertMarker x l) = markerNumber x l := by
  unfold markerNumber
  induction l with
  | nil => simp [insertMarker]
  | cons a l ih =>
    unfold insertMarker
    split
    · simp
    · simp only [List.filter_cons]
      split <;> simp [ih]

theorem takeMarkerPut_accepted {v : Int} (hline : s.lsu.line = .closed) (hnew : clampNat 0 400000 v ∉ s.cfg.markers)
    (hroom : s.cfg.markers.length < 48) :
    takeMarkerPut v s =
      cfgAccept ((clampNat 0 400000 v : Int) ≠ v)
        (.marker (clampNat 0 400000 v) (markerNumber (clampNat 0 400000 v) s.cfg.markers))
        (setMarkers (insertMarker (clampNat 0 400000 v)) s) := by
  have hc : s.cfg.markers.contains (clampNat 0 Config.positionMax v) = false := by
    rw [Bool.eq_false_iff]
    exact fun h => hnew (List.contains_iff_mem.mp h)
  rw [takeMarkerPut, cfgWrite_closed hline]
  simp only [hc, Bool.false_eq_true, if_false]
  exact if_neg (Nat.not_le.mpr hroom)

theorem exec_markerPut (v : Int) (hreset : s.pins.resetLow = false) (hline : s.lsu.line = .closed)
    (hnew : clampNat 0 400000 v ∉ s.cfg.markers) (hroom : s.cfg.markers.length < 48) :
    ∃ t, exec (.markerPut .con (.fields v)) s = .next t ∧
      Replied .markerPut .con (if (clampNat 0 400000 v : Int) = v then .ok else .clamped)
        (.cfg (.marker (clampNat 0 400000 v) (markerNumber (clampNat 0 400000 v) t.cfg.markers)) false) t ∧
      (∀ x, x ∈ t.cfg.markers ↔ x = clampNat 0 400000 v ∨ x ∈ s.cfg.markers) ∧
      (s.cfg.markers.Pairwise (· < ·) → t.cfg.markers.Pairwise (· < ·)) ∧
      t.cfg = { s.cfg with markers := t.cfg.markers, committed := false } ∧
      t.psu = { s.psu with ref := .unreferenced, expected := ⟨none, none⟩ } ∧ KeepsBut [.cfg, .psu] s t := by
  obtain ⟨t, ht, hr, hcfg, hpsu, hk⟩ :=
    exec_setMarkers .markerPut ⟨hreset, rfl⟩ (takeMarkerPut_accepted hline hnew hroom)
  have hmarkers : t.cfg.markers = insertMarker (clampNat 0 400000 v) s.cfg.markers := by rw [hcfg]
  refine ⟨t, ht, ?_, fun x => ?_, fun hs => ?_, ?_, hpsu, hk⟩
  · rw [hmarkers, markerNumber_insertMarker, ← status_of_clamped]
    exact hr
  · rw [hmarkers, mem_insertMarker]
  · rw [hmarkers]
    exact (markersOk_insert hnew hroom ⟨hs, Nat.le_of_lt hroom⟩).1
  · rw [hcfg]

theorem takeMarkerPut_held {v : Int} (hline : s.lsu.line = .closed) (h : clampNat 0 400000 v ∈ s.cfg.markers) :
    takeMarkerPut v s = cfgDeny .badValue s := by
  rw [takeMarkerPut, cfgWrite_closed hline]
  exact if_pos (List.contains_iff_mem.mpr h)

theorem takeMarkerPut_full {v : Int} (hline : s.lsu.line = .closed) (h : clampNat 0 400000 v ∉ s.cfg.markers)
    (hlen : 48 ≤ s.cfg.markers.length) : takeMarkerPut v s = cfgDeny .full s := by
  rw [takeMarkerPut, cfgWrite_closed hline]
  exact (if_neg fun hc => h (List.contains_iff_mem.mp hc)).trans (if_pos hlen)

/-- Settles O17: the branches of the three requests on the markers. -/
theorem markerWrites : Obligations.MarkerWrites := by
  refine ⟨fun v s hreset hline hnew hroom => exec_markerPut v hreset hline hnew hroom,
    fun v s hreset hline h => write_denied ⟨hreset, rfl⟩ (takeMarkerPut_held hline h),
    fun v s hreset hline h hlen => write_denied ⟨hreset, rfl⟩ (takeMarkerPut_full hline h hlen),
    fun n s hreset hline hn => ?_, fun n s hreset hline hn => ?_, fun s hreset hline => ?_⟩
  · have ha : takeMarkerRemove n s = cfgAccept false .nothing (setMarkers (fun l => l.eraseIdx n) s) := by
      simp [takeMarkerRemove, cfgWrite_closed hline, hn]
    exact exec_setMarkers .markerRemove ⟨hreset, rfl⟩ ha
  · exact write_denied ⟨hreset, rfl⟩ (by simp [takeMarkerRemove, cfgWrite_closed hline, Nat.not_lt.mpr hn])
  · have ha : takeMarkerClear () s = cfgAccept false .nothing (setMarkers (fun _ => []) s) := cfgWrite_closed hline
    exact exec_setMarkers .markerClear ⟨hreset, rfl⟩ ha

/-! ## O18 -/

/-- Finding by identity in a list into which a lane has been put at its place. -/
theorem find?_insertLane (l : Lane) (id : LaneId) (ls : List Lane) :
    (insertLane l ls).find? (fun m => m.id = id) = if l.id = id then some l else ls.find? fun m => m.id = id := by
  induction ls with
  | nil => by_cases h : l.id = id <;> simp [insertLane, h]
  | cons a ls ih =>
    unfold insertLane
    split
    · by_cases h : l.id = id <;> simp [h]
    · split
      next he => by_cases h : l.id = id <;> simp_all
      next hne =>
        by_cases ha : a.id = id
        · have hl : l.id ≠ id := fun h => hne (h.trans ha.symm)
          simp [ha, hl]
        · simp [ha, ih]

theorem find?_insertLaneOp (o : LaneOp) (id : LaneId) (os : List LaneOp) :
    (insertLaneOp o os).find? (fun m => m.id = id) = if o.id = id then some o else os.find? fun m => m.id = id := by
  induction os with
  | nil => by_cases h : o.id = id <;> simp [insertLaneOp, h]
  | cons a os ih =>
    unfold insertLaneOp
    split
    · by_cases h : o.id = id <;> simp [h]
    · split
      next he => by_cases h : o.id = id <;> simp_all
      next hne =>
        by_cases ha : a.id = id
        · have hl : o.id ≠ id := fun h => hne (h.trans ha.symm)
          simp [ha, hl]
        · simp [ha, ih]

/-- Finding by identity where one identity has been filtered out. -/
theorem find?_filter_ne {α : Type} (f : α → LaneId) (out id : LaneId) (l : List α) :
    (l.filter fun x => f x ≠ out).find? (fun x => f x = id) = if id = out then none else l.find? fun x => f x = id := by
  rw [List.find?_filter]
  by_cases h : id = out
  · subst h
    simp
  · rw [if_neg h]
    congr 1
    funext x
    by_cases hx : f x = id
    · simp [hx, h]
    · simp [hx]

theorem keepsBut_lanes (f : Cfg → Cfg) (g : Adm → Adm) : KeepsBut [.cfg, .adm] s (uncommit ((s.onCfg f).onAdm g)) := by
  simp [keepsBut_iff]

theorem exec_lanePut (id : LaneId) (k : LaneKind) (pf : Platform) (hreset : s.pins.resetLow = false)
    (hline : s.lsu.line = .closed) :
    ∃ t, exec (.lanePut .con (.fields ⟨⟨.listed id.gate, id.num.val⟩, .listed k, .listed pf⟩)) s = .next t ∧
      Replied .lanePut .con .ok (.cfg .nothing false) t ∧
      laneAt t id = some ⟨id, k, pf⟩ ∧
      laneOpAt t id = some { id := id, state := .enabled, lapsed := false, lapses := 0 } ∧
      reservationOf t id = none ∧
      (∀ j, j ≠ id → laneAt t j = laneAt s j ∧ laneOpAt t j = laneOpAt s j ∧ reservationOf t j = reservationOf s j) ∧
      t.cfg = { s.cfg with lanes := t.cfg.lanes, committed := false } ∧
      t.adm = { s.adm with lanes := t.adm.lanes, reservations := t.adm.reservations } ∧ KeepsBut [.cfg, .adm] s t := by
  have ha : writeLane ⟨⟨.listed id.gate, id.num.val⟩, .listed k, .listed pf⟩ s =
      cfgAccept false .nothing (putLane ⟨id, k, pf⟩ s) := by
    simp [writeLane, cfgWrite_closed hline, laneId?]
  obtain ⟨t, ht, hr, hcfg, -, hadm, hk⟩ := write_accepted .lanePut ⟨hreset, rfl⟩ ha (keepsBut_lanes _ _)
  have hlane (j : LaneId) : laneAt t j = if id = j then some ⟨id, k, pf⟩ else laneAt s j := by
    rw [laneAt, hcfg]
    exact find?_insertLane _ j _
  have hop (j : LaneId) : laneOpAt t j = if id = j then some (laneOpReset id) else laneOpAt s j := by
    rw [laneOpAt, hadm]
    exact find?_insertLaneOp _ j _
  have hres (j : LaneId) : reservationOf t j = if j = id then none else reservationOf s j := by
    rw [reservationOf, hadm]
    exact find?_filter_ne Reservation.lane id j _
  refine ⟨t, ht, hr, (hlane id).trans (if_pos rfl), (hop id).trans (if_pos rfl), (hres id).trans (if_pos rfl),
    fun j hj => ⟨(hlane j).trans (if_neg (Ne.symm hj)), (hop j).trans (if_neg (Ne.symm hj)),
      (hres j).trans (if_neg hj)⟩, ?_, ?_, hk⟩
  · rw [hcfg]; rfl
  · rw [hadm]; rfl

theorem exec_laneRemove {r : LaneRef} {l : Lane} (hreset : s.pins.resetLow = false) (hline : s.lsu.line = .closed)
    (hl : namedLane s r = some l) :
    ∃ t, exec (.laneRemove .con (.fields r)) s = .next t ∧ Replied .laneRemove .con .ok (.cfg .nothing false) t ∧
      laneAt t l.id = none ∧ laneOpAt t l.id = none ∧ reservationOf t l.id = none ∧
      (∀ j, j ≠ l.id → laneAt t j = laneAt s j ∧ laneOpAt t j = laneOpAt s j ∧ reservationOf t j = reservationOf s j) ∧
      t.cfg = { s.cfg with lanes := t.cfg.lanes, committed := false } ∧
      t.adm = { s.adm with lanes := t.adm.lanes, reservations := t.adm.reservations } ∧ KeepsBut [.cfg, .adm] s t := by
  have ha : takeLaneRemove r s = cfgAccept false .nothing (dropLane l.id s) := by
    simp [takeLaneRemove, cfgWrite_closed hline, hl]
  obtain ⟨t, ht, hr, hcfg, -, hadm, hk⟩ := write_accepted .laneRemove ⟨hreset, rfl⟩ ha (keepsBut_lanes _ _)
  have hlane (j : LaneId) : laneAt t j = if j = l.id then none else laneAt s j := by
    rw [laneAt, hcfg]
    exact find?_filter_ne Lane.id l.id j _
  have hop (j : LaneId) : laneOpAt t j = if j = l.id then none else laneOpAt s j := by
    rw [laneOpAt, hadm]
    exact find?_filter_ne LaneOp.id l.id j _
  have hres (j : LaneId) : reservationOf t j = if j = l.id then none else reservationOf s j := by
    rw [reservationOf, hadm]
    exact find?_filter_ne Reservation.lane l.id j _
  refine ⟨t, ht, hr, (hlane _).trans (if_pos rfl), (hop _).trans (if_pos rfl), (hres _).trans (if_pos rfl),
    fun j hj => ⟨(hlane j).trans (if_neg hj), (hop j).trans (if_neg hj), (hres j).trans (if_neg hj)⟩, ?_, ?_, hk⟩
  · rw [hcfg]; rfl
  · rw [hadm]; rfl

theorem writeLane_unlisted {f : LanePutFields} (hline : s.lsu.line = .closed)
    (h : laneId? f.lane = none ∨ listed? f.kind = none ∨ listed? f.platform = none) : writeLane f s = cfgDeny .badValue s := by
  rw [writeLane, cfgWrite_closed hline]
  split
  next hid hk hp => simp [hid, hk, hp, listed?] at h
  next => rfl

/-- Settles O18: the branches of the two requests on the lanes. -/
theorem laneWrites : Obligations.LaneWrites := by
  refine ⟨fun g n k pf s hreset hline => exec_lanePut ⟨g, n⟩ k pf hreset hline,
    fun f s hreset hline h => write_denied ⟨hreset, rfl⟩ (writeLane_unlisted hline h),
    fun r l s hreset hline hl => exec_laneRemove hreset hline hl, fun r s hreset hline hr => ?_⟩
  exact write_denied ⟨hreset, rfl⟩ (by simp [takeLaneRemove, cfgWrite_closed hline, hr])

end Sys2Proof.Machine
end

section
/-! O14: a numeric parameter written, with what R8 and R39 add to it. -/

namespace Sys2Proof.Machine

variable {s t u : State}

/-! ## The outputs where no trip is powered -/

/-- Of the brakes at most the outputs and their apply timers change. -/
def OutputsOnly (a b : Brs) : Prop :=
  b = { a with
        drivePermit := b.drivePermit, sbHoldoff := b.sbHoldoff, ebHoldoff := b.ebHoldoff
        sbApply := b.sbApply, ebApply := b.ebApply }

theorem OutputsOnly.trans {a b c : Brs} (h : OutputsOnly a b) (h' : OutputsOnly b c) : OutputsOnly a c := by
  unfold OutputsOnly at *
  rw [h']
  rw [h]

theorem updateOutputs_outputsOnly (s : State) : OutputsOnly s.brs (updateOutputs s).brs := rfl

/-- Off RELEASE, RUNNING and ARRIVING the outputs that R64 gives do not hang on the reports. -/
theorem outputsWith_unpowered (hp : isPowered s.trc.state = false) (locked : Bool) :
    outputsWith locked s = outputsWith false s := by
  unfold outputsWith
  split
  · split <;> simp_all [isPowered]
  · rfl
  · rfl

theorem applyTimer_same (now tmo : Nat) (fb : Feedback) (v : Bool) (t : Option Timer) : applyTimer now tmo fb v v t = t := by
  cases v <;> simp [applyTimer]

/-- The outputs stand as R64 calls for, and so do not change when they are set again. -/
def OutputsStand (s : State) : Prop :=
  s.brs.drivePermit = (wantedOutputs s).drivePermit ∧ s.brs.sbHoldoff = (wantedOutputs s).sbHoldoff ∧
    s.brs.ebHoldoff = (wantedOutputs s).ebHoldoff

theorem OutputsStand.updateOutputs (h : OutputsStand s) : (updateOutputs s).brs = s.brs := by
  obtain ⟨hp, hsb, heb⟩ := h
  simp only [Machine.updateOutputs, State.onBrs_brs, ← hp, ← hsb, ← heb, applyTimer_same]

theorem outputsStand_of_unpowered (hp : isPowered s.trc.state = false) (h : OutputInv s) : OutputsStand s := by
  obtain ⟨hsb, heb, hon, hoff⟩ := h
  refine ⟨?_, hsb, heb⟩
  rw [wantedOutputs, outputsWith_unpowered hp] at hon ⊢
  rw [outputsWith_unpowered hp] at hoff
  exact Bool.eq_iff_iff.mpr ⟨hoff, hon⟩

/-- Off the powered states only the stage, the trip state and the outputs decide whether the outputs stand. -/
theorem OutputsStand.congr (h : OutputsStand s) (hp : isPowered s.trc.state = false) (hbrs : t.brs = s.brs)
    (htrc : t.trc = s.trc) : OutputsStand t := by
  have hw : wantedOutputs t = wantedOutputs s := by
    rw [wantedOutputs, outputsWith_unpowered (htrc ▸ hp), wantedOutputs, outputsWith_unpowered hp]
    exact outputsWith_eq false (by rw [hbrs]) (by rw [htrc]) (by rw [hbrs])
  simpa only [OutputsStand, hw, hbrs] using h

/-! ## Reports made stale (R39) -/

/-- A report made stale out of the powered states: the record and the outputs. -/
structure StaleKept (s t : State) : Prop where
  rest   : t.cfg = s.cfg ∧ t.psu = s.psu ∧ t.clc = s.clc ∧ t.trc = s.trc ∧ t.dri = s.dri ∧ t.adm = s.adm ∧ t.lsu = s.lsu ∧
    t.lbp = s.lbp ∧ t.niu = s.niu ∧ t.pins = s.pins ∧ t.now = s.now ∧ t.pending = s.pending
  brs    : OutputsOnly s.brs t.brs
  stand  : OutputsStand s → t.brs = s.brs
  record : ∀ c, t.cru.get c = { s.cru.get c with fresh := isFresh s c }

theorem makeStale_unpowered (hp : isPowered s.trc.state = false) (c : Car) :
    makeStale c s = updateOutputs (s.onCru fun r => r.set c { r.get c with fresh := false }) := by
  unfold makeStale
  simp [hp]

theorem staleIfOld_cru (hp : isPowered s.trc.state = false) (c d : Car) :
    (staleIfOld c s).cru.get d = if d = c then { s.cru.get c with fresh := isFresh s c } else s.cru.get d := by
  unfold staleIfOld
  by_cases hs : staleDue s c = true
  · rw [if_pos hs, makeStale_unpowered hp]
    have hnot : isFresh s c = false := by
      rw [staleDue_eq] at hs
      simp_all
    by_cases hd : d = c
    · subst hd; simp [hnot]
    · simp [hd, PerCar.get_set_other _ _ hd]
  · rw [if_neg hs]
    have hsame : isFresh s c = (s.cru.get c).fresh := by
      rw [staleDue_eq] at hs
      cases hf : (s.cru.get c).fresh <;> simp_all [isFresh]
    by_cases hd : d = c
    · subst hd; simp [hsame]
    · simp [hd]

theorem staleIfOld_rest (hp : isPowered s.trc.state = false) (c : Car) :
    ((staleIfOld c s).cfg = s.cfg ∧ (staleIfOld c s).psu = s.psu ∧ (staleIfOld c s).clc = s.clc ∧
      (staleIfOld c s).trc = s.trc ∧ (staleIfOld c s).dri = s.dri ∧ (staleIfOld c s).adm = s.adm ∧
      (staleIfOld c s).lsu = s.lsu ∧ (staleIfOld c s).lbp = s.lbp ∧ (staleIfOld c s).niu = s.niu ∧
      (staleIfOld c s).pins = s.pins ∧ (staleIfOld c s).now = s.now ∧ (staleIfOld c s).pending = s.pending) ∧
    OutputsOnly s.brs (staleIfOld c s).brs ∧ (OutputsStand s → (staleIfOld c s).brs = s.brs) := by
  unfold staleIfOld
  split
  · rw [makeStale_unpowered hp]
    refine ⟨by simp, updateOutputs_outputsOnly (s.onCru _), fun h => ?_⟩
    exact OutputsStand.updateOutputs (s := s.onCru _) (h.congr hp rfl rfl)
  · exact ⟨by simp, rfl, fun _ => rfl⟩

theorem settleStale_kept (hp : isPowered s.trc.state = false) : StaleKept s (settleStale s) := by
  obtain ⟨hrest, hout, hstand⟩ := staleIfOld_rest hp .a
  have hp' : isPowered (staleIfOld .a s).trc.state = false := by rw [hrest.2.2.2.1]; exact hp
  obtain ⟨hrest', hout', hstand'⟩ := staleIfOld_rest hp' .b
  have hfresh : isFresh (staleIfOld .a s) .b = isFresh s .b :=
    isFresh_congr .b (by simp [staleIfOld_cru hp]) (by simp) (by simp [State.params])
  unfold settleStale
  refine ⟨by simp [hrest', hrest], hout.trans hout', fun h => ?_, fun c => ?_⟩
  · exact (hstand' (h.congr hp (hstand h) (by simp [hrest]))).trans (hstand h)
  · rw [staleIfOld_cru hp', hfresh]
    cases c with
    | a => simp [staleIfOld_cru hp]
    | b => simp [staleIfOld_cru hp]

/-! ## O14 -/

@[simp] theorem beforeWrite_cfg (p : NumParam) (s : State) : (beforeWrite p s).cfg = s.cfg := by
  unfold beforeWrite
  split
  · simp
  · split <;> simp

@[simp] theorem afterWrite_cfg (p : NumParam) (s : State) : (afterWrite p s).cfg = s.cfg := by
  unfold afterWrite
  split
  · simp
  · split <;> simp

/-- The state as a numeric write leaves it, but for the committed mark. -/
def numberWritten (p : NumParam) (v : Int) (s : State) : State :=
  afterWrite p ((beforeWrite p s).onCfg fun c => { c with params := c.params.put (clampNat (paramRow p).lo (paramRow p).hi v) p })

theorem writeParameter_number (p : NumParam) (v : Int) (hline : s.lsu.line = .closed) :
    writeParameter (.listed (.num p), v) s =
      cfgAccept ((clampNat (paramRow p).lo (paramRow p).hi v : Int) ≠ v)
        (.value (.number (clampNat (paramRow p).lo (paramRow p).hi v))) (numberWritten p v s) :=
  cfgWrite_closed hline

theorem numberWritten_cfg (p : NumParam) (v : Int) (s : State) :
    (numberWritten p v s).cfg = { s.cfg with params := s.cfg.params.put (clampNat (paramRow p).lo (paramRow p).hi v) p } := by
  simp [numberWritten]

theorem numberWritten_plain {p : NumParam} (ht : p ≠ .trackLen) (hm : p ≠ .midStop) (hk : p ≠ .kEnc) (hc : p ≠ .tCar) (v : Int)
    (s : State) : numberWritten p v s =
      s.onCfg fun c => { c with params := c.params.put (clampNat (paramRow p).lo (paramRow p).hi v) p } := by
  simp [numberWritten, afterWrite, beforeWrite, ht, hm, hk, hc]

theorem numberWritten_length {p : NumParam} (hp : p = .trackLen ∨ p = .midStop) (v : Int) (s : State) :
    numberWritten p v s =
      withdrawReference (s.onCfg fun c => { c with params := c.params.put (clampNat (paramRow p).lo (paramRow p).hi v) p }) := by
  rcases hp with rfl | rfl <;> simp [numberWritten, afterWrite, beforeWrite]

theorem numberWritten_kEnc (v : Int) (s : State) :
    numberWritten .kEnc v s =
      withdrawReference ((setPos (pos s) s).onCfg fun c =>
        { c with params := c.params.put (clampNat (paramRow .kEnc).lo (paramRow .kEnc).hi v) .kEnc }) := by
  simp [numberWritten, afterWrite, beforeWrite]

theorem numberWritten_tCar (v : Int) (s : State) :
    numberWritten .tCar v s =
      settleStale ((settleStale s).onCfg fun c =>
        { c with params := c.params.put (clampNat (paramRow .tCar).lo (paramRow .tCar).hi v) .tCar }) := by
  simp [numberWritten, afterWrite, beforeWrite]

theorem Params.put_lists (q : Params) (n : Nat) (p : NumParam) :
    (q.put n p).slotMode = q.slotMode ∧ (q.put n p).walkwaySide = q.walkwaySide := by
  cases p <;> exact ⟨rfl, rfl⟩

theorem clampPos_clampPos (n : Nat) (x : Int) : clampPos n (clampPos n x) = clampPos n x := by
  simp only [clampPos]
  omega

/-- A position set is P, where it lies within its bounds (R19). -/
theorem pos_of_setPos (hcount : t.psu.count = s.psu.count) (hpRef : t.psu.pRef = pos s)
    (hcountRef : t.psu.countRef = s.psu.count) (htrack : t.params.trackLen = s.params.trackLen) : pos t = pos s := by
  have hzero : ropeCm t.params.kEnc (countDiff t.psu.count t.psu.countRef) = 0 := by
    simp [hcount, hcountRef, countDiff, ropeCm]
  rw [pos, hzero, hpRef, htrack, Int.add_zero, pos, clampPos_clampPos]

/-- What a write of T_CAR out of the powered states does to the reports and the brakes (R39). -/
theorem numberWritten_tCar_reports (hp : isPowered s.trc.state = false) (v : Int)
    (hcru : t.cru = (numberWritten .tCar v s).cru) (hbrs : t.brs = (numberWritten .tCar v s).brs)
    (hcfg : t.params = (numberWritten .tCar v s).params) :
    (∀ c, t.cru.get c = { s.cru.get c with fresh := isFresh s c && decide (reportAge s c ≤ t.params.tCar) }) ∧
      OutputsOnly s.brs t.brs ∧ (OutputInv s → t.brs = s.brs) ∧
      KeepsBut [.cfg, .cru, .brs] s (uncommit (numberWritten .tCar v s)) := by
  have hset := settleStale_kept hp
  have hput : StaleKept ((settleStale s).onCfg fun c =>
      { c with params := c.params.put (clampNat (paramRow .tCar).lo (paramRow .tCar).hi v) .tCar })
      (numberWritten .tCar v s) := by
    rw [numberWritten_tCar]
    exact settleStale_kept (by simpa [hset.rest] using hp)
  refine ⟨fun c => ?_, ?_, fun h => ?_, by simp [keepsBut_iff, hput.rest, hset.rest]⟩
  · have hparams : t.params.tCar = ((settleStale s).onCfg fun c =>
        { c with params := c.params.put (clampNat (paramRow .tCar).lo (paramRow .tCar).hi v) .tCar }).params.tCar := by
      rw [hcfg, State.params, hput.rest.1]
      rfl
    rw [hcru, hput.record, hparams]
    simp [isFresh, reportAge, hset.record]
  · rw [hbrs]
    exact hset.brs.trans hput.brs
  · have hstand := outputsStand_of_unpowered hp h
    rw [hbrs]
    refine (hput.stand (hstand.congr hp ?_ ?_)).trans (hset.stand hstand)
    · exact hset.stand hstand
    · exact hset.rest.2.2.2.1

/-- Settles O14: what `numberWritten` does for each parameter. -/
theorem setParameterNumeric : Obligations.SetParameterNumeric := by
  intro p v s hreset hline
  obtain ⟨t, ht, hr, hcfg, hpsu, -, hcru, hbrs, hkeep⟩ :=
    write_does .setParameter ⟨hreset, rfl⟩ (writeParameter_number p v hline)
  rw [numberWritten_cfg] at hcfg
  have hparams : t.params = s.params.put (clampNat (paramRow p).lo (paramRow p).hi v) p := by rw [State.params, hcfg]; rfl
  have hlists := Params.put_lists s.params (clampNat (paramRow p).lo (paramRow p).hi v) p
  refine ⟨t, ht, ?_, ?_, fun q hq => ?_, ?_, ?_, ?_, fun hp => ?_, fun hp => ?_, fun htr hm hk hc => ?_, fun hp hpow => ?_⟩
  · rw [← status_of_clamped]
    exact hr
  · rw [hparams, Params.get_put_self]
  · rw [hparams, Params.get_put_other hq]
  · rw [hparams, hlists.1]
  · rw [hparams, hlists.2]
  · rw [hparams, hcfg]
    rfl
  · rw [numberWritten_length hp] at hpsu hkeep
    exact ⟨hpsu, hkeep _ (by simp [keepsBut_iff])⟩
  · subst hp
    rw [numberWritten_kEnc] at hpsu hkeep
    refine ⟨hpsu, pos_of_setPos ?_ ?_ ?_ ?_, hkeep _ (by simp [keepsBut_iff])⟩
    · rw [hpsu]; rfl
    · rw [hpsu]; rfl
    · rw [hpsu]; rfl
    · rw [hparams]; rfl
  · rw [numberWritten_plain htr hm hk hc] at hkeep
    exact hkeep _ (keepsBut_cfg _)
  · subst hp
    have hwritten : t.params = (numberWritten .tCar v s).params := by simp only [State.params, hcfg, numberWritten_cfg]
    obtain ⟨hrecord, hout, hstand, hframe⟩ := numberWritten_tCar_reports hpow v hcru hbrs hwritten
    exact ⟨hrecord, hout, hstand, hkeep _ hframe⟩

end Sys2Proof.Machine
end

section
/-! O19: COMMIT, the nine checks against the table of R16, and the reads. -/

namespace Sys2Proof.Machine

variable {s t u : State}

/-! ## The nine checks -/

theorem commit1_iff : commit1 s = none ↔ CommitCheck s 1 := by
  simp only [commit1, CommitCheck]
  split <;> simp_all

theorem ite_some_eq_none {α : Type} {p : Prop} [Decidable p] (a : Option α) (x : α) :
    (if p then a else some x) = none ↔ p ∧ a = none := by
  by_cases h : p <;> simp [h]

/-- A segment is in its place above the start `a` and within its bounds. -/
def SegmentFits (p : Params) (a : Nat) (t : Segment) : Prop :=
  a < t.start ∧ t.start < p.trackLen ∧ p.vcreep ≤ t.limit ∧ t.limit ≤ p.vmax

theorem badSegment_cons (p : Params) (n a : Nat) (x : Segment) (l : List Segment) :
    badSegment p n (some a) (x :: l) = none ↔ SegmentFits p a x ∧ badSegment p (n + 1) (some x.start) l = none := by
  simp only [badSegment, ite_some_eq_none, decide_eq_true_eq, SegmentFits]

/-- The profile from a segment on, with the start before it: each start above it, and every segment in its bounds. -/
theorem badSegment_iff (p : Params) (n a : Nat) (l : List Segment) :
    badSegment p n (some a) l = none ↔
      (∀ t ∈ l, a < t.start) ∧ l.Pairwise (fun t u => t.start < u.start) ∧
        ∀ t ∈ l, t.start < p.trackLen ∧ p.vcreep ≤ t.limit ∧ t.limit ≤ p.vmax := by
  induction l generalizing n a with
  | nil => simp [badSegment]
  | cons x l ih =>
    rw [badSegment_cons, ih]
    simp only [List.mem_cons, forall_eq_or_imp, List.pairwise_cons]
    constructor
    · rintro ⟨⟨ha, hx⟩, habove, hp, hb⟩
      exact ⟨⟨ha, fun t ht => ha.trans (habove t ht)⟩, ⟨habove, hp⟩, hx, hb⟩
    · rintro ⟨⟨ha, -⟩, ⟨habove, hp⟩, hx, hb⟩
      exact ⟨⟨ha, hx⟩, habove, hp, hb⟩

theorem commit2_iff : commit2 s = none ↔ CommitCheck s 2 := by
  unfold commit2 CommitCheck
  cases s.cfg.profile with
  | nil => simp
  | cons x l =>
    have hfirst : badSegment s.params 0 none (x :: l) = none ↔
        (x.start = 0 ∧ x.start < s.params.trackLen ∧ s.params.vcreep ≤ x.limit ∧ x.limit ≤ s.params.vmax) ∧
          badSegment s.params 1 (some x.start) l = none := by
      simp only [badSegment, ite_some_eq_none, decide_eq_true_eq]
    simp only [Option.map_eq_none_iff, hfirst, badSegment_iff, List.map_cons, List.head?_cons, Option.some.injEq,
      List.mem_cons, forall_eq_or_imp, List.pairwise_cons]
    tauto

theorem badMarker_cons (p : Params) (n : Nat) (a : Option Nat) (x : Nat) (l : List Nat) :
    badMarker p n a (x :: l) = none ↔
      ((∀ b ∈ a, b + (2 * p.mkTol + 1) ≤ x) ∧ x ≤ p.trackLen) ∧ badMarker p (n + 1) (some x) l = none := by
  cases a with
  | none => simp [badMarker, ite_some_eq_none]
  | some b => simp [badMarker, ite_some_eq_none, Nat.add_assoc]

/-- The markers from one on, with the marker before it: each spaced from it and from the next. -/
theorem badMarker_iff (p : Params) (n : Nat) (a : Option Nat) (l : List Nat) :
    badMarker p n a l = none ↔
      (∀ b ∈ a, ∀ x ∈ l, b + (2 * p.mkTol + 1) ≤ x) ∧
        l.Pairwise (fun x y => x + (2 * p.mkTol + 1) ≤ y) ∧ ∀ x ∈ l, x ≤ p.trackLen := by
  induction l generalizing n a with
  | nil => simp [badMarker]
  | cons x l ih =>
    rw [badMarker_cons, ih]
    simp only [Option.mem_some_iff, forall_eq', List.mem_cons, forall_eq_or_imp, List.pairwise_cons]
    constructor
    · rintro ⟨⟨ha, hx⟩, habove, hp, hb⟩
      exact ⟨fun b hb' => ⟨ha b hb', fun y hy => by have := ha b hb'; have := habove y hy; omega⟩, ⟨habove, hp⟩, hx, hb⟩
    · rintro ⟨ha, ⟨habove, hp⟩, hx, hb⟩
      exact ⟨⟨fun b hb' => (ha b hb').1, hx⟩, habove, hp, hb⟩

theorem commit3_iff : commit3 s = none ↔ CommitCheck s 3 := by
  simp only [commit3, CommitCheck, Option.map_eq_none_iff, badMarker_iff]
  simp [and_comm]

theorem commit4_iff : commit4 s = none ↔ CommitCheck s 4 := by
  simp only [commit4, CommitCheck, Option.map_eq_none_iff, List.find?_eq_none, decide_eq_true_eq, Bool.not_eq_false]
  refine forall₂_congr fun l _ => ?_
  simp only [laneFits, decide_eq_true_eq]
  constructor
  · rintro ⟨hg, hb, hm⟩
    refine ⟨hg, by simp [hb], fun h0 hmid => hm ⟨hg ▸ hmid, h0⟩⟩
  · rintro ⟨hg, hb, hm⟩
    refine ⟨hg, ?_, fun ⟨hmid, h0⟩ => hm h0 (hg.trans hmid)⟩
    exact Bool.eq_iff_iff.mpr (by simpa using hb)

theorem commit5_iff : commit5 s = none ↔ CommitCheck s 5 := by
  have hmargin : s.params.vmax + s.params.vmax * s.params.kSrv / 128 = withMargin s.params.vmax s.params.kSrv := rfl
  simp only [commit5, CommitCheck, hmargin]
  split
  next h => exact iff_of_false (by simp) fun ⟨h', _⟩ => by omega
  next h =>
    split
    next h => exact iff_of_false (by simp) fun ⟨_, h', h'', _⟩ => by omega
    next h =>
      split
      next h => exact iff_of_false (by simp) fun ⟨_, _, _, h'⟩ => by omega
      next h => exact iff_of_true rfl ⟨by omega, by omega, by omega, by omega⟩

theorem commit6_iff : commit6 s = none ↔ CommitCheck s 6 := by
  simp [commit6, CommitCheck]

theorem commit7_iff : commit7 s = none ↔ CommitCheck s 7 := by
  simp only [commit7, CommitCheck]
  split
  next h => exact iff_of_false (by simp) fun ⟨h', _⟩ => by omega
  next h =>
    split
    next h => exact iff_of_false (by simp) fun ⟨_, h'⟩ => by omega
    next h => exact iff_of_true rfl ⟨by omega, by omega⟩

theorem commit8_iff : commit8 s = none ↔ CommitCheck s 8 := by
  simp [commit8, CommitCheck]

/-- Each check of the list is the one of its number in the table. -/
theorem commitChecks_iff (c : Nat × (State → Option CommitItem)) (hc : c ∈ commitChecks) :
    c.2 s = none ↔ CommitCheck s c.1 := by
  simp only [commitChecks, List.mem_cons, List.not_mem_nil, or_false] at hc
  rcases hc with rfl | rfl | rfl | rfl | rfl | rfl | rfl | rfl | rfl
  · exact commit1_iff
  · exact commit2_iff
  · exact commit3_iff
  · exact commit4_iff
  · exact commit5_iff
  · exact commit6_iff
  · exact commit7_iff
  · exact commit8_iff
  · exact commit9_eq_none

theorem mem_commitChecks {n : Nat} (h1 : 1 ≤ n) (h9 : n ≤ 9) : ∃ c ∈ commitChecks, c.1 = n := by
  have hmem : n ∈ commitChecks.map (·.1) := by
    simp only [commitChecks, List.map_cons, List.map_nil, List.mem_cons, List.not_mem_nil, or_false]
    omega
  simpa using hmem

theorem commitChecks_sorted : commitChecks.Pairwise fun c d => c.1 < d.1 := by
  simp [commitChecks]

theorem commitChecks_range {c : Nat × (State → Option CommitItem)} (hc : c ∈ commitChecks) : 1 ≤ c.1 ∧ c.1 ≤ 9 := by
  have hmem : c.1 ∈ commitChecks.map (·.1) := List.mem_map_of_mem hc
  simp only [commitChecks, List.map_cons, List.map_nil, List.mem_cons, List.not_mem_nil, or_false] at hmem
  omega

/-- The store passes where every check does (R16). -/
theorem commitFailure_none_iff : commitFailure s = none ↔ ∀ n, 1 ≤ n → n ≤ 9 → CommitCheck s n := by
  simp only [commitFailure, List.findSome?_eq_none_iff, Option.map_eq_none_iff]
  constructor
  · intro h n h1 h9
    obtain ⟨c, hc, rfl⟩ := mem_commitChecks h1 h9
    exact (commitChecks_iff c hc).mp (h c hc)
  · intro h c hc
    obtain ⟨h1, h9⟩ := commitChecks_range hc
    exact (commitChecks_iff c hc).mpr (h c.1 h1 h9)

/-- Where one fails, the number given is that of the first (R16). -/
theorem commitFailure_some {n : Nat} {item : CommitItem} (h : commitFailure s = some (n, item)) :
    1 ≤ n ∧ n ≤ 9 ∧ ¬ CommitCheck s n ∧ ∀ m, 1 ≤ m → m < n → CommitCheck s m := by
  obtain ⟨before, c, after, hlist, hc, hbefore⟩ := List.findSome?_eq_some_iff.mp h
  have hmem : c ∈ commitChecks := by rw [hlist]; simp
  obtain ⟨i, hi, he⟩ := Option.map_eq_some_iff.mp hc
  obtain ⟨rfl, rfl⟩ := Prod.mk.injEq .. ▸ he
  obtain ⟨h1, h9⟩ := commitChecks_range hmem
  refine ⟨h1, h9, fun hcheck => ?_, fun m hm hlt => ?_⟩
  · have hnone := (commitChecks_iff c hmem).mpr hcheck
    simp [hnone] at hi
  · obtain ⟨d, hd, rfl⟩ := mem_commitChecks hm (by omega)
    have hsorted := commitChecks_sorted
    rw [hlist, List.pairwise_append, List.pairwise_cons] at hsorted
    obtain ⟨-, ⟨hafter, -⟩, -⟩ := hsorted
    have hd' := hd
    rw [hlist, List.mem_append, List.mem_cons] at hd
    rcases hd with hd | rfl | hd
    · refine (commitChecks_iff d hd').mp ?_
      simpa using hbefore d hd
    · omega
    · have := hafter d hd; omega

/-! ## COMMIT and the reads -/

theorem exec_commit_accepted (hreset : s.pins.resetLow = false) (hline : s.lsu.line = .closed) (h : commitFailure s = none) :
    ∃ t, exec (.commit .con (.fields ())) s = .next t ∧ Replied .commit .con .ok (.cfg .nothing true) t ∧
      t.cfg = { s.cfg with committed := true } ∧ KeepsBut [.cfg] s t := by
  have ha : takeCommit () s =
      accept (.cfg .nothing true) (s.onCfg fun c => { c with committed := true }) := by
    simp only [takeCommit, cfgWrite_closed hline, h]
    rfl
  refine ⟨_, request_fields takeCommit ⟨hreset, rfl⟩ (), ?_, ?_, ?_⟩
  · rw [replied_replyTo_iff, ha]
    exact ⟨rfl, rfl⟩
  · simp [ha]
  · simp [ha, keepsBut_iff]

theorem exec_commit_refused {n : Nat} {item : CommitItem} (hreset : s.pins.resetLow = false) (hline : s.lsu.line = .closed)
    (h : commitFailure s = some (n, item)) :
    ∃ t, exec (.commit .con (.fields ())) s = .next t ∧
      Replied .commit .con (.refused .badValue) (.cfg (.failed n item) false) t ∧
      t.cfg = { s.cfg with committed := false } ∧ KeepsBut [.cfg] s t := by
  have ha : takeCommit () s = refuse .badValue (.cfg (.failed n item) false) (uncommit s) := by
    simp only [takeCommit, cfgWrite_closed hline, h]
    rfl
  refine ⟨_, request_fields takeCommit ⟨hreset, rfl⟩ (), ?_, ?_, ?_⟩
  · rw [replied_replyTo_iff, ha]
    exact ⟨rfl, rfl⟩
  · simp [ha, uncommit]
  · simp [ha, keepsBut_iff]

/-- A read that is answered (R15): the reply carries the committed mark, and nothing changes. -/
theorem read_accepted {α : Type} {r : Request} {st : Station} {f : α} {body : α → State → Answer} {d : CfgData}
    (h : Heard r st s) (ha : body f s = accept (cfgReply d s) s) :
    ∃ t, request r st (.fields f) body s = .next t ∧ Replied r st .ok (.cfg d s.cfg.committed) t ∧ KeepsBut [] s t :=
  request_refused body h f ha

theorem read_entry {st : Station} {e : EntryRef} {entry : TableEntry} {held : Nat} (hreset : s.pins.resetLow = false)
    (h : entryAt s e = some (entry, held)) :
    ∃ t, exec (.readEntry st (.fields e)) s = .next t ∧
      Replied .readEntry st .ok (.cfg (.entry entry held) s.cfg.committed) t ∧ KeepsBut [] s t :=
  read_accepted ⟨hreset, rfl⟩ (by simp [takeReadEntry, h])

/-- Settles O19: COMMIT by whether a check fails, the checks against the table, and the reads by what they name. -/
theorem commitAndReads : Obligations.CommitAndReads := by
  refine ⟨⟨fun s hreset hline h => exec_commit_accepted hreset hline h,
    fun n item s hreset hline h => exec_commit_refused hreset hline h,
    fun s => ⟨commitFailure_none_iff, fun n item h => commitFailure_some h⟩⟩, fun st s hreset => ⟨fun p => ?_, fun pf => ?_,
    fun code => ?_, fun n seg h => ?_, fun n x h => ?_, fun r l h => ?_, fun e h => ?_⟩⟩
  · exact read_accepted ⟨hreset, rfl⟩ rfl
  · exact read_accepted ⟨hreset, rfl⟩ rfl
  · exact write_denied ⟨hreset, rfl⟩ rfl
  · exact read_entry hreset (by simp [entryAt, h])
  · exact read_entry hreset (by simp [entryAt, h])
  · exact read_entry hreset (by simp [entryAt, h])
  · exact write_denied ⟨hreset, rfl⟩ (by simp [takeReadEntry, h])

end Sys2Proof.Machine
end

section
/-! Notices handed to the masters (R166, R167): a kind handed stays so while others are handed. -/

namespace Sys2Proof.Machine

variable {s t u : State} {K : List NoticeKind} {k : NoticeKind} {d : NoticeDetail} {st : Station}

/-- A notice handed stays so while other kinds are. -/
theorem Handed.told (h : Handed k d st s t) (ht : Told K t u) (hk : k ∉ K) : Handed k d st s u :=
  ⟨(ht st).stays k h.1, fun hp => ((ht st).others _ hk).mpr (h.2 hp)⟩

/-- A kind that has not been handed yet is handed as from the state before. -/
theorem Handed.after (ht : Told K s t) (h : Handed k d st t u) (hk : k ∉ K) : Handed k d st s u := by
  refine ⟨h.1, fun hp => h.2 ?_⟩
  rw [Bool.eq_false_iff, Ne, isPending_iff, List.mem_map] at hp ⊢
  rintro ⟨n, hn, rfl⟩
  exact hp ⟨n, ((ht st).others n hk).mp hn, rfl⟩

/-- Only the notices decide whether one has been handed. -/
theorem Handed.congr {s' t' : State} (h : Handed k d st s t) (hs : s'.niu.notices = s.niu.notices)
    (ht : t'.niu.notices = t.niu.notices) : Handed k d st s' t' := by
  unfold Handed at *
  rwa [hs, ht]

theorem handed_handTo (k : NoticeKind) (d : NoticeDetail) (st : Station) (s : State) :
    Handed k d st s (handTo k d st s) := by
  refine ⟨by simp, fun hp => ?_⟩
  simp [handTo, joinPending, hp]

theorem handTo_notices_other (k : NoticeKind) (d : NoticeDetail) {x : Station} (h : x ≠ st) (s : State) :
    (handTo k d st s).niu.notices.get x = s.niu.notices.get x := by
  simp [handTo, PerStation.get_set_other _ _ h]

theorem hand_notices_other (k : NoticeKind) (d : NoticeDetail) {sts : List Station} (h : st ∉ sts) (s : State) :
    (hand k d sts s).niu.notices.get st = s.niu.notices.get st := by
  induction sts generalizing s with
  | nil => rfl
  | cons x sts ih =>
    obtain ⟨hx, hsts⟩ := not_or.mp (List.mem_cons.not.mp h)
    exact (ih hsts _).trans (handTo_notices_other k d hx s)

/-- A notice is handed to each of a list of masters. -/
theorem handed_hand (k : NoticeKind) (d : NoticeDetail) {sts : List Station} (hn : sts.Nodup) (h : st ∈ sts)
    (s : State) : Handed k d st s (hand k d sts s) := by
  induction sts generalizing s with
  | nil => cases h
  | cons x sts ih =>
    obtain ⟨hx, hsts⟩ := List.nodup_cons.mp hn
    change Handed k d st s (hand k d sts (handTo k d x s))
    rcases List.mem_cons.mp h with rfl | hm
    · unfold Handed
      rw [hand_notices_other k d hx]
      exact handed_handTo k d _ s
    · have hne : st ≠ x := by rintro rfl; exact hx hm
      have := ih hsts hm (handTo k d x s)
      unfold Handed at this ⊢
      rwa [handTo_notices_other k d hne] at this

theorem handed_handAll (k : NoticeKind) (d : NoticeDetail) (st : Station) (s : State) :
    Handed k d st s (handAll k d s) :=
  handed_hand k d (by decide) (by cases st <;> decide) s

theorem handedOwner_handOwner (k : NoticeKind) (d : NoticeDetail) (s : State) : HandedOwner k d s (handOwner k d s) := by
  intro o ho
  exact handed_hand k d (by simp [ho]) (by simp [ho]) s

/-! ## Incidents -/

theorem dropOldestAcked_eq (l : List Incident) :
    dropOldestAcked l = if l.any (·.acked) = true then some (l.eraseP (·.acked)) else none := by
  induction l with
  | nil => rfl
  | cons i rest ih =>
    cases hi : i.acked
    · simp only [dropOldestAcked, hi, ih, List.any_cons, Bool.false_or, List.eraseP_cons_of_neg, Bool.false_eq_true,
        if_false, not_false_eq_true]
      split <;> rfl
    · simp [dropOldestAcked, hi]

/-- A captured incident stays so while other kinds are told. -/
theorem Captured.told {c : Cause} {stage : Stage} (h : Captured c stage s t) (ht : Told K t u)
    (hi : u.niu.incidents = t.niu.incidents) (ho : u.niu.overflow = t.niu.overflow) (hs : u.niu.seq = t.niu.seq)
    (hK : ∀ k ∈ captureKinds, k ∉ K) : Captured c stage s u := by
  unfold Captured at h ⊢
  dsimp only at h ⊢
  rw [hi, ho, hs]
  split at h
  next hp =>
    obtain ⟨hl, hq, hf, hh⟩ := h
    rw [if_pos hp]
    exact ⟨hl, hq, hf, hh.told ht (hK _ (by simp [captureKinds]))⟩
  next hp =>
    obtain ⟨hl, hq, hf, hh⟩ := h
    rw [if_neg hp]
    exact ⟨hl, hq, hf, hh.told ht (hK _ (by simp [captureKinds]))⟩

/-- The record of a capture shows the brakes as they stand and the rest as it was (R171). -/
theorem incidentOf_onBrs (c : Cause) (f : Brs → Brs) (s : State) :
    incidentOf (.cause c) (s.onBrs f) =
      { seq := s.niu.seq, cause := .cause c, stage := (f s.brs).stage, tripNumber := s.trc.trip.number
        tripState := s.trc.state, p := pos s, v := s.psu.vEval, c := s.clc.c
        aboardA := if s.trc.state = .settle ∨ isMoving s.trc.state then s.trc.frozen.a else s.adm.loads.a.aboard
        aboardB := if s.trc.state = .settle ∨ isMoving s.trc.state then s.trc.frozen.b else s.adm.loads.b.aboard
        read := false, acked := false } := by
  by_cases h : s.trc.state = .settle ∨ isMoving s.trc.state = true <;> simp [incidentOf, incidentAboard, h] <;> rfl

/-- A capture appends the record of the cause, or counts the overflow (R171, R172). -/
theorem captured_capture (c : Cause) (f : Brs → Brs) (s : State) :
    Captured c (f s.brs).stage s (capture (.cause c) (s.onBrs f)) := by
  have hhand (k : NoticeKind) (d : NoticeDetail) (u : State) (hu : u.niu.notices = s.niu.notices) :
      Handed k d .con s (hand k d [.con] u) :=
    (handed_hand k d (by decide) (by decide) u).congr hu.symm rfl
  unfold Captured capture
  by_cases hlen : s.niu.incidents.length < 16
  · simp [hlen, Config.incidentMax, placeIncident, incidentOf_onBrs, Config.wrap16]
    exact hhand _ _ _ (by simp)
  · by_cases hack : s.niu.incidents.any (·.acked) = true
    · simp [hlen, Config.incidentMax, hack, dropOldestAcked_eq, placeIncident, incidentOf_onBrs, Config.wrap16]
      exact hhand _ _ _ (by simp)
    · simp [hlen, Config.incidentMax, hack, dropOldestAcked_eq, satAdd, Config.count255]
      exact hhand _ _ _ (by simp)

end Sys2Proof.Machine
end

section
/-! A cause raised (O22): what it leaves in the set, of the outputs and the trip, of the incidents and to the masters. -/

namespace Sys2Proof.Machine

variable {s t u : State} {c : Cause} {d : Detail}

/-! ## The two ways of a new cause -/

theorem raiseCause_rise (hc : hasCause s c = false) (hr : s.brs.stage.rank < c.stage.rank) (d : Detail) :
    raiseCause c d s = tripOnRise (risen c d s) := by
  rw [raiseCause_eq, if_neg (by simp [hc]), if_pos hr, stageRise_eq]

theorem raiseCause_flat (hc : hasCause s c = false) (hr : ¬ s.brs.stage.rank < c.stage.rank) (d : Detail) :
    raiseCause c d s = causeAdded c d s := by
  rw [raiseCause_eq, if_neg (by simp [hc]), if_neg hr]

theorem raiseCause_causes (hc : hasCause s c = false) (d : Detail) :
    (raiseCause c d s).brs.causes = s.brs.causes ++ [⟨c, d⟩] := by
  by_cases hr : s.brs.stage.rank < c.stage.rank
  · simp [raiseCause_rise hc hr]
  · simp [raiseCause_flat hc hr, addCause]

/-! ## What is told (R62, R171, R172) -/

theorem captured_causeAdded (c : Cause) (d : Detail) (s : State) :
    Captured c (addCause c d s.brs).stage s (causeAdded c d s) := by
  refine (captured_capture c (addCause c d) s).told (told_noticeOfCause _ c d _) ?_ ?_ ?_ (by decide) <;>
    simp [causeAdded]

theorem captured_raiseCause (hc : hasCause s c = false) (d : Detail) :
    Captured c (raiseCause c d s).brs.stage s (raiseCause c d s) := by
  by_cases hr : s.brs.stage.rank < c.stage.rank
  · rw [raiseCause_rise hc hr]
    have hrisen : Captured c (addCause c d s.brs).stage s (risen c d s) :=
      (captured_causeAdded c d s).told (.of_same (K := []) (by simp [risen, causeTimed])) (by simp [risen, causeTimed])
        (by simp [risen, causeTimed]) (by simp [risen, causeTimed]) (by decide)
    simpa using hrisen.told (told_tripOnRise _) (by simp) (by simp) (by simp) (by decide)
  · rw [raiseCause_flat hc hr]
    simpa using captured_causeAdded c d s

/-- What a cause tells of itself is handed as from before its capture. -/
theorem handed_causeAdded {k : NoticeKind} {nd : NoticeDetail} {st : Station} (hk : k ∉ captureKinds)
    (h : ∀ v : State, v.brs = addCause c d s.brs →
      Handed k nd st v (noticeOfCause (s.brs.stage.rank < c.stage.rank) c d v)) :
    Handed k nd st s (causeAdded c d s) := by
  have hcap : Told captureKinds s (capture (.cause c) (s.onBrs (addCause c d))) :=
    (Told.of_same (by simp)).trans (told_capture (.cause c) _)
  exact (h _ (by simp)).after hcap hk

/-- At a rise SERVICE_BRAKE or EMERGENCY_BRAKE is pending for every master (R62). -/
theorem handed_rise (hc : hasCause s c = false) (hr : s.brs.stage.rank < c.stage.rank) (d : Detail) (st : Station) :
    Handed (if c.stage = .emergency then .emergencyBrake else .serviceBrake) (.cause c) st s (raiseCause c d s) := by
  have hadd : Handed (if c.stage = .emergency then .emergencyBrake else .serviceBrake) (.cause c) st s
      (causeAdded c d s) := by
    refine handed_causeAdded (by split <;> decide) fun v hv => ?_
    simpa [noticeOfCause, hr, hv, addCause] using handed_handAll _ _ st v
  rw [raiseCause_rise hc hr]
  refine (hadd.told (.of_same (K := []) ?_) (by simp)).told (told_tripOnRise (risen c d s)) (by split <;> decide)
  simp [risen, causeTimed]

/-- Without a rise FAULT is pending for DRV and CON (R62). -/
theorem handed_fault (hc : hasCause s c = false) (hr : ¬ s.brs.stage.rank < c.stage.rank) (d : Detail) {st : Station}
    (hst : st ∈ [Station.drv, .con]) : Handed .fault (.fault c d) st s (raiseCause c d s) := by
  rw [raiseCause_flat hc hr]
  refine handed_causeAdded (by decide) fun v _ => ?_
  simpa [noticeOfCause, hr] using handed_hand _ _ (by decide) hst v

/-! ## The brakes at a rise (R64, R74) -/

/-- The outputs under a stage: no drive permit, no service hold-off, the emergency hold-off where it stood under SERVICE. -/
theorem wantedOutputs_staged (h : s.brs.stage ≠ .none) :
    wantedOutputs s = ⟨false, false, s.brs.ebHoldoff && decide (s.brs.stage = .service)⟩ := by
  unfold wantedOutputs outputsWith
  split <;> simp_all

/-- Under a stage a change of the trip state sets outputs that already stand so again to the same. -/
theorem setTripState_outputs_staged (h : s.brs.stage ≠ .none) (new : TripState) :
    (setTripState new s).brs.drivePermit = false ∧ (setTripState new s).brs.sbHoldoff = false ∧
      (setTripState new s).brs.ebHoldoff = (s.brs.ebHoldoff && decide (s.brs.stage = .service)) := by
  rw [setTripState_brs, brsOnTrip, updateOutputs_drivePermit, updateOutputs_sbHoldoff, updateOutputs_ebHoldoff,
    wantedOutputs_staged]
  · simp
  · simpa using h

/-- The brake outputs are those of a stage standing. -/
def StagedOutputs (eb : Bool) (s : State) : Prop :=
  s.brs.stage ≠ .none ∧ s.brs.drivePermit = false ∧ s.brs.sbHoldoff = false ∧
    s.brs.ebHoldoff = (eb && decide (s.brs.stage = .service))

theorem StagedOutputs.setTripState {eb : Bool} (h : StagedOutputs eb s) (new : TripState) :
    StagedOutputs eb (setTripState new s) := by
  obtain ⟨hstage, -, -, heb⟩ := h
  obtain ⟨hdp, hsb, heb'⟩ := setTripState_outputs_staged hstage new
  refine ⟨by simpa using hstage, hdp, hsb, heb'.trans ?_⟩
  simp [heb]

theorem StagedOutputs.same {eb : Bool} (h : StagedOutputs eb s) (ht : t.brs = s.brs) : StagedOutputs eb t := by
  unfold StagedOutputs at *
  rwa [ht]

theorem setTripState_onTrip_brs (f : TripRecord → TripRecord) (new : TripState) :
    (setTripState new (s.onTrip f)).brs = (setTripState new s).brs := by
  rw [setTripState_brs, setTripState_brs]
  rfl

/-- An abort sets the brakes as the state it returns to does. -/
theorem abortTrip_brs (cause : AbortCause) : (abortTrip cause s).brs = (setTripState (abortState s) s).brs := by
  unfold abortTrip abortState
  dsimp only
  cases ho : s.trc.trip.origin <;> simp [ho, resumedDwell, zeroMismatch, setTripState_onTrip_brs]

theorem StagedOutputs.abortTrip {eb : Bool} (h : StagedOutputs eb s) (cause : AbortCause) :
    StagedOutputs eb (abortTrip cause s) :=
  (h.setTripState _).same (abortTrip_brs cause)

theorem StagedOutputs.tripOnRise {eb : Bool} (h : StagedOutputs eb s) : StagedOutputs eb (tripOnRise s) := by
  unfold Machine.tripOnRise
  split
  next => exact (h.abortTrip .brake).same (by simp)
  next => exact (h.abortTrip .brake).same (by simp)
  next => exact (h.abortTrip .brake).same (by simp)
  next => exact h.setTripState _
  next => exact h.setTripState _
  next => exact h.setTripState _
  next => exact h

theorem stage_ne_none_of_rise {c : Cause} (hr : s.brs.stage.rank < c.stage.rank) : c.stage ≠ .none := by
  intro h
  simp [h, Stage.rank] at hr

theorem stagedOutputs_risen (hr : s.brs.stage.rank < c.stage.rank) (d : Detail) :
    StagedOutputs s.brs.ebHoldoff (risen c d s) := by
  have hstage : (causeTimed c d s).brs.stage = c.stage := by simp [causeTimed, addCause, hr]
  have hne : (causeTimed c d s).brs.stage ≠ .none := hstage ▸ stage_ne_none_of_rise hr
  have hout : StagedOutputs s.brs.ebHoldoff (updateOutputs (causeTimed c d s)) := by
    refine ⟨by simpa using hne, ?_, ?_, ?_⟩
    · rw [updateOutputs_drivePermit, wantedOutputs_staged hne]
    · rw [updateOutputs_sbHoldoff, wantedOutputs_staged hne]
    · rw [updateOutputs_ebHoldoff, wantedOutputs_staged hne]
      simp [causeTimed, addCause]
  exact hout.same (by simp [risen])

/-- At a rise the drive permit and the service hold-off go off, and the emergency hold-off with EMERGENCY (R62, R64). -/
theorem raiseCause_outputs (hc : hasCause s c = false) (hr : s.brs.stage.rank < c.stage.rank) (d : Detail) :
    (raiseCause c d s).brs.drivePermit = false ∧ (raiseCause c d s).brs.sbHoldoff = false ∧
      (raiseCause c d s).brs.ebHoldoff = (s.brs.ebHoldoff && decide (c.stage = .service)) := by
  obtain ⟨-, hdp, hsb, heb⟩ := (stagedOutputs_risen hr d).tripOnRise
  rw [raiseCause_rise hc hr]
  refine ⟨hdp, hsb, heb.trans ?_⟩
  simp [addCause, hr]

/-- The effectiveness monitor at a rise (R74, R75). -/
theorem raiseCause_effectiveness (hc : hasCause s c = false) (hr : s.brs.stage.rank < c.stage.rank) (d : Detail) :
    (raiseCause c d s).brs.effectiveness = effectivenessOnRise s.brs.stage (causeAdded c d s) := by
  rw [raiseCause_rise hc hr]
  simp [risen, causeTimed]

theorem effectivenessOnRise_emergency (old : Stage) (h : t.brs.stage = .emergency) :
    effectivenessOnRise old t = none := by
  simp [effectivenessOnRise, h]

theorem effectivenessOnRise_service (h : t.brs.stage = .service) :
    effectivenessOnRise .none t = if t.psu.still then t.brs.effectiveness else some ⟨t.psu.vEval, t.now⟩ := by
  cases hs : t.psu.still <;> simp [effectivenessOnRise, h, hs]

/-- A rise to SERVICE is from no stage. -/
theorem none_of_rise_service (hs : c.stage = .service) (hr : s.brs.stage.rank < c.stage.rank) :
    s.brs.stage = .none := by
  cases h : s.brs.stage <;> simp [h, hs, Stage.rank] at hr ⊢

/-- What a rise leaves of the part (R62, R119, R103, R104). -/
theorem raiseCause_rises (hc : hasCause s c = false) (hr : s.brs.stage.rank < c.stage.rank) (d : Detail) :
    (raiseCause c d s).brs.drivePermit = false ∧ (raiseCause c d s).brs.sbHoldoff = false ∧
      (raiseCause c d s).brs.ebHoldoff = (s.brs.ebHoldoff && decide (c.stage = .service)) ∧
      (c.stage = .emergency → (raiseCause c d s).brs.effectiveness = none) ∧
      (c.stage = .service → (raiseCause c d s).brs.effectiveness =
        if s.psu.still then s.brs.effectiveness else some { v0 := s.psu.vEval, t0 := s.now }) ∧
      (raiseCause c d s).dri.evac = ⟨false, false⟩ ∧
      (raiseCause c d s).dri.maint = ⟨⟨false, false⟩, ⟨false, false⟩⟩ ∧
      (raiseCause c d s).trc.state = riseState s ∧
      KeepsBut [.psu, .clc, .brs, .trc, .dri, .adm, .notices, .incidents] s (raiseCause c d s) := by
  obtain ⟨hdp, hsb, heb⟩ := raiseCause_outputs hc hr d
  have hstage : (causeAdded c d s).brs.stage = c.stage := by simp [addCause, hr]
  refine ⟨hdp, hsb, heb, fun he => ?_, fun hs => ?_, ?_, ?_, ?_, by simp [keepsBut_iff]⟩
  · rw [raiseCause_effectiveness hc hr, effectivenessOnRise_emergency _ (hstage.trans he)]
  · rw [raiseCause_effectiveness hc hr, none_of_rise_service hs hr, effectivenessOnRise_service (hstage.trans hs)]
    simp [addCause]
  · rw [raiseCause_rise hc hr]
    simp [risen, withdrawReleases]
  · rw [raiseCause_rise hc hr]
    simp [risen, withdrawReleases]
  · rw [raiseCause_rise hc hr, tripOnRise_state]
    simp [riseState, abortState]

/-- Settles O22. -/
theorem raiseCauseRule : Obligations.RaiseCauseRule := by
  unfold Obligations.RaiseCauseRule
  refine fun c d s => ⟨fun hc => by simp [raiseCause, hc], fun hc => ?_⟩
  refine ⟨raiseCause_causes hc d, by simp [raiseCause_stage, hc], captured_raiseCause hc d,
    fun hr => handed_rise hc hr d, fun hr => ⟨handed_fault hc hr d (by simp), handed_fault hc hr d (by simp)⟩,
    fun hr => raiseCause_rises hc hr d, fun hr => ?_⟩
  rw [raiseCause_flat hc hr]
  exact ⟨by simp [addCause, hr], by simp [keepsBut_iff, causeAdded]⟩

end Sys2Proof.Machine
end

section
/-! Requests of one branch each: stop requests (O23), refresh and speed limit (O21), standing modes (O32), the reference
and the protection setting (O45), the encoder (O47). -/

namespace Sys2Proof.Machine

variable {s t u : State}

/-! ## A request answered -/

/-- A request that is heard leaves what its answer says. -/
theorem request_answer {α : Type} {r : Request} {st : Station} {f : α} {body : α → State → Answer} {status : Status}
    {data : ReplyData} (h : Heard r st s) (ha : body f s = ⟨u, status, data⟩) :
    request r st (.fields f) body s = .next (replyTo r st s ⟨u, status, data⟩) := by
  rw [request_fields body h f, ha]

/-- An event leaves what it does. -/
theorem event_acts {i : Instr} {f : State → State} (hexec : exec i s = event f s) (hreset : s.pins.resetLow = false)
    (hf : f s = u) : exec i s = .next (finish s u) := by
  rw [hexec, event_run f hreset, hf]

/-- A timed event that nothing has overtaken leaves what it does. -/
theorem timed_acts {i : Instr} {f : State → State} (hexec : exec i s = timedEvent i f s)
    (hreset : s.pins.resetLow = false) (ho : isOvertaken s i = false) (hf : f s = u) :
    exec i s = .next (takenUp i (finish s u)) := by
  rw [hexec, timedEvent_run f hreset ho, hf]

/-- A timed event that another command has overtaken, or that finds its timer stopped, leaves the part as it is. -/
theorem timed_idle {i : Instr} {f : State → State} (hexec : exec i s = timedEvent i f s)
    (hreset : s.pins.resetLow = false) (hf : isOvertaken s i = false → f s = s) :
    exec i s = .next (takenUp i (finish s s)) := by
  rw [hexec]
  by_cases ho : isOvertaken s i = true
  · exact timedEvent_overtaken f hreset ho
  · rw [timedEvent_run f hreset (by simpa using ho), hf (by simpa using ho)]

/-- P hangs on the reference position, the counts, K_ENC and TRACK_LEN. -/
theorem pos_congr (hcfg : t.cfg = s.cfg) (hpsu : t.psu = s.psu) : pos t = pos s := by
  simp [pos, State.params, hcfg, hpsu]

/-! ## STOP and ESTOP (O23) -/

theorem takeStop_eq (c : Cause) (st : Station) (s : State) :
    takeStop c st s =
      ⟨raiseCause c (.asker (.station st)) s, .ok, .stage (raiseCause c (.asker (.station st)) s).brs.stage⟩ := rfl

theorem takeStop_known {c : Cause} (st : Station) (hc : hasCause s c = true) :
    takeStop c st s = ⟨s, .ok, .stage s.brs.stage⟩ := by
  simp [takeStop, raiseCause, hc, accept]

theorem keepsBut_raiseCause (c : Cause) (d : Detail) :
    KeepsBut [.psu, .clc, .brs, .trc, .dri, .adm, .notices, .incidents] s (raiseCause c d s) := by
  simp [keepsBut_iff]

theorem stage_service_of_rise (s : State) :
    (if s.brs.stage.rank < Stage.service.rank then Stage.service else s.brs.stage) =
      if s.brs.stage = .none then .service else s.brs.stage := by
  cases s.brs.stage <;> rfl

/-- No stage is above EMERGENCY. -/
theorem stage_emergency_of_rise (s : State) :
    (if s.brs.stage.rank < Stage.emergency.rank then Stage.emergency else s.brs.stage) = .emergency := by
  cases s.brs.stage <;> rfl

/-- Settles O23: a stop request is its cause raised. -/
theorem stopRequestsRaise : Obligations.StopRequestsRaise := by
  unfold Obligations.StopRequestsRaise
  refine ⟨fun st s hh hc => ?stop, fun s hreset hc => ?estop, fun st s hh hc => ?stopKnown, fun s hreset hc => ?estopKnown⟩
  case stop =>
    refine ⟨_, request_answer hh (takeStop_eq _ _ _), by simp, by simpa using raiseCause_causes hc _, ?_,
      by simpa using keepsBut_raiseCause _ _⟩
    rw [← stage_service_of_rise]
    simp [raiseCause_stage, hc, Cause.stage]
  case estop =>
    have hstage : (raiseCause .estopRequest (.asker (.station .con)) s).brs.stage = .emergency := by
      rw [← stage_emergency_of_rise s]
      simp [raiseCause_stage, hc, Cause.stage]
    exact ⟨_, request_answer ⟨hreset, rfl⟩ (takeStop_eq _ _ _), by simp [hstage], by simpa using raiseCause_causes hc _,
      by simpa using hstage, by simpa using keepsBut_raiseCause _ _⟩
  case stopKnown => exact request_refused (fun _ => takeStop .stopRequest st) hh () (takeStop_known st hc)
  case estopKnown => exact request_refused (fun _ => takeStop .estopRequest .con) ⟨hreset, rfl⟩ () (takeStop_known .con hc)

/-! ## RUN REFRESH and SET LIMIT (O21) -/

/-- The brakes once a refresh is taken (R68, R69). -/
def refreshed (s : State) : State :=
  s.onBrs fun b =>
    { b with
      lastRefresh := some s.now
      refreshTimer := if isPowered s.trc.state then some ⟨s.now, s.now + s.params.tDrv⟩ else b.refreshTimer }

theorem takeRunRefresh_eq (s : State) : takeRunRefresh () s = ⟨refreshed s, .ok, .nothing⟩ := rfl

theorem takeSetLimit_eq (v : Int) (s : State) :
    takeSetLimit v s =
      ⟨s.onClc fun k => { k with vdrv := some (clampNat s.params.vcreep s.params.vmax v) },
        if (clampNat s.params.vcreep s.params.vmax v : Int) = v then .ok else .clamped,
        .speed (clampNat s.params.vcreep s.params.vmax v)⟩ := rfl

theorem execRunRefresh_eq (hreset : s.pins.resetLow = false) :
    exec (.runRefresh .drv (.fields ())) s = .next (replyTo .runRefresh .drv s ⟨refreshed s, .ok, .nothing⟩) :=
  request_answer (r := .runRefresh) ⟨hreset, rfl⟩ (takeRunRefresh_eq s)

theorem driveRefresh_run {tm : Timer} (hreset : s.pins.resetLow = false)
    (ho : isOvertaken s .driveRefreshTimerExpiry = false) (htm : s.brs.refreshTimer = some tm) :
    exec .driveRefreshTimerExpiry s =
      .next (takenUp .driveRefreshTimerExpiry (finish s (driveSilent (advanceTo tm.due s)))) :=
  timed_acts (rfl : execDriveRefreshTimerExpiry s = _) hreset ho (by simp [htm])

/-- The expiry that a refresh of the same moment has overtaken (R69, log 47). -/
theorem driveRefresh_overtaken {tm : Timer} (hp : isPowered s.trc.state = true) (htm : s.brs.refreshTimer = some tm)
    (hdue : tm.due ≤ s.now) (hT : 0 < s.params.tDrv) :
    isOvertaken (replyTo .runRefresh .drv s ⟨refreshed s, .ok, .nothing⟩) .driveRefreshTimerExpiry = true := by
  have hmem : (⟨.driveRefreshTimerExpiry, s.now⟩ : Overtaken) ∈
      (markOvertaken s (markChanged s (latchAll (refreshed s)))).overtaken := by
    rw [mem_markOvertaken]
    refine .inr ⟨rfl, mem_dueTimed.mpr (.inr (.inl ⟨?_, rfl⟩)), ?_⟩
    · simpa [TimerDue, htm] using hdue
    · have htimer : (markChanged s (latchAll (refreshed s))).brs.refreshTimer =
          some ⟨s.now, s.now + s.params.tDrv⟩ := by
        simp [refreshed, hp, markChanged, latchAll]
      have hnow : (markChanged s (latchAll (refreshed s))).now = s.now := rfl
      simp only [mem_dueTimed, TimerDue, htimer, hnow]
      simp
      omega
  have hcontains := List.elem_eq_true_of_mem hmem
  exact hcontains

/-- With no stage standing, DRIVE_SILENT takes a moving trip to BRAKING and leaves the refresh timer stopped. -/
theorem driveSilent_braking {tm : Timer} (hp : isPowered s.trc.state = true) (hn : s.brs.stage = .none)
    (hc : hasCause s .driveSilent = false) :
    (driveSilent (advanceTo tm.due s)).trc.state = .braking ∧
      (driveSilent (advanceTo tm.due s)).brs.refreshTimer = none := by
  have hrise : (advanceTo tm.due s |>.onBrs fun b => { b with refreshTimer := none }).brs.stage.rank <
      Cause.driveSilent.stage.rank := by
    simp [hn, Cause.stage, Stage.rank]
  have hnew : hasCause (advanceTo tm.due s |>.onBrs fun b => { b with refreshTimer := none }) .driveSilent = false := by
    simpa [hasCause] using hc
  unfold driveSilent
  rw [raiseCause_rise hnew hrise]
  refine ⟨?_, ?_⟩
  · rw [tripOnRise_state]
    cases hts : s.trc.state <;> simp_all [riseState, isPowered]
  · unfold tripOnRise
    cases hts : s.trc.state <;> simp_all [isPowered]

/-- Settles O21. -/
theorem runRefreshAndSetLimit : Obligations.RunRefreshAndSetLimit := by
  unfold Obligations.RunRefreshAndSetLimit
  refine ⟨fun s hreset => ?refresh, fun v s hreset => ?limit,
    fun tm s hreset hp hn htm hdue hT hc => ⟨?refreshFirst, fun ho => ?expiryFirst⟩⟩
  case refresh =>
    exact ⟨_, execRunRefresh_eq hreset, by simp, by simp [refreshed], by simp [keepsBut_iff, refreshed]⟩
  case limit =>
    exact ⟨_, request_answer (r := .setLimit) ⟨hreset, rfl⟩ (takeSetLimit_eq v s), by simp, by simp,
      by simp [keepsBut_iff]⟩
  case refreshFirst =>
    refine ⟨_, _, execRunRefresh_eq hreset,
      timed_idle (rfl : execDriveRefreshTimerExpiry _ = _) (by simpa [refreshed] using hreset) fun ho => ?_, ?_, ?_⟩
    · simp [driveRefresh_overtaken hp htm hdue hT] at ho
    · simp [refreshed, hp]
    · simp [keepsBut_iff, refreshed]
  case expiryFirst =>
    obtain ⟨hbraking, hstopped⟩ := driveSilent_braking (tm := tm) hp hn hc
    refine ⟨_, _, driveRefresh_run hreset ho htm, execRunRefresh_eq ?_, by simp, ?_, ?_, ?_, ?_, ?_⟩
    · simpa [driveSilent] using hreset
    · rw [hasCause_congr (s := driveSilent (advanceTo tm.due s)) _ (by simp)]
      exact hasCause_raiseCause _ _ _
    · simpa using hbraking
    · simpa using hstopped
    · simp [refreshed, hbraking, isPowered, hdue]
    · simp [keepsBut_iff, refreshed]

end Sys2Proof.Machine
end

section
/-! Standing modes (O32), the reference and the protection setting (O45), the encoder (O47), the door releases (O36). -/

namespace Sys2Proof.Machine

variable {s t u : State}

/-! ## SET MODE (O32) -/

theorem setStanding_trc (st : Station) (m : Mode) (s : State) :
    (setStanding st m s).trc =
      { s.trc with
        drvMode := if st = .con then s.trc.drvMode else m
        conMode := if st = .con then m else s.trc.conMode } := by
  by_cases h : st = .con <;> simp [setStanding, h]

theorem setStanding_others (st : Station) (m : Mode) (s : State) : KeepsBut [.trc] s (setStanding st m s) := by
  simp [setStanding, keepsBut_iff]

/-- The effective mode is that of the line and the two standing modes (R85). -/
theorem evaluateMode_trc (s : State) : (evaluateMode s).trc = { s.trc with effMode := effectiveMode s } := by
  unfold evaluateMode
  dsimp only
  split
  next h => rw [h]
  next => simp

/-- A change of the effective mode is told to DRV and CON (R85). -/
theorem evaluateMode_told (h : effectiveMode s ≠ s.trc.effMode) {st : Station} (hst : st ∈ [Station.drv, .con]) :
    isPending ((evaluateMode s).niu.notices.get st) .modeChanged = true := by
  unfold evaluateMode
  dsimp only
  rw [if_neg h]
  exact isPending_hand _ _ _ hst

theorem evaluateMode_same (h : effectiveMode s = s.trc.effMode) : evaluateMode s = s := if_pos h

theorem takeSetMode_listed (st : Station) (m : Mode) (s : State) :
    takeSetMode st (.listed m) s =
      ⟨evaluateMode (setStanding st m s), .ok, .mode (evaluateMode (setStanding st m s)).trc.effMode⟩ := rfl

theorem takeSetMode_unlisted (st : Station) (code : Nat) (s : State) :
    takeSetMode st (.unlisted code) s = ⟨s, .refused .badValue, .nothing⟩ := rfl

/-- Settles O32. -/
theorem setModeRule : Obligations.SetModeRule := by
  unfold Obligations.SetModeRule
  refine ⟨fun st m s hh => ?listed, fun st code s hh => request_refused _ hh _ (takeSetMode_unlisted st code s)⟩
  have heff : (setStanding st m s).trc.effMode = s.trc.effMode := by simp [setStanding_trc]
  have hmode : (evaluateMode (setStanding st m s)).trc.effMode = effectiveMode (setStanding st m s) := by
    rw [evaluateMode_trc]
  refine ⟨_, request_answer hh (takeSetMode_listed st m s), by simp, ?_, fun h => ?_, fun h => ?_, ?_⟩
  · simp [evaluateMode_trc, setStanding_trc, effectiveMode]
  · have hsame : evaluateMode (setStanding st m s) = setStanding st m s := by
      refine evaluateMode_same (hmode.symm.trans (Eq.trans ?_ heff.symm))
      simpa using h
    simpa [hsame] using setStanding_others st m s
  · have hne : effectiveMode (setStanding st m s) ≠ (setStanding st m s).trc.effMode := by
      rw [← hmode, heff]
      simpa using h
    simpa using And.intro (evaluateMode_told hne (st := .drv) (by simp)) (evaluateMode_told hne (st := .con) (by simp))
  · simp [keepsBut_iff, setStanding]

/-! ## SET REFERENCE and SET CLEAR IN INSPECTION (O45) -/

/-- The position unit once the reference is asserted (R21). -/
theorem assertReference_psu (k : Stop) (s : State) :
    (assertReference k s).psu =
      { s.psu with pRef := stopPos s.params k, countRef := s.psu.count, ref := .referenced, expected := ⟨none, none⟩ } := by
  simp [assertReference, setRef, setPos, clearExpected]

theorem keepsBut_assertReference (k : Stop) (s : State) : KeepsBut [.psu] s (assertReference k s) := by
  simp [keepsBut_iff, assertReference]

/-- Where the counts are those of the reference, P is its position. -/
theorem pos_assertReference (k : Stop) (s : State) :
    pos (assertReference k s) =
      max (-2000 : Int) (min ((s.params.trackLen : Int) + 2000) (stopPos s.params k)) := by
  have hparams : (assertReference k s).params = s.params := by simp [assertReference, State.params]
  simp [pos, hparams, assertReference_psu, countDiff, ropeCm, clampPos, Config.clampBeyond]

theorem takeSetReference_accepted {k : Stop} (h : referenceCheck s (some k) = none) :
    takeSetReference (.listed k) s = ⟨assertReference k s, .ok, .reference (pos (assertReference k s)) .referenced⟩ := by
  simp [takeSetReference, listed?, h, accept, assertReference_psu, RefState.name]

theorem takeSetReference_refused {k : Coded Stop} {why : Reason} (h : referenceCheck s (listed? k) = some why) :
    takeSetReference k s = ⟨s, .refused why, .nothing⟩ := by
  simp [takeSetReference, h, deny, refuse]

theorem takeSetClear_listed (on : Bool) (h : s.lsu.line = .closed) :
    takeSetClear (.listed on) s = ⟨s.onLsu fun l => { l with clearInInspection := on }, .ok, .setting on⟩ := by
  simp [takeSetClear, h, accept]

theorem takeSetClear_unlisted (code : Nat) (h : s.lsu.line = .closed) :
    takeSetClear (.unlisted code) s = ⟨s, .refused .badValue, .nothing⟩ := by
  simp [takeSetClear, h, deny, refuse]

theorem takeSetClear_offClosed (v : Coded Bool) (h : s.lsu.line ≠ .closed) :
    takeSetClear v s = ⟨s, .refused .wrongState, .nothing⟩ := by
  simp [takeSetClear, h, deny, refuse]

/-- Settles O45: the checks of each request in order. -/
theorem referenceAndProtectionSettings : Obligations.ReferenceAndProtectionSettings := by
  unfold Obligations.ReferenceAndProtectionSettings
  refine ⟨fun k s hreset hline hflight hstop hstill => ?asserted,
    fun k s hreset => ⟨fun h => ?wrongState, fun hline hflight hstop => ?noStop,
      fun stop hline hflight hk hstop hstill => ?moving⟩,
    fun on s hreset => ⟨fun hline => ?set, fun hline => ?offClosed⟩, fun code s hreset => ?unlisted⟩
  case asserted =>
    have ha := takeSetReference_accepted (s := s) (k := k) (by simp [referenceCheck, hline, hflight, hstop, hstill])
    have hpos : pos (replyTo .setReference .con s
        ⟨assertReference k s, .ok, .reference (pos (assertReference k s)) .referenced⟩) = pos (assertReference k s) :=
      pos_congr (by simp) (by simp)
    exact ⟨_, request_answer (r := .setReference) ⟨hreset, rfl⟩ ha, by simp [hpos], hpos.trans (pos_assertReference k s),
      by simp [assertReference_psu], by simpa using keepsBut_assertReference k s⟩
  case wrongState =>
    exact request_refused _ ⟨hreset, rfl⟩ _ (takeSetReference_refused (by rw [referenceCheck, if_pos h]))
  case noStop =>
    have hnone : ((listed? k).map (stopExists s.params)).getD false = false := by
      cases k with
      | listed stop => simpa [listed?] using hstop stop rfl
      | unlisted code => rfl
    exact request_refused _ ⟨hreset, rfl⟩ _
      (takeSetReference_refused (why := .badValue) (by simp [referenceCheck, hline, hflight, hnone]))
  case moving =>
    subst hk
    exact request_refused _ ⟨hreset, rfl⟩ _
      (takeSetReference_refused (why := .moving) (by simp [referenceCheck, listed?, hline, hflight, hstop, hstill]))
  case set =>
    exact ⟨_, request_answer (r := .setClearInInspection) ⟨hreset, rfl⟩ (takeSetClear_listed on hline), by simp, by simp,
      by simp [keepsBut_iff]⟩
  case offClosed => exact request_refused _ ⟨hreset, rfl⟩ _ (takeSetClear_offClosed _ hline)
  case unlisted =>
    by_cases hline : s.lsu.line = .closed
    · rw [if_pos hline]
      exact request_refused _ ⟨hreset, rfl⟩ _ (takeSetClear_unlisted code hline)
    · rw [if_neg hline]
      exact request_refused _ ⟨hreset, rfl⟩ _ (takeSetClear_offClosed (.unlisted code) hline)

/-! ## The encoder (O47) -/

/-- Settles O47. -/
theorem encoderEdgeCounts : Obligations.EncoderEdgeCounts := by
  intro dir s hreset
  refine ⟨_, event_acts (rfl : execEncoderEdge dir s = _) hreset rfl, by cases dir <;> simp, ?_, by simp [keepsBut_iff]⟩
  simp [pos, State.params, countDiff, ropeCm, clampPos, Config.clampBeyond, Config.encUnit]

/-! ## The door releases (O36) -/

/-- A release permit hangs on neither the notices nor the line bus port. -/
theorem permit_replyTo (r : Request) (st : Station) (a : Answer) (c : Car) (d : Side) :
    permit (replyTo r st s a) c d = permit a.state c d := by
  rw [Bool.eq_iff_iff, permit_iff, permit_iff]
  simp [ReleasePermitted, reportAge, State.params, OnPlatform]

theorem takeEvacuate_accepted {c : Car} (h : evacuateCheck s = none) :
    takeEvacuate (.listed c) s = ⟨setEvac c true s, .ok, permitData (setEvac c true s) c⟩ := by
  simp [takeEvacuate, h, accept]

theorem takeEvacuate_refused {c : Car} {why : Reason} (h : evacuateCheck s = some why) :
    takeEvacuate (.listed c) s = ⟨s, .refused why, .nothing⟩ := by
  simp [takeEvacuate, h, deny, refuse]

theorem takeMaintRelease_accepted {c : Car} {d : Side} (h : maintCheck s = none) :
    takeMaintRelease (.listed c, .listed d) s = ⟨setMaint c d true s, .ok, permitData (setMaint c d true s) c⟩ := by
  simp [takeMaintRelease, h, accept]

theorem takeMaintRelease_refused {c : Car} {d : Side} {why : Reason} (h : maintCheck s = some why) :
    takeMaintRelease (.listed c, .listed d) s = ⟨s, .refused why, .nothing⟩ := by
  simp [takeMaintRelease, h, deny, refuse]

theorem takeMaintEnd_all (s : State) : takeMaintEnd .all s = ⟨endMaint s, .ok, .nothing⟩ := rfl

theorem takeMaintEnd_side (c : Car) (d : Side) (s : State) :
    takeMaintEnd (.side (.listed c) (.listed d)) s = ⟨setMaint c d false s, .ok, .nothing⟩ := rfl

theorem takeEvacuateEnd_listed (c : Car) (s : State) :
    takeEvacuateEnd (.listed c) s = ⟨setEvac c false s, .ok, .nothing⟩ := rfl

theorem evacuateCheck_wrongState (h : ¬ (s.trc.state = .stoppedOnLine ∨ s.trc.state = .braking) ∨ s.brs.stage = .none ∨
    (s.psu.still = true ∧ s.brs.sbFb ≠ .applied)) : evacuateCheck s = some .wrongState := by
  unfold evacuateCheck
  split
  · rfl
  next hts =>
    split
    · rfl
    next hst =>
      obtain ⟨hstill, hfb⟩ := (h.resolve_left hts).resolve_left hst
      simp [hstill, hfb]

theorem maintCheck_wrongState (h : ¬ (s.lsu.line = .closed ∨ s.lsu.line = .inspection) ∨ inFlight s.trc.state = true ∨
    (s.psu.still = true ∧ s.brs.sbFb ≠ .applied)) : maintCheck s = some .wrongState := by
  unfold maintCheck
  split
  · rfl
  next hline =>
    obtain ⟨hstill, hfb⟩ := (or_assoc.mpr h).resolve_left hline
    simp [hstill, hfb]

/-- Settles O36: each request's checks in order, and what it writes. -/
theorem doorReleaseRequests : Obligations.DoorReleaseRequests := by
  unfold Obligations.DoorReleaseRequests
  refine ⟨fun c s hreset hts hstage hstill hfb => ?evacuate, fun c s hreset => ?evacuateEnd,
    fun c d s hreset hline hflight hstill hfb => ?maint, fun c d s hreset => ?maintEnd, fun s hreset => ?maintAll,
    fun code s hreset => ⟨?_, ?_, fun d => ?_, fun d => ?_⟩, fun c code s hreset => ⟨?_, ?_⟩,
    fun c s hreset => ⟨fun h => ?evacuateWrong, fun hts hstage hstill => ?evacuateMoving⟩,
    fun c d s hreset => ⟨fun h => ?maintWrong, fun hline hflight hstill => ?maintMoving⟩⟩
  case evacuate =>
    have ha := takeEvacuate_accepted (s := s) (c := c) (by simp [evacuateCheck, hts, hstage, hstill, hfb])
    exact ⟨_, request_answer (r := .evacuate) ⟨hreset, rfl⟩ ha, by simp [permitData, permit_replyTo], by simp [setEvac],
      by simp [keepsBut_iff, setEvac]⟩
  case evacuateEnd =>
    exact ⟨_, request_answer (r := .evacuateEnd) ⟨hreset, rfl⟩ (takeEvacuateEnd_listed c s), by simp, by simp [setEvac],
      by simp [keepsBut_iff, setEvac]⟩
  case maint =>
    have ha := takeMaintRelease_accepted (s := s) (c := c) (d := d) (by simp [maintCheck, hline, hflight, hstill, hfb])
    exact ⟨_, request_answer (r := .maintRelease) ⟨hreset, rfl⟩ ha, by simp [permitData, permit_replyTo],
      by simp [setMaint], by simp [keepsBut_iff, setMaint]⟩
  case maintEnd =>
    exact ⟨_, request_answer (r := .maintEnd) ⟨hreset, rfl⟩ (takeMaintEnd_side c d s), by simp, by simp [setMaint],
      by simp [keepsBut_iff, setMaint]⟩
  case maintAll =>
    exact ⟨_, request_answer (r := .maintEnd) ⟨hreset, rfl⟩ (takeMaintEnd_all s), by simp, by simp [endMaint],
      by simp [keepsBut_iff, endMaint]⟩
  case evacuateWrong =>
    exact request_refused _ ⟨hreset, rfl⟩ _ (takeEvacuate_refused (evacuateCheck_wrongState h))
  case evacuateMoving =>
    exact request_refused _ ⟨hreset, rfl⟩ _
      (takeEvacuate_refused (why := .moving) (by simp [evacuateCheck, hts, hstage, hstill]))
  case maintWrong =>
    exact request_refused _ ⟨hreset, rfl⟩ _ (takeMaintRelease_refused (maintCheck_wrongState h))
  case maintMoving =>
    exact request_refused _ ⟨hreset, rfl⟩ _
      (takeMaintRelease_refused (why := .moving) (by simp [maintCheck, hline, hflight, hstill]))
  all_goals exact request_refused _ ⟨hreset, rfl⟩ _ rfl

end Sys2Proof.Machine
end

section
/-! Snapshots, notices and incidents as requests (O10, O12). -/

namespace Sys2Proof.Machine

variable {s t u : State}

/-! ## Lists of enumerated fields -/

theorem allListed_listed {α : Type} (l : List α) : allListed (l.map .listed) = some l := by
  induction l with
  | nil => rfl
  | cons a rest ih => simp [allListed, ih]

/-! ## Snapshots (O10) -/

/-- The marks after a request: those its answer leaves, and the records it changes. -/
theorem mem_replyTo_fresh (r : Request) (st who : Station) (a : Answer) (k : SnapKind) :
    k ∈ (replyTo r st s a).lbp.fresh.get who ↔
      k ∈ a.state.lbp.fresh.get who ∨ recordCore s k ≠ recordCore a.state k := by
  rw [← recordCore_latchAll a.state k, ← mem_finish_fresh]
  rfl

/-- No record shows a selection, a continuation point or a mark. -/
theorem recordCore_onLbp (f : Lbp → Lbp) (k : SnapKind) : recordCore (s.onLbp f) k = recordCore s k :=
  recordCore_congr rfl rfl rfl rfl rfl rfl rfl rfl rfl rfl rfl rfl k

/-- What SNAPSHOT SELECT leaves (R160). -/
def selected (st : Station) (chosen : List SnapKind) (s : State) : State :=
  s.onLbp fun b => { b with selection := b.selection.set st chosen, continuation := b.continuation.set st chosen.head? }

theorem takeSnapshotSelect_listed (st : Station) (ks : List SnapKind) (s : State) :
    takeSnapshotSelect st (ks.map .listed) s =
      ⟨selected st (allSnapKinds.filter fun k => ks.contains k) s, .ok, .nothing⟩ := by
  simp [takeSnapshotSelect, allListed_listed, accept, selected]

theorem takeSnapshotSelect_unlisted {st : Station} {ks : List (Coded SnapKind)} (h : allListed ks = none) :
    takeSnapshotSelect st ks s = ⟨s, .refused .badValue, .nothing⟩ := by
  simp [takeSnapshotSelect, h, deny, refuse]

/-- What SNAPSHOT leaves: the continuation point at the first kind left, else at the first selected, and the marks of the
records carried taken away (R161, R162). -/
def snapped (st : Station) (carried left : List SnapKind) (s : State) : State :=
  s.onLbp fun b =>
    { b with
      continuation := b.continuation.set st (left.head?.or (s.lbp.selection.get st).head?)
      fresh := b.fresh.set st ((b.fresh.get st).filter fun k => carried.contains k = false) }

theorem takeSnapshot_eq {st : Station} {carried left : List SnapKind}
    (h : fitting s 238 (kindsFrom (s.lbp.continuation.get st) (s.lbp.selection.get st)) = (carried, left)) :
    takeSnapshot st () s =
      ⟨snapped st carried left s, .ok,
        .snapshot (carried.map (snapRecord s st)) (left.head?.or (s.lbp.selection.get st).head?)⟩ := by
  have hroom : Config.snapshotRoom = 238 := rfl
  cases left <;> simp [takeSnapshot, hroom, h, accept, snapped]

/-- Settles O10. -/
theorem snapshotRequests : Obligations.SnapshotRequests := by
  unfold Obligations.SnapshotRequests
  refine ⟨fun st ks s hreset => ?select, fun st ks s hreset hks => ?unlisted,
    fun st s carried left hreset hfit => ?snapshot⟩
  case select =>
    refine ⟨_, request_answer (r := .snapshotSelect) ⟨hreset, by cases st <;> rfl⟩ (takeSnapshotSelect_listed st ks s),
      by simp, by simp [selected], by simp [selected], fun other ho => ?_, fun other k => ?_,
      by simp [keepsBut_iff, selected]⟩
    · simp [selected, PerStation.get_set_other _ _ ho]
    · simp [mem_replyTo_fresh, selected, recordCore_onLbp]
  case unlisted =>
    refine ⟨_, request_answer (r := .snapshotSelect) ⟨hreset, by cases st <;> rfl⟩ (takeSnapshotSelect_unlisted hks),
      by simp, fun other k => ?_, by simp [KeepsBut.refl]⟩
    simp [mem_replyTo_fresh]
  case snapshot =>
    refine ⟨_, request_answer (r := .snapshot) ⟨hreset, by cases st <;> rfl⟩ (takeSnapshot_eq hfit),
      by simp [snapped], by simp [snapped], by simp [snapped], fun other ho => ?_, fun k => ?_, fun other k ho => ?_,
      by simp [keepsBut_iff, snapped]⟩
    · simp [snapped, PerStation.get_set_other _ _ ho]
    · simp [mem_replyTo_fresh, snapped, recordCore_onLbp]
    · simp [mem_replyTo_fresh, snapped, recordCore_onLbp, PerStation.get_set_other _ _ ho]

/-! ## Notices (O12) -/

theorem onNotices_get_self (st : Station) (f : NoticeRecord → NoticeRecord) (s : State) :
    (onNotices st f s).niu.notices.get st = f (s.niu.notices.get st) := by
  simp [onNotices]

theorem onNotices_get_other {st other : Station} (f : NoticeRecord → NoticeRecord) (h : other ≠ st) (s : State) :
    (onNotices st f s).niu.notices.get other = s.niu.notices.get other := by
  simp [onNotices, PerStation.get_set_other _ _ h]

theorem keepsBut_onNotices (st : Station) (f : NoticeRecord → NoticeRecord) (s : State) :
    KeepsBut [.notices] s (onNotices st f s) := by
  simp [keepsBut_iff, onNotices]

theorem takeNextNotice_none {st : Station} (h : (s.niu.notices.get st).latched = none) :
    takeNextNotice st () s = ⟨s, .ok, .notice none (s.niu.notices.get st).pending.length⟩ := by
  have hread : readNotice (s.niu.notices.get st) = s.niu.notices.get st := by simp [readNotice, h]
  have hsame : onNotices st readNotice s = s := by
    have hset : s.niu.notices.set st (s.niu.notices.get st) = s.niu.notices := by
      apply PerStation.ext_get
      intro x
      by_cases hx : x = st
      · subst hx
        simp
      · simp [PerStation.get_set_other _ _ hx]
    simp only [onNotices, State.onNiu, hread, hset]
  simp [takeNextNotice, latchedNotice, h, hread, hsame, accept]

theorem takeNextNotice_some {st : Station} {k : NoticeKind} {n : Pending} (h : (s.niu.notices.get st).latched = some k)
    (hn : (s.niu.notices.get st).pending.find? (fun m => m.kind = k) = some n) :
    takeNextNotice st () s =
      ⟨onNotices st readNotice s, .ok,
        .notice (some n) ((s.niu.notices.get st).pending.filter fun m => m.kind ≠ k).length⟩ := by
  simp [takeNextNotice, latchedNotice, h, hn, readNotice, accept]

theorem takeNoticeEnable_listed (st : Station) (ks : List NoticeKind) (s : State) :
    takeNoticeEnable st (ks.map .listed) s =
      ⟨onNotices st (fun r => { r with enabled := allNoticeKinds.filter fun k => ks.contains k }) s, .ok, .nothing⟩ := by
  simp [takeNoticeEnable, allListed_listed, accept]

theorem takeNoticeEnable_unlisted {st : Station} {ks : List (Coded NoticeKind)} (h : allListed ks = none) :
    takeNoticeEnable st ks s = ⟨s, .refused .badValue, .nothing⟩ := by
  simp [takeNoticeEnable, h, deny, refuse]

/-! ## Incidents (O12) -/

theorem takeIncidentRead_some {seq : Int} {i : Incident} (h : incidentAt s seq = some i) :
    takeIncidentRead seq s =
      ⟨onIncident seq (fun j => { j with read := true }) s, .ok, .incident { i with read := true }⟩ := by
  simp [takeIncidentRead, h, accept]

theorem takeIncidentRead_none {seq : Int} (h : incidentAt s seq = none) :
    takeIncidentRead seq s = ⟨s, .refused .badValue, .nothing⟩ := by
  simp [takeIncidentRead, h, deny, refuse]

theorem takeIncidentAck_none {seq : Int} (h : incidentAt s seq = none) :
    takeIncidentAck seq s = ⟨s, .refused .badValue, .nothing⟩ := by
  simp [takeIncidentAck, h, deny, refuse]

theorem takeIncidentAck_unread {seq : Int} {i : Incident} (h : incidentAt s seq = some i) (hr : i.read = false) :
    takeIncidentAck seq s = ⟨s, .refused .wrongState, .nothing⟩ := by
  simp [takeIncidentAck, h, hr, deny, refuse]

theorem takeIncidentAck_protected {seq : Int} {i : Incident} (h : incidentAt s seq = some i) (hr : i.read = true)
    (hp : flagProtection s = true) : takeIncidentAck seq s = ⟨s, .refused .flagProtected, .nothing⟩ := by
  simp [takeIncidentAck, h, hr, hp, deny, refuse]

theorem takeIncidentAck_accepted {seq : Int} {i : Incident} (h : incidentAt s seq = some i) (hr : i.read = true)
    (hp : flagProtection s = false) :
    takeIncidentAck seq s = ⟨onIncident seq (fun j => { j with acked := true }) s, .ok, .nothing⟩ := by
  simp [takeIncidentAck, h, hr, hp, accept]

theorem keepsBut_onIncident (seq : Int) (f : Incident → Incident) (s : State) :
    KeepsBut [.incidents] s (onIncident seq f s) := by
  simp [keepsBut_iff, onIncident]

/-- Settles O12. -/
theorem noticeAndIncidentRequests : Obligations.NoticeAndIncidentRequests := by
  unfold Obligations.NoticeAndIncidentRequests
  refine ⟨fun st s hreset hl => ?none, fun st k n s hreset hl hn => ?some, fun st ks s hreset => ?enable,
    fun st ks s hreset hks => ?unlisted, fun seq i s hreset hi => ?read, fun seq i s hreset hi hr hp => ?ack,
    fun seq s hreset => ⟨fun hi => ⟨?readNone, ?ackNone⟩, fun i hi hr => ?unread, fun i hi hr hp => ?guarded⟩⟩
  case none => exact request_refused _ ⟨hreset, by cases st <;> rfl⟩ _ (takeNextNotice_none hl)
  case some =>
    have hpend : (readNotice (s.niu.notices.get st)).pending =
        (s.niu.notices.get st).pending.filter (fun m => m.kind ≠ k) := by simp [readNotice, hl]
    have henabled : (readNotice (s.niu.notices.get st)).enabled = (s.niu.notices.get st).enabled := by
      simp [readNotice, hl]
    refine ⟨_, request_answer (r := .nextNotice) ⟨hreset, by cases st <;> rfl⟩ (takeNextNotice_some hl hn), ?_, ?_, ?_,
      fun other ho => ?_, by simpa using keepsBut_onNotices st readNotice s⟩
    · simp [onNotices_get_self, hpend]
    · simp [onNotices_get_self, hpend]
    · simp [onNotices_get_self, henabled]
    · simp [onNotices_get_other _ ho]
  case enable =>
    refine ⟨_, request_answer (r := .noticeEnable) ⟨hreset, by cases st <;> rfl⟩ (takeNoticeEnable_listed st ks s),
      by simp, fun k => ?_, by simp [onNotices_get_self], fun other ho => by simp [onNotices_get_other _ ho],
      by simpa using keepsBut_onNotices st _ s⟩
    have hk : k ∈ allNoticeKinds := by cases k <;> decide
    simp [onNotices_get_self, hk]
  case unlisted => exact request_refused _ ⟨hreset, by cases st <;> rfl⟩ _ (takeNoticeEnable_unlisted hks)
  case read =>
    exact ⟨_, request_answer (r := .incidentRead) ⟨hreset, rfl⟩ (takeIncidentRead_some hi), by simp,
      by simp [onIncident], by simp [onIncident], by simp [onIncident], by simpa using keepsBut_onIncident seq _ s⟩
  case ack =>
    exact ⟨_, request_answer (r := .incidentAck) ⟨hreset, rfl⟩ (takeIncidentAck_accepted hi hr hp), by simp,
      by simp [onIncident], by simp [onIncident], by simp [onIncident], by simpa using keepsBut_onIncident seq _ s⟩
  case readNone => exact request_refused _ ⟨hreset, rfl⟩ _ (takeIncidentRead_none hi)
  case ackNone => exact request_refused _ ⟨hreset, rfl⟩ _ (takeIncidentAck_none hi)
  case unread => exact request_refused _ ⟨hreset, rfl⟩ _ (takeIncidentAck_unread hi hr)
  case guarded => exact request_refused _ ⟨hreset, rfl⟩ _ (takeIncidentAck_protected hi hr hp)

end Sys2Proof.Machine
end

section
/-! The trip from DOORS on, with the doors LOCKED (sections 5.6 and 6.4): DOORS, SETTLE, RELEASE and RUNNING as changes
of the trip state, one after another, and what they leave of the part. -/

namespace Sys2Proof.Machine

variable {s t u : State}

/-! ## The notices of the windows (R124) -/

theorem gateStation_injective {g h : Gate} (hne : g ≠ h) : gateStation g ≠ gateStation h := by
  cases g <;> cases h <;> simp_all [gateStation]

theorem noteGate_notices_other (before after : State) {g h : Gate} (hne : h ≠ g) (s : State) :
    (noteGate before after g s).niu.notices.get (gateStation h) = s.niu.notices.get (gateStation h) := by
  have hst := gateStation_injective hne
  unfold noteGate
  dsimp only
  split <;> split <;> simp [handTo_notices_other _ _ hst]

/-- What one gate station is told of the windows that open and close. -/
def GateHanded (before after : State) (g : Gate) (s t : State) : Prop :=
  (newlyOpen before after g ≠ [] →
      Handed .admissionOpen (.platforms (newlyOpen before after g)) (gateStation g) s t) ∧
    (newlyOpen after before g ≠ [] →
      Handed .admissionClosed (.platforms (newlyOpen after before g)) (gateStation g) s t)

theorem gateHanded_noteGate (before after : State) (g : Gate) (s : State) :
    GateHanded before after g s (noteGate before after g s) := by
  have hopen : Told [.admissionOpen] s (if (newlyOpen before after g).isEmpty then s
      else handTo .admissionOpen (.platforms (newlyOpen before after g)) (gateStation g) s) :=
    .ite (fun _ => .refl s) (fun _ => (Told.refl s).handTo (by simp) _ _)
  have hclosed (u : State) : Told [.admissionClosed] u (if (newlyOpen after before g).isEmpty then u
      else handTo .admissionClosed (.platforms (newlyOpen after before g)) (gateStation g) u) :=
    .ite (fun _ => .refl u) (fun _ => (Told.refl u).handTo (by simp) _ _)
  refine ⟨fun hne => Handed.told ?_ (hclosed _) (by simp), fun hne => Handed.after hopen ?_ (by simp)⟩
  · rw [if_neg (by simpa using hne)]
    exact handed_handTo _ _ _ s
  · unfold noteGate
    dsimp only
    rw [if_neg (c := (newlyOpen after before g).isEmpty = true) (by simpa using hne)]
    exact handed_handTo _ _ _ _

/-- Only a gate station's own record says what it has been told. -/
theorem GateHanded.congr {before after s' t' : State} {g : Gate} (h : GateHanded before after g s t)
    (hs : s'.niu.notices.get (gateStation g) = s.niu.notices.get (gateStation g))
    (ht : t'.niu.notices.get (gateStation g) = t.niu.notices.get (gateStation g)) : GateHanded before after g s' t' := by
  unfold GateHanded Handed at *
  rwa [hs, ht]

theorem gateHanded_noteWindows (before after : State) (g : Gate) :
    GateHanded before after g after (noteWindows before after) := by
  have hother {a b : Gate} (hne : b ≠ a) (s : State) := noteGate_notices_other before after hne s
  change GateHanded before after g after
    (noteGate before after .top (noteGate before after .mid (noteGate before after .bot after)))
  cases g with
  | bot =>
    refine (gateHanded_noteGate before after .bot after).congr rfl ?_
    rw [hother (by decide), hother (by decide)]
  | mid =>
    refine (gateHanded_noteGate before after .mid (noteGate before after .bot after)).congr ?_ ?_
    · rw [hother (by decide)]
    · rw [hother (by decide)]
  | top =>
    refine (gateHanded_noteGate before after .top _).congr ?_ rfl
    rw [hother (by decide), hother (by decide)]

/-! ## Windows before and after -/

theorem admissionOpen_congr (hlsu : t.lsu = s.lsu) (hts : t.trc.state = s.trc.state)
    (hmark : t.adm.releaseMark = s.adm.releaseMark) (b : Berth) : admissionOpen t b = admissionOpen s b := by
  simp [admissionOpen, hlsu, hts, hmark]

theorem newlyOpen_congr {s' t' : State} (hs : ∀ b, admissionOpen s' b = admissionOpen s b)
    (ht : ∀ b, admissionOpen t' b = admissionOpen t b) (g : Gate) : newlyOpen s' t' g = newlyOpen s t g := by
  simp [newlyOpen, hs, ht]

theorem newlyOpen_of_same {before after : State} (h : ∀ b, admissionOpen before b = admissionOpen after b) (g : Gate) :
    newlyOpen before after g = [] := by
  simp [newlyOpen, h]

/-- Off DWELL every admission window is closed (R123). -/
theorem admissionOpen_offDwell (h : isDwell s.trc.state = false) (b : Berth) : admissionOpen s b = false := by
  simp [admissionOpen, h]

theorem noteWindows_of_same {before after : State} (h : ∀ b, admissionOpen before b = admissionOpen after b) :
    noteWindows before after = after := by
  have hgate (g : Gate) (s : State) : noteGate before after g s = s := by
    simp [noteGate, newlyOpen_of_same h, newlyOpen_of_same fun b => (h b).symm]
  simp [noteWindows, allGates, hgate]

/-- The windows' notices from a change of windows, where the notices were those of `s` before it. -/
theorem windowsHanded_noteWindows {v : State} (hv : v.niu.notices = s.niu.notices) :
    WindowsHanded s (noteWindows s v) := by
  intro g
  have h := (gateHanded_noteWindows s v g).congr (s' := s) (t' := noteWindows s v) (by rw [hv]) rfl
  have hsame (b : Berth) : admissionOpen (noteWindows s v) b = admissionOpen v b :=
    admissionOpen_congr (by simp) (by simp) (by simp) b
  unfold GateHanded at h
  rwa [newlyOpen_congr (fun _ => rfl) hsame, newlyOpen_congr hsame fun _ => rfl]

/-- Windows and notices that stay as they are. -/
theorem WindowsHanded.congr {s' t' : State} (h : WindowsHanded s t) (hs : ∀ b, admissionOpen s' b = admissionOpen s b)
    (ht : ∀ b, admissionOpen t' b = admissionOpen t b) (hsn : s'.niu.notices = s.niu.notices)
    (htn : t'.niu.notices = t.niu.notices) : WindowsHanded s' t' := by
  intro g
  rw [newlyOpen_congr hs ht, newlyOpen_congr ht hs]
  exact ⟨fun hne => ((h g).1 hne).congr hsn htn, fun hne => ((h g).2 hne).congr hsn htn⟩

/-- Notices of other kinds before and after a change of windows. -/
theorem WindowsHanded.within {s' t' : State} {K L : List NoticeKind} (h : WindowsHanded s t)
    (hs : ∀ b, admissionOpen s' b = admissionOpen s b) (ht : ∀ b, admissionOpen t' b = admissionOpen t b)
    (hsn : Told K s' s) (htn : Told L t t') (hK : ∀ k ∈ windowKinds, k ∉ K) (hL : ∀ k ∈ windowKinds, k ∉ L) :
    WindowsHanded s' t' := by
  intro g
  rw [newlyOpen_congr hs ht, newlyOpen_congr ht hs]
  exact ⟨fun hne => (Handed.after hsn ((h g).1 hne) (hK _ (by simp [windowKinds]))).told htn (hL _ (by simp [windowKinds])),
    fun hne => (Handed.after hsn ((h g).2 hne) (hK _ (by simp [windowKinds]))).told htn (hL _ (by simp [windowKinds]))⟩

theorem windowsHanded_of_same (h : ∀ b, admissionOpen s b = admissionOpen t b) : WindowsHanded s t := by
  intro g
  simp [newlyOpen_of_same h, newlyOpen_of_same fun b => (h b).symm]

theorem windowsHanded_setTripState (new : TripState) (s : State) : WindowsHanded s (setTripState new s) := by
  unfold setTripState
  exact windowsHanded_noteWindows (by simp)

theorem windowsHanded_setReleaseMark (v : Bool) (s : State) : WindowsHanded s (setReleaseMark v s) :=
  windowsHanded_noteWindows (by simp)

/-! ## A trip on its way (R97 to R101) -/

/-- From `s` the trip has gone on to `t` by changes of the trip state that raise no cause. -/
structure Onward (s t : State) : Prop where
  keeps : KeepsBut [.psu, .clc, .brs, .trc, .dri, .adm, .notices] s t
  trc : t.trc =
    { s.trc with
      state := t.trc.state, minDwell := t.trc.minDwell, settleTimer := t.trc.settleTimer, frozen := t.trc.frozen
      trip := { s.trc.trip with derating := t.trc.trip.derating, peak := t.trc.trip.peak, margin := t.trc.trip.margin } }
  psu : t.psu = { s.psu with furthest := t.psu.furthest, heldCount := t.psu.heldCount }
  dri : t.dri = { s.dri with phase := t.dri.phase, leadTimer := t.dri.leadTimer, doorTimer := t.dri.doorTimer }
  flight : inFlight t.trc.state = true
  adm : t.adm = if isDwell s.trc.state then { s.adm with releaseMark := false } else s.adm
  told : Told windowKinds s t
  quiet : isDwell s.trc.state = false → t.niu = s.niu
  windows : WindowsHanded s t
  causes : t.brs.causes = s.brs.causes ∧ t.brs.stage = s.brs.stage ∧ t.brs.sbFb = s.brs.sbFb ∧ t.brs.ebFb = s.brs.ebFb

theorem isDwell_of_inFlight {ts : TripState} (h : inFlight ts = true) : isDwell ts = false := by
  cases ts <;> simp_all [inFlight, isDwell]

theorem Onward.away (h : Onward s t) : isDwell t.trc.state = false := isDwell_of_inFlight h.flight

theorem Onward.trans (h : Onward s t) (h' : Onward t u) : Onward s u where
  keeps := by
    have hk := h.keeps
    have hk' := h'.keeps
    rw [keepsBut_iff] at hk hk' ⊢
    simp_all
  trc := by rw [h'.trc, h.trc]
  psu := by rw [h'.psu, h.psu]
  dri := by rw [h'.dri, h.dri]
  flight := h'.flight
  adm := by rw [h'.adm, if_neg (by simp [h.away]), h.adm]
  told := h.told.trans h'.told
  quiet := fun hs => (h'.quiet h.away).trans (h.quiet hs)
  windows := h.windows.congr (fun _ => rfl)
    (fun b => (admissionOpen_offDwell h'.away b).trans (admissionOpen_offDwell h.away b).symm) rfl
    (by rw [h'.quiet h.away])
  causes := ⟨h'.causes.1.trans h.causes.1, h'.causes.2.1.trans h.causes.2.1, h'.causes.2.2.1.trans h.causes.2.2.1,
    h'.causes.2.2.2.trans h.causes.2.2.2⟩

/-- Out of DWELL a change of the trip state takes the release mark away, where DWELL is left (R123). -/
theorem setTripState_adm_away {new : TripState} (hnew : isDwell new = false) :
    (setTripState new s).adm = if isDwell s.trc.state then { s.adm with releaseMark := false } else s.adm := by
  rw [setTripState_adm]
  simp only [admOnTrip, State.onAdm_adm, hnew]
  simp

/-- Between two states off DWELL nothing is told. -/
theorem setTripState_niu_away {new : TripState} (hs : isDwell s.trc.state = false) (hnew : isDwell new = false) :
    (setTripState new s).niu = s.niu := by
  unfold setTripState
  dsimp only
  rw [noteWindows_of_same fun b => (admissionOpen_offDwell hs b).trans (admissionOpen_offDwell ?_ b).symm]
  · simp
  · simpa [trcOnTrip] using hnew

theorem onward_setTripState {new : TripState} (hnew : inFlight new = true) (s : State) : Onward s (setTripState new s) where
  keeps := by simp [keepsBut_iff]
  trc := by
    have htrip := setTripState_trip new s
    have heq : (setTripState new s).trc =
        { s.trc with
          state := new, minDwell := if isDwell new then s.trc.minDwell else none
          settleTimer := if new = .settle then s.trc.settleTimer else none, trip := (setTripState new s).trc.trip } := by
      simp only [setTripState, noteWindows_frame, admOnTrip_frame, driOnTrip_frame, clcOnTrip]
      split <;> simp [trcOnTrip]
    rw [heq, htrip]
    split <;> rfl
  psu := by
    rw [setTripState_psu]
    simp [psuOnTrip]
  dri := by
    rw [setTripState_dri]
    cases new <;> simp [driOnTrip]
  flight := by simpa using hnew
  adm := setTripState_adm_away (isDwell_of_inFlight hnew)
  told := told_setTripState new s
  quiet := fun hs => setTripState_niu_away hs (isDwell_of_inFlight hnew)
  windows := windowsHanded_setTripState new s
  causes := by simp

/-! ## The entries with the doors LOCKED -/

theorem allLocked_congr (hcru : t.cru = s.cru) (hcfg : t.cfg = s.cfg) (hnow : t.now = s.now) :
    allLocked t = allLocked s := by
  have hfresh (c : Car) : isFresh t c = isFresh s c :=
    isFresh_congr c (by rw [hcru]) hnow (by rw [State.params, State.params, hcfg])
  rw [Bool.eq_iff_iff, allLocked_iff, allLocked_iff, hfresh, hfresh, hcru]

theorem silentCheck_fresh {c : Car} (h : isFresh s c = true) : silentCheck c s = s := if_pos h

theorem doorCheck_locked {c : Car} (h : bothLocked (s.cru.get c).poll = true) : doorCheck c s = s := by
  obtain ⟨hl, hr⟩ : (s.cru.get c).poll.left = .locked ∧ (s.cru.get c).poll.right = .locked := by
    simpa [bothLocked] using h
  have hside (d : Side) : doorCheckSide c d s = s := by
    unfold doorCheckSide
    exact if_pos (by cases d <;> simp [doorState, hl, hr])
  unfold doorCheck
  split
  · rw [hside .left, hside .right]
  · rfl

/-- Both brakes show RELEASED. -/
def Lifted (s : State) : Prop := s.brs.sbFb = .released ∧ s.brs.ebFb = .released

theorem enterRunning_lifted (h : Lifted s) : enterRunning s = setTripState .running s := by
  unfold enterRunning
  simp [dragCheck, h.1, h.2]

/-- RELEASE entered with the doors LOCKED: the cars raise nothing (R70, R114), and the release wait completes at once
where both brakes are lifted (R71). -/
theorem enterRelease_locked (h : allLocked s = true) :
    enterRelease s = checkReleased (setTripState .release s) := by
  have hl : allLocked (setTripState .release s) = true := (allLocked_congr (by simp) (by simp) (by simp)).trans h
  obtain ⟨ha, hb, hda, hdb⟩ := allLocked_iff.mp hl
  unfold enterRelease
  rw [silentCheck_fresh ha, silentCheck_fresh hb, doorCheck_locked (c := .a) hda, doorCheck_locked (c := .b) hdb]

theorem checkReleased_lifted (hn : s.brs.stage = .none) (h : Lifted s) :
    checkReleased (setTripState .release s) = setTripState .running (setTripState .release s) := by
  unfold checkReleased
  rw [if_pos ⟨by simp, by simp [hn, timer], by simp [h.1], by simp [h.2]⟩]
  exact enterRunning_lifted ⟨by simp [h.1], by simp [h.2]⟩

theorem checkReleased_waits (h : ¬ (s.brs.stage = .none ∧ Lifted s)) :
    checkReleased (setTripState .release s) = setTripState .release s := by
  unfold checkReleased
  refine if_neg fun ⟨_, hw, hs, he⟩ => h ⟨?_, by simpa using hs, by simpa using he⟩
  by_contra hn
  simp [hn] at hw

theorem onward_enterRelease (h : allLocked s = true) : Onward s (enterRelease s) := by
  have hrel := onward_setTripState (new := .release) rfl s
  rw [enterRelease_locked h]
  by_cases hl : s.brs.stage = .none ∧ Lifted s
  · rw [checkReleased_lifted hl.1 hl.2]
    exact hrel.trans (onward_setTripState rfl _)
  · rw [checkReleased_waits hl]
    exact hrel

/-! ## What RELEASE leaves (R31, R47, R58, R69, R71) -/

theorem setTripState_outputs (hn : s.brs.stage = .none) (new : TripState) :
    (setTripState new s).brs.drivePermit = (decide (new = .running ∨ new = .arriving) && allLocked s) ∧
      (setTripState new s).brs.sbHoldoff = isPowered new ∧ (setTripState new s).brs.ebHoldoff = isPowered new := by
  rw [setTripState_brs, brsOnTrip, updateOutputs_drivePermit, updateOutputs_sbHoldoff, updateOutputs_ebHoldoff,
    wantedOutputs]
  have hlocked (f : Brs → Brs) : allLocked ((trcOnTrip new s).onBrs f) = allLocked s :=
    allLocked_congr (by simp) (by simp) (by simp)
  rw [hlocked]
  cases new <;> simp [outputsWith, hn, isPowered, trcOnTrip]

theorem setTripState_furthest (new : TripState) :
    (setTripState new s).psu.furthest =
      if new = .release then some s.psu.count else if isMoving new then s.psu.furthest else none := by
  rw [setTripState_psu]
  simp [psuOnTrip]

theorem setTripState_basis (new : TripState) :
    (setTripState new s).clc.basis =
      if new = .release then some (if s.psu.ref = .referenced then .profile else .cap)
      else if isMoving new then s.clc.basis else none := by
  simp only [setTripState, noteWindows_frame, admOnTrip_frame, driOnTrip_frame, clcOnTrip]
  split <;> simp

theorem releaseEntered_enterRelease (h : allLocked s = true) (hn : s.brs.stage = .none) :
    ReleaseEntered s (enterRelease s) := by
  obtain ⟨hcauses, hstage, -⟩ := (onward_enterRelease h).causes
  have hl : allLocked (setTripState .release s) = true := (allLocked_congr (by simp) (by simp) (by simp)).trans h
  obtain ⟨hdp, hsb, heb⟩ := setTripState_outputs hn .release
  obtain ⟨hdp', hsb', heb'⟩ := setTripState_outputs (s := setTripState .release s) (by simpa using hn) .running
  refine ⟨hstage.trans hn, hcauses, ?_⟩
  rw [enterRelease_locked h]
  by_cases hlift : Lifted s
  · rw [checkReleased_lifted hn hlift]
    refine ⟨hsb', heb', ?_, ?_, ?_, ?_, ?_, ?_, fun hnot => absurd hlift hnot, fun _ => ⟨?_, hdp'.trans ?_, ?_⟩⟩ <;>
      simp [setTripState_trip, setTripState_furthest, setTripState_basis, isPowered, isMoving, timer, startAt, hl]
  · rw [checkReleased_waits fun hw => hlift hw.2]
    refine ⟨hsb, heb, ?_, ?_, ?_, ?_, ?_, ?_, fun _ => ⟨?_, hdp, ?_⟩, fun hyes => absurd hyes hlift⟩ <;>
      simp [setTripState_trip, setTripState_furthest, setTripState_basis, timer, startAt, hn]

/-! ## SETTLE (R46, R99) -/

/-- SETTLE with the aboard counts frozen and the derating formed. -/
def countsFrozen (s : State) : State :=
  (setTripState .settle s).onTrc fun t =>
    { t with
      frozen := ⟨(setTripState .settle s).adm.loads.a.aboard, (setTripState .settle s).adm.loads.b.aboard⟩
      trip :=
        { t.trip with
          derating := some
            (deratingOf (setTripState .settle s).params (t.trip.direction.getD .upA)
              ⟨(setTripState .settle s).adm.loads.a.aboard, (setTripState .settle s).adm.loads.b.aboard⟩) } }

theorem enterSettle_eq (s : State) :
    enterSettle s =
      if s.params.settleT = 0 then enterRelease (countsFrozen s)
      else (countsFrozen s).onTrc fun t => { t with settleTimer := timer (countsFrozen s) s.params.settleT } := by
  have hp : (countsFrozen s).params = s.params := by simp [countsFrozen, State.params]
  have heq : enterSettle s =
      if (countsFrozen s).params.settleT = 0 then enterRelease (countsFrozen s)
      else (countsFrozen s).onTrc fun t =>
        { t with settleTimer := timer (countsFrozen s) (countsFrozen s).params.settleT } := rfl
  rw [heq, hp]

/-- Writing the settle timer, the frozen counts and the derating of a trip on its way. -/
theorem Onward.onTrc (h : Onward s t) {f : Trc → Trc}
    (hf : f t.trc =
      { t.trc with
        settleTimer := (f t.trc).settleTimer, frozen := (f t.trc).frozen
        trip := { t.trc.trip with derating := (f t.trc).trip.derating } }) : Onward s (t.onTrc f) where
  keeps := by
    have hk := h.keeps
    rw [keepsBut_iff] at hk ⊢
    simpa using hk
  trc := by
    rw [State.onTrc_trc, hf, h.trc]
  psu := by simpa using h.psu
  dri := by simpa using h.dri
  flight := by
    rw [State.onTrc_trc, hf]
    exact h.flight
  adm := by simpa using h.adm
  told := h.told.same (by simp)
  quiet := fun hs => by simpa using h.quiet hs
  windows := by
    have haway : isDwell (t.onTrc f).trc.state = false := by
      rw [State.onTrc_trc, hf]
      exact h.away
    exact h.windows.congr (fun _ => rfl)
      (fun b => (admissionOpen_offDwell haway b).trans (admissionOpen_offDwell h.away b).symm) rfl (by simp)
  causes := by simpa using h.causes

theorem onward_countsFrozen (s : State) : Onward s (countsFrozen s) := (onward_setTripState rfl s).onTrc rfl

theorem onward_enterSettle (h : allLocked s = true) : Onward s (enterSettle s) := by
  have hset := onward_countsFrozen s
  rw [enterSettle_eq]
  split
  · exact hset.trans (onward_enterRelease ((allLocked_congr (by simp [countsFrozen]) (by simp [countsFrozen]) (by simp [countsFrozen])).trans h))
  · exact hset.onTrc rfl

end Sys2Proof.Machine
end

section
/-! The entries to SETTLE and DOORS with the doors LOCKED, and the end of CLOSING (O34, O39, O40, O41, O51). -/

namespace Sys2Proof.Machine

variable {s t u : State}

/-! ## What the entries look at -/

/-- What the entry to RELEASE takes from the state it comes from. -/
theorem ReleaseEntered.from {s' : State} (h : ReleaseEntered s t) (hcfg : s'.cfg = s.cfg)
    (hcauses : s'.brs.causes = s.brs.causes) (hsb : s'.brs.sbFb = s.brs.sbFb) (heb : s'.brs.ebFb = s.brs.ebFb)
    (hcount : s'.psu.count = s.psu.count) (href : s'.psu.ref = s.psu.ref) : ReleaseEntered s' t := by
  unfold ReleaseEntered State.params at *
  rwa [hcfg, hcauses, hsb, heb, hcount, href]

theorem ReleaseEntered.at {t' : State} (h : ReleaseEntered s t) (hbrs : t'.brs = t.brs) (hpsu : t'.psu = t.psu)
    (hclc : t'.clc = t.clc) (hstate : t'.trc.state = t.trc.state) (htrip : t'.trc.trip = t.trc.trip)
    (htimer : t'.trc.settleTimer = t.trc.settleTimer) (hnow : t'.now = t.now) : ReleaseEntered s t' := by
  unfold ReleaseEntered at *
  rwa [hbrs, hpsu, hclc, hstate, htrip, htimer, hnow]

/-- What the entry to SETTLE or DOORS takes from the state it comes from. -/
structure SameRun (s s' : State) : Prop where
  cfg : s'.cfg = s.cfg
  cru : s'.cru = s.cru
  stage : s'.brs.stage = s.brs.stage
  causes : s'.brs.causes = s.brs.causes
  sbFb : s'.brs.sbFb = s.brs.sbFb
  ebFb : s'.brs.ebFb = s.brs.ebFb
  count : s'.psu.count = s.psu.count
  ref : s'.psu.ref = s.psu.ref
  frozen : s'.trc.frozen = s.trc.frozen
  derating : s'.trc.trip.derating = s.trc.trip.derating
  peak : s'.trc.trip.peak = s.trc.trip.peak
  margin : s'.trc.trip.margin = s.trc.trip.margin

theorem SettleEntered.from {s' : State} (h : SettleEntered s t) (hs : SameRun s s') : SettleEntered s' t := by
  obtain ⟨hfrozen, hder, hdoor, hwait, hrel⟩ := h
  have hp : s'.params = s.params := by rw [State.params, State.params, hs.cfg]
  refine ⟨hfrozen, by rwa [hp], hdoor, by rwa [hp, hs.peak, hs.margin], fun h0 hn => ?_⟩
  rw [hp] at h0
  rw [hs.stage] at hn
  exact (hrel h0 hn).from hs.cfg hs.causes hs.sbFb hs.ebFb hs.count hs.ref

/-- What the entries write is of these parts. -/
structure SameEntry (t t' : State) : Prop where
  brs : t'.brs = t.brs
  psu : t'.psu = t.psu
  clc : t'.clc = t.clc
  state : t'.trc.state = t.trc.state
  settleTimer : t'.trc.settleTimer = t.trc.settleTimer
  minDwell : t'.trc.minDwell = t.trc.minDwell
  frozen : t'.trc.frozen = t.trc.frozen
  trip : t'.trc.trip = t.trc.trip
  dri : t'.dri = t.dri
  adm : t'.adm = t.adm
  now : t'.now = t.now

theorem SettleEntered.at {t' : State} (h : SettleEntered s t) (ht : SameEntry t t') : SettleEntered s t' := by
  obtain ⟨hfrozen, hder, hdoor, hwait, hrel⟩ := h
  refine ⟨by rwa [ht.frozen, ht.adm], by rwa [ht.trip, ht.frozen], by rwa [ht.dri],
    by rwa [ht.state, ht.settleTimer, ht.trip, ht.now], fun h0 hn => ?_⟩
  exact (hrel h0 hn).at ht.brs ht.psu ht.clc ht.state ht.trip ht.settleTimer ht.now

theorem DoorsOrSettle.at {t' : State} (h : DoorsOrSettle s t) (ht : SameEntry t t') : DoorsOrSettle s t' := by
  obtain ⟨hwait, hsettle, hphase, hlead, hdwell⟩ := h
  have hl : allLocked { s with now := t'.now } = allLocked { s with now := t.now } := allLocked_congr rfl rfl ht.now
  refine ⟨fun h0 => ?_, fun h1 => (hsettle (hl.symm.trans h1)).at ht, by rwa [ht.dri], by rwa [ht.dri],
    by rwa [ht.minDwell]⟩
  rw [ht.state, ht.settleTimer, ht.frozen, ht.trip, ht.dri, ht.now]
  exact hwait (hl.symm.trans h0)

theorem DoorsOrSettle.from {s' : State} (h : DoorsOrSettle s t) (hs : SameRun s s') : DoorsOrSettle s' t := by
  obtain ⟨hwait, hsettle, hphase, hlead, hdwell⟩ := h
  have hl : allLocked { s' with now := t.now } = allLocked { s with now := t.now } :=
    allLocked_congr hs.cru hs.cfg rfl
  refine ⟨fun h0 => ?_, fun h1 => (hsettle (hl.symm.trans h1)).from hs, hphase, hlead, hdwell⟩
  have hp : s'.params = s.params := by rw [State.params, State.params, hs.cfg]
  rw [hs.frozen, hs.derating, hs.peak, hs.margin]
  rw [hp]
  exact hwait (hl.symm.trans h0)

/-! ## The entries -/

theorem countsFrozen_frozen (s : State) : (countsFrozen s).trc.frozen = ⟨s.adm.loads.a.aboard, s.adm.loads.b.aboard⟩ := by
  have hadm : (setTripState .settle s).adm.loads = s.adm.loads := by
    rw [setTripState_adm_away rfl]
    split <;> rfl
  simp [countsFrozen, hadm]

theorem countsFrozen_derating (s : State) :
    (countsFrozen s).trc.trip.derating =
      some (deratingOf s.params (s.trc.trip.direction.getD .upA) (countsFrozen s).trc.frozen) := by
  simp [countsFrozen, State.params]

theorem driOnTrip_away {new : TripState} (hc : ∀ k, new ≠ .closing k) (hd : new ≠ .doors) (hn : new ≠ .none)
    (hs : new ≠ .stoppedOnLine) : (driOnTrip new s).dri = { s.dri with doorTimer := none } := by
  cases new <;> simp_all [driOnTrip]

theorem setTripState_dri_away {new : TripState} (h : new ∈ [TripState.settle, .release, .running, .arriving]) :
    (setTripState new s).dri = { s.dri with doorTimer := none } := by
  rw [setTripState_dri]
  apply driOnTrip_away <;> (intros; rintro rfl; simp at h)

theorem enterRelease_dri (h : allLocked s = true) : (enterRelease s).dri = { s.dri with doorTimer := none } := by
  rw [enterRelease_locked h]
  by_cases hl : s.brs.stage = .none ∧ Lifted s
  · rw [checkReleased_lifted hl.1 hl.2, setTripState_dri_away (by simp), setTripState_dri_away (by simp)]
  · rw [checkReleased_waits hl, setTripState_dri_away (by simp)]

theorem countsFrozen_dri (s : State) : (countsFrozen s).dri = { s.dri with doorTimer := none } := by
  simp [countsFrozen, setTripState_dri_away]

theorem enterRelease_frozen (h : allLocked s = true) : (enterRelease s).trc.frozen = s.trc.frozen := by
  rw [enterRelease_locked h]
  by_cases hl : s.brs.stage = .none ∧ Lifted s
  · simp [checkReleased_lifted hl.1 hl.2]
  · simp [checkReleased_waits hl]

theorem enterRelease_derating (h : allLocked s = true) :
    (enterRelease s).trc.trip.derating = s.trc.trip.derating ∧ (enterRelease s).trc.trip.direction = s.trc.trip.direction := by
  rw [enterRelease_locked h]
  by_cases hl : s.brs.stage = .none ∧ Lifted s
  · simp [checkReleased_lifted hl.1 hl.2, setTripState_trip]
  · simp [checkReleased_waits hl, setTripState_trip]

theorem Onward.loads (h : Onward s t) : t.adm.loads = s.adm.loads ∧ t.adm.reservations = s.adm.reservations ∧
    t.adm.lanes = s.adm.lanes ∧ t.adm.uncounted = s.adm.uncounted := by
  rw [h.adm]
  split <;> simp

theorem settleEntered_enterSettle (h : allLocked s = true) : SettleEntered s (enterSettle s) := by
  have hl : allLocked (countsFrozen s) = true :=
    (allLocked_congr (by simp [countsFrozen]) (by simp [countsFrozen]) (by simp [countsFrozen])).trans h
  have hon := onward_enterSettle h
  have hfrozen : (enterSettle s).trc.frozen = (countsFrozen s).trc.frozen := by
    rw [enterSettle_eq]
    split
    · exact enterRelease_frozen hl
    · simp
  have hder : (enterSettle s).trc.trip.derating = (countsFrozen s).trc.trip.derating := by
    rw [enterSettle_eq]
    split
    · exact (enterRelease_derating hl).1
    · simp
  have hdir : (enterSettle s).trc.trip.direction = s.trc.trip.direction := by rw [hon.trc]
  refine ⟨?_, fun dir hd => ?_, ?_, fun h0 => ?_, fun h0 hn => ?_⟩
  · rw [hfrozen, countsFrozen_frozen, hon.loads.1]
  · rw [hder, hfrozen, countsFrozen_derating, ← hdir, hd, Option.getD_some]
  · rw [enterSettle_eq]
    split
    · simp [enterRelease_dri hl]
    · simp [countsFrozen_dri]
  · rw [enterSettle_eq, if_neg h0]
    simp [countsFrozen, setTripState_trip, timer, startAt]
  · rw [enterSettle_eq, if_pos h0]
    have hon' := onward_countsFrozen s
    have hpsu := hon'.psu
    refine (releaseEntered_enterRelease hl (by simpa [countsFrozen] using hn)).from ?_ ?_ ?_ ?_ ?_ ?_ <;>
      simp [countsFrozen]

theorem onward_enterDoors (s : State) : Onward s (enterDoors s) := by
  have hdoors := onward_setTripState (new := .doors) rfl s
  unfold enterDoors checkDoors
  split
  next h => exact hdoors.trans (onward_enterSettle h.2)
  next => exact hdoors

theorem sameRun_setTripState {new : TripState} (h : new ≠ .release) (s : State) : SameRun (setTripState new s) s := by
  constructor <;> simp [setTripState_trip, h]

theorem enterSettle_dri (h : allLocked s = true) : (enterSettle s).dri = { s.dri with doorTimer := none } := by
  have hl : allLocked (countsFrozen s) = true :=
    (allLocked_congr (by simp [countsFrozen]) (by simp [countsFrozen]) (by simp [countsFrozen])).trans h
  rw [enterSettle_eq]
  split
  · rw [enterRelease_dri hl, countsFrozen_dri]
  · simp [countsFrozen_dri]

theorem setTripState_dri_doors (s : State) :
    (setTripState .doors s).dri =
      { s.dri with phase := .none, leadTimer := none, doorTimer := timer s (s.params.doorTmo * 1000) } := by
  rw [setTripState_dri]
  rfl

/-- Off DWELL the MIN_DWELL timer does not run on. -/
theorem enterSettle_minDwell (h : allLocked s = true) : (enterSettle s).trc.minDwell = none := by
  have hl : allLocked (countsFrozen s) = true :=
    (allLocked_congr (by simp [countsFrozen]) (by simp [countsFrozen]) (by simp [countsFrozen])).trans h
  have hfrozen : (countsFrozen s).trc.minDwell = none := by simp [countsFrozen, isDwell]
  rw [enterSettle_eq]
  split
  · rw [enterRelease_locked hl]
    by_cases hlift : (countsFrozen s).brs.stage = .none ∧ Lifted (countsFrozen s)
    · simp [checkReleased_lifted hlift.1 hlift.2, isDwell]
    · simp [checkReleased_waits hlift, isDwell]
  · simpa using hfrozen

theorem doorsOrSettle_enterDoors (s : State) : DoorsOrSettle s (enterDoors s) := by
  have hnow : (enterDoors s).now = s.now := by simp
  have hlocked : allLocked { s with now := (enterDoors s).now } = allLocked s := allLocked_congr rfl rfl hnow
  have hdoors : allLocked (setTripState .doors s) = allLocked s := allLocked_congr (by simp) (by simp) (by simp)
  by_cases hl : allLocked s = true
  · have heq : enterDoors s = enterSettle (setTripState .doors s) := by
      unfold enterDoors checkDoors
      rw [if_pos ⟨by simp, hdoors.trans hl⟩]
    have hdri := enterSettle_dri (hdoors.trans hl)
    rw [setTripState_dri_doors] at hdri
    refine ⟨fun h0 => by simp [hl] at h0, fun _ => ?_, ?_, ?_, ?_⟩
    · rw [heq]
      exact (settleEntered_enterSettle (hdoors.trans hl)).from (sameRun_setTripState (by simp) s)
    · rw [heq, hdri]
    · rw [heq, hdri]
    · rw [heq]
      exact enterSettle_minDwell (hdoors.trans hl)
  · have heq : enterDoors s = setTripState .doors s := by
      unfold enterDoors checkDoors
      rw [if_neg fun h => hl (hdoors.symm.trans h.2)]
    refine ⟨fun _ => ?_, fun h1 => absurd (hlocked.symm.trans h1) hl, ?_, ?_, ?_⟩
    all_goals rw [heq]
    · simp [setTripState_trip, setTripState_dri_doors, timer, startAt]
    · simp [setTripState_dri_doors]
    · simp [setTripState_dri_doors]
    · simp [isDwell]

/-! ## The end of CLOSING (R97, R133) -/

theorem reservationsEmpty_closing {k : Stop} (h : s.trc.state = .closing k) (hr : s.adm.reservations = []) :
    reservationsEmpty s = enterDoors s := by
  simp [reservationsEmpty, h, hr]

theorem reservationsEmpty_offClosing (h : isClosing s.trc.state = false) : reservationsEmpty s = s := by
  unfold reservationsEmpty
  split
  next hk => simp [hk, isClosing] at h
  next => rfl

theorem handIfEmpty_closing {k : Stop} (h : s.trc.state = .closing k) (hr : s.adm.reservations = []) :
    handIfEmpty s = enterDoors s := by
  simp [handIfEmpty, hr, reservationsEmpty_closing h hr]

/-- Out of CLOSING, and while other reservations are open, the end of a reservation takes the trip nowhere. -/
theorem handIfEmpty_same (h : isClosing s.trc.state = false ∨ s.adm.reservations ≠ []) : handIfEmpty s = s := by
  unfold handIfEmpty
  split
  next he =>
    refine reservationsEmpty_offClosing (h.resolve_right fun hne => hne ?_)
    simpa using he
  next => rfl

/-- The last reservation ends in CLOSING: `s'` is `s` with the reservation gone and the admission unit written. -/
theorem closingEnds_enterDoors (hr : u.adm.reservations = [])
    (hk : KeepsBut [.now, .adm, .notices] s u) : ClosingEnds s (enterDoors u) := by
  have hon := onward_enterDoors u
  have hentry := doorsOrSettle_enterDoors u
  have hkeep := hon.keeps
  rw [keepsBut_iff] at hk
  have hrun : SameRun u s := by
    simp at hk
    constructor <;> simp [hk]
  refine ⟨hon.loads.2.1.trans hr, hentry.from hrun, ?_, ?_⟩
  · have htrc : u.trc = s.trc := by
      simp at hk
      exact hk.2.2.2.2.2.2.1
    have heq := hon.trc
    rw [hentry.2.2.2.2] at heq
    rw [← htrc]
    exact heq
  · rw [keepsBut_iff] at hkeep ⊢
    simp_all

end Sys2Proof.Machine
end

section
/-! The requests of the gate stations and the console's requests on lanes and loads (O38, O39, O40, O41). -/

namespace Sys2Proof.Machine

variable {s t u : State} {l : Lane} {r : LaneRef} {k : LaneKind}

/-! ## The lane a gate request names (R127) -/

theorem atLane_named (go : Lane → Answer) (hl : namedLane s r = some l) (hk : l.kind = k) :
    atLane (gateStation l.id.gate) k r go s = go l := by
  simp [atLane, gateCheck, hl, hk]

theorem atLane_refused {st : Station} {why : Reason} (go : Lane → Answer) (h : LaneRefusal s st r k why) :
    atLane st k r go s = ⟨s, .refused why, .nothing⟩ := by
  obtain ⟨hn, rfl⟩ | ⟨l, hl, ⟨hst, rfl⟩ | ⟨hst, hk, rfl⟩⟩ := h
  · simp [atLane, gateCheck, hn, deny, refuse]
  · simp [atLane, gateCheck, hl, hst, deny, refuse]
  · simp [atLane, gateCheck, hl, hst, hk, deny, refuse]

/-- A gate station may send the requests of its lanes. -/
theorem heard_gate {r : Request} (hr : (catalogue r).permit = .gates) (hreset : s.pins.resetLow = false) (g : Gate) :
    Heard r (gateStation g) s := by
  refine ⟨hreset, ?_⟩
  rw [hr]
  cases g <;> rfl

/-! ## ADMIT (O38) -/

theorem takeAdmit_granted {c : Car} (hl : namedLane s r = some l) (hk : l.kind = .entry) (h : admitCheck s l = .ok c) :
    takeAdmit (gateStation l.id.gate) r s = ⟨grant l c s, .ok, .granted c (placesLeft (grant l c s) c)⟩ := by
  rw [takeAdmit, atLane_named _ hl hk, h]
  rfl

theorem takeAdmit_denied {why : Reason} {data : ReplyData} (hl : namedLane s r = some l) (hk : l.kind = .entry)
    (h : admitCheck s l = .error (why, data)) :
    takeAdmit (gateStation l.id.gate) r s = ⟨s, .refused why, data⟩ := by
  rw [takeAdmit, atLane_named _ hl hk, h]
  rfl

theorem placesLeft_grant (c : Car) :
    placesLeft (grant l c s) c = s.params.capacity - ((s.adm.loads.get c).aboard + reservedFor s c + 1) := by
  simp [placesLeft, grant, reservedFor, State.params, Nat.add_assoc]

/-- Settles O38: the checks of ADMIT in their order. -/
theorem admitGrants : Obligations.AdmitGrants := by
  unfold Obligations.AdmitGrants
  refine ⟨fun r l s hreset hl hk => ?checked, fun st r why s hh h => request_refused _ hh _ (atLane_refused _ h)⟩
  have hheard : Heard .admitPerson (gateStation l.id.gate) s := heard_gate rfl hreset _
  refine ⟨fun c hen hres hc hopen hroom => ?granted, fun hen => ?laneFault, fun hen hres => ?busy,
    fun hen hres hclosed => ?closed, fun c hen hres hc hopen hroom => ?full⟩
  case granted =>
    have ha := takeAdmit_granted hl hk (c := c) (by simp [admitCheck, hen, hres, hc, hopen, hroom])
    exact ⟨_, request_answer hheard ha, by simp [placesLeft_grant], by simp [grant, onLane, startAt, State.params],
      by simp [keepsBut_iff]⟩
  case laneFault =>
    exact request_refused _ hheard _ (takeAdmit_denied hl hk (by simp [admitCheck, hen]))
  case busy =>
    exact request_refused _ hheard _ (takeAdmit_denied hl hk (by simp [admitCheck, hen, hres]))
  case closed =>
    refine request_refused _ hheard _ (takeAdmit_denied hl hk ?_)
    cases hc : boundCar s l.platform with
    | none => simp [admitCheck, hen, hres, hc]
    | some c => simp [admitCheck, hen, hres, hc, hclosed.resolve_left (by simp [hc])]
  case full =>
    exact request_refused _ hheard _ (takeAdmit_denied hl hk (by simp [admitCheck, hen, hres, hc, hopen, hroom]))

/-! ## Reservations that end (R126, R133) -/

/-- The last reservation ends in CLOSING: what the trip goes on to stands in any state that keeps its parts. -/
theorem ClosingEnds.at {t' : State} (h : ClosingEnds s t) (ht : SameEntry t t') (htrc' : t'.trc = t.trc)
    (hk : KeepsBut [.now, .psu, .clc, .brs, .trc, .dri, .adm, .notices] s t') : ClosingEnds s t' := by
  obtain ⟨hres, hdoors, htrc, -⟩ := h
  exact ⟨by rwa [ht.adm], hdoors.at ht, by rwa [htrc'], hk⟩

theorem sameEntry_replyTo (r : Request) (st : Station) (a : Answer) : SameEntry a.state (replyTo r st s a) := by
  constructor <;> simp

theorem sameEntry_takenUp (i : Instr) (t : State) : SameEntry t (takenUp i (finish s t)) := by
  constructor <;> simp

theorem ClosingEnds.replyTo {u : State} {status : Status} {data : ReplyData} (h : ClosingEnds s t) (r : Request)
    (st : Station) : ClosingEnds s (replyTo r st u ⟨t, status, data⟩) :=
  h.at (sameEntry_replyTo r st ⟨t, status, data⟩) (by simp) (by simpa using h.2.2.2)

theorem ClosingEnds.takenUp {u : State} (h : ClosingEnds s t) (i : Instr) : ClosingEnds s (takenUp i (finish u t)) :=
  h.at (sameEntry_takenUp i t) (by simp) (by simpa using h.2.2.2)

/-- The only reservation, of this lane, is gone. -/
theorem dropReservation_only {id : LaneId} {e : Reservation} (h : s.adm.reservations = [e]) (he : e.lane = id) :
    (dropReservation id s).adm.reservations = [] := by
  simp [dropReservation, h, he]

theorem reservationOf_only {id : LaneId} {e : Reservation} (h : s.adm.reservations = [e]) (he : e.lane = id) :
    reservationOf s id = some e := by
  simp [reservationOf, h, he]

theorem filter_of_reservationOf_none {id : LaneId} (h : reservationOf s id = none) :
    s.adm.reservations.filter (fun x => x.lane ≠ id) = s.adm.reservations := by
  rw [List.filter_eq_self]
  simpa using reservationOf_eq_none.mp h

/-! ## ABANDONED and LAPSE (O40) -/

/-- A reservation abandoned, before the trip is told (R131). -/
def abandonedAt (id : LaneId) (s : State) : State := onLane id (fun o => { o with lapses := 0 }) (dropReservation id s)

theorem takeAbandoned_open (hl : namedLane s r = some l) (hk : l.kind = .entry) (h : (reservationOf s l.id).isSome = true) :
    takeAbandoned (gateStation l.id.gate) r s = ⟨handIfEmpty (abandonedAt l.id s), .ok, .nothing⟩ := by
  rw [takeAbandoned, atLane_named _ hl hk, if_pos h]
  rfl

theorem takeAbandoned_none (hl : namedLane s r = some l) (hk : l.kind = .entry) (h : reservationOf s l.id = none) :
    takeAbandoned (gateStation l.id.gate) r s = ⟨s, .refused .noReservation, .nothing⟩ := by
  rw [takeAbandoned, atLane_named _ hl hk, h]
  rfl

theorem laneOpAt_onLane {id : LaneId} {f : LaneOp → LaneOp} (hf : ∀ o, (f o).id = o.id) (s : State) :
    laneOpAt (onLane id f s) id = (laneOpAt s id).map f := by
  have hfind (ops : List LaneOp) : (ops.map fun o => if o.id = id then f o else o).find? (fun o => o.id = id) =
      (ops.find? fun o => o.id = id).map f := by
    induction ops with
    | nil => rfl
    | cons o rest ih => by_cases ho : o.id = id <;> simp [ho, hf, ih]
  simpa [laneOpAt, onLane] using hfind s.adm.lanes

/-- A reservation that lapses, before the trip is told (R132). -/
def lapsedAt (id : LaneId) (s : State) : State :=
  let s1 := onLane id lapseLane (dropReservation id s)
  if ((laneOpAt s1 id).map (·.lapses)) = some Config.lapseMax then handLaneFault id .lapses s1 else s1

theorem lapsedAt_adm (id : LaneId) (s : State) :
    (lapsedAt id s).adm =
      { s.adm with
        lanes := s.adm.lanes.map fun o =>
          if o.id = id then
            { o with
              lapsed := true, lapses := min 3 (o.lapses + 1)
              state := if min 3 (o.lapses + 1) = 3 then .fault else o.state }
          else o
        reservations := s.adm.reservations.filter fun x => x.lane ≠ id } := by
  have hadm : (lapsedAt id s).adm = (onLane id lapseLane (dropReservation id s)).adm := by
    unfold lapsedAt
    dsimp only
    split <;> simp
  rw [hadm]
  rfl

@[simp] theorem lapsedAt_frame (id : LaneId) (s : State) :
    (lapsedAt id s).cfg = s.cfg ∧ (lapsedAt id s).cru = s.cru ∧ (lapsedAt id s).psu = s.psu ∧
      (lapsedAt id s).clc = s.clc ∧ (lapsedAt id s).brs = s.brs ∧ (lapsedAt id s).trc = s.trc ∧
      (lapsedAt id s).dri = s.dri ∧ (lapsedAt id s).lsu = s.lsu ∧ (lapsedAt id s).lbp = s.lbp ∧
      (lapsedAt id s).pins = s.pins ∧ (lapsedAt id s).now = s.now ∧ (lapsedAt id s).pending = s.pending ∧
      (lapsedAt id s).niu.incidents = s.niu.incidents ∧ (lapsedAt id s).niu.overflow = s.niu.overflow ∧
      (lapsedAt id s).niu.seq = s.niu.seq ∧ (lapsedAt id s).niu.resetCauses = s.niu.resetCauses := by
  unfold lapsedAt
  dsimp only
  split <;> simp

theorem laneOpAt_lapsed (id : LaneId) (s : State) :
    ((laneOpAt (onLane id lapseLane (dropReservation id s)) id).map (·.lapses)) =
      (laneOpAt s id).map fun o => min 3 (o.lapses + 1) := by
  rw [laneOpAt_onLane (f := lapseLane) fun _ => rfl]
  simp [laneOpAt, lapseLane, satAdd, Config.lapseMax, Function.comp_def]

/-- At the third lapse in a row LANE_FAULT is pending for the gate station and CON (R132). -/
theorem lapsedAt_told {id : LaneId} {o : LaneOp} (ho : laneOpAt s id = some o) (h : 2 ≤ o.lapses) {st : Station}
    (hst : st ∈ [gateStation id.gate, .con]) : isPending ((lapsedAt id s).niu.notices.get st) .laneFault = true := by
  have hmax : min 3 (o.lapses + 1) = 3 := by omega
  unfold lapsedAt
  dsimp only
  rw [if_pos (by rw [laneOpAt_lapsed, ho]; simp [hmax, Config.lapseMax])]
  exact isPending_hand _ _ _ hst

theorem lapsedAt_quiet {id : LaneId} (h : ∀ o, laneOpAt s id = some o → o.lapses < 2) :
    lapsedAt id s = onLane id lapseLane (dropReservation id s) := by
  unfold lapsedAt
  dsimp only
  rw [if_neg]
  rw [laneOpAt_lapsed]
  cases ho : laneOpAt s id with
  | none => simp
  | some o =>
    have hlt := h o ho
    simp [Config.lapseMax]
    omega

theorem lapse_eq (id : LaneId) (s : State) : lapse id s = handIfEmpty (lapsedAt id s) := rfl

theorem execLapse_open {id : LaneId} {e : Reservation} (hreset : s.pins.resetLow = false)
    (ho : isOvertaken s (.lapse id) = false) (he : reservationOf s id = some e) :
    exec (.lapse id) s = .next (takenUp (.lapse id) (finish s (handIfEmpty (lapsedAt id (advanceTo e.timer.due s))))) :=
  timed_acts (rfl : execLapse id s = _) hreset ho (by simp [he, lapse_eq])

theorem othersWait_ne_nil {id : LaneId} (h : othersWait s id = true) :
    s.adm.reservations.filter (fun x => x.lane ≠ id) ≠ [] := by
  obtain ⟨r, hr, hne⟩ := List.any_eq_true.mp h
  exact List.ne_nil_of_mem (List.mem_filter.mpr ⟨hr, hne⟩)

/-- The reservation list is not empty, or the trip is not waiting for it: the lane's writing is all there is. -/
theorem handIfEmpty_adm {id : LaneId} (hts : u.trc.state = s.trc.state)
    (hres : u.adm.reservations = s.adm.reservations.filter (fun x => x.lane ≠ id))
    (h : isClosing s.trc.state = false ∨ othersWait s id = true) : handIfEmpty u = u := by
  refine handIfEmpty_same (h.imp (fun hc => by rwa [hts]) fun ho => ?_)
  rw [hres]
  exact othersWait_ne_nil ho

theorem filter_only {id : LaneId} {e : Reservation} (h : s.adm.reservations = [e]) (he : e.lane = id) :
    s.adm.reservations.filter (fun x => x.lane ≠ id) = [] := by
  simp [h, he]

/-- Settles O40. -/
theorem reservationsEnd : Obligations.ReservationsEnd := by
  unfold Obligations.ReservationsEnd
  refine ⟨fun r l s hreset hl hk => ⟨fun hopen hwait => ?abandoned, fun hnone => ?noReservation,
      fun k e hts hres he => ?lastAbandoned⟩,
    fun id e s hreset he hwait ho => ?lapse, fun id e k s hreset hts hres he ho => ?lastLapse,
    fun id s hreset hnone => ?idle, fun st r why s hh h => request_refused _ hh _ (atLane_refused _ h)⟩
  case abandoned =>
    have hsame : handIfEmpty (abandonedAt l.id s) = abandonedAt l.id s :=
      handIfEmpty_adm (by simp [abandonedAt]) (by simp [abandonedAt, dropReservation]) hwait
    have ha := takeAbandoned_open hl hk hopen
    rw [hsame] at ha
    exact ⟨_, request_answer (r := .abandoned) (heard_gate rfl hreset _) ha, by simp,
      by simp [abandonedAt, onLane, dropReservation], by simp [keepsBut_iff, abandonedAt]⟩
  case noReservation =>
    exact request_refused _ (heard_gate rfl hreset _) _ (takeAbandoned_none hl hk hnone)
  case lastAbandoned =>
    have hempty : (abandonedAt l.id s).adm.reservations = [] := by
      simpa [abandonedAt] using dropReservation_only hres he
    have ha := takeAbandoned_open hl hk (by simp [reservationOf_only hres he])
    rw [handIfEmpty_closing (k := k) (by simpa [abandonedAt] using hts) hempty] at ha
    have hends : ClosingEnds s (enterDoors (abandonedAt l.id s)) :=
      closingEnds_enterDoors hempty (by simp [keepsBut_iff, abandonedAt])
    obtain ⟨hloads, -, hlanes, -⟩ := (onward_enterDoors (abandonedAt l.id s)).loads
    refine ⟨_, request_answer (r := .abandoned) (heard_gate rfl hreset _) ha, by simp, ?_, ?_, hends.replyTo _ _⟩
    · simpa [abandonedAt] using hloads
    · simp only [replyTo_frame]
      exact hlanes
  case lapse =>
    have hsame : handIfEmpty (lapsedAt id (advanceTo e.timer.due s)) = lapsedAt id (advanceTo e.timer.due s) :=
      handIfEmpty_adm (s := s) (by simp) (by rw [lapsedAt_adm]; rfl) hwait
    refine ⟨_, execLapse_open hreset ho he, ?_⟩
    rw [hsame]
    refine ⟨by simp, by simp [lapsedAt_adm], fun o hop h2 => ?_, fun o hop h2 => ?_, by simp [keepsBut_iff]⟩
    · have htold {st : Station} (hst : st ∈ [gateStation id.gate, .con]) :=
        lapsedAt_told (s := advanceTo e.timer.due s) (id := id) (by simpa [laneOpAt] using hop) h2 hst
      exact ⟨by simpa using htold (st := gateStation id.gate) (by simp), by simpa using htold (st := .con) (by simp)⟩
    · rw [lapsedAt_quiet fun o' hop' => ?_]
      · simp [keepsBut_iff]
      · have heq : some o' = some o := hop'.symm.trans hop
        cases heq
        exact h2
  case lastLapse =>
    have hof := reservationOf_only hres he
    have hempty : (lapsedAt id (advanceTo e.timer.due s)).adm.reservations = [] := by
      rw [lapsedAt_adm]
      exact filter_only hres he
    have hkeep : KeepsBut [.now, .adm, .notices] s (lapsedAt id (advanceTo e.timer.due s)) := by
      simp [keepsBut_iff]
    have hends := closingEnds_enterDoors hempty hkeep
    obtain ⟨hloads, -, hlanes, -⟩ := (onward_enterDoors (lapsedAt id (advanceTo e.timer.due s))).loads
    refine ⟨_, execLapse_open hreset ho hof, ?_⟩
    rw [handIfEmpty_closing (k := k) (by simpa using hts) hempty]
    refine ⟨?_, ?_, ?_, hends.takenUp _⟩
    · simp
    · simpa [lapsedAt_adm] using hloads
    · simpa [lapsedAt_adm] using hlanes
  case idle =>
    refine ⟨_, timed_idle (rfl : execLapse id s = _) hreset fun _ => by simp [hnone], by simp [KeepsBut.refl]⟩

end Sys2Proof.Machine
end

section
/-! Passages, exits, and the console's requests on lanes and loads (O39, O41). -/

namespace Sys2Proof.Machine

variable {s t u : State} {l : Lane} {r : LaneRef}

/-! ## A person counted (R128, R129, R130) -/

theorem CountedAtPlace.at {place : CountedAt} {t' : State} (h : CountedAtPlace place s t)
    (hloads : t'.adm.loads = t.adm.loads) (hun : t'.adm.uncounted = t.adm.uncounted) : CountedAtPlace place s t' := by
  unfold CountedAtPlace at *
  rwa [hloads, hun]

/-- One more aboard a car. -/
theorem countedAt_aboard {c : Car}
    (hloads : t.adm.loads = s.adm.loads.set c { s.adm.loads.get c with aboard := (s.adm.loads.get c).aboard + 1 })
    (hun : t.adm.uncounted = s.adm.uncounted) : CountedAtPlace (.aboard c) s t := by
  refine ⟨fun o => ?_, fun b => by rw [hun]⟩
  rw [hloads]
  by_cases ho : o = c
  · subst ho
    simp
  · simp [PerCar.get_set_other _ _ ho, Ne.symm ho]

theorem countedAt_uncounted {c : Car}
    (hloads : t.adm.loads =
      s.adm.loads.set c { s.adm.loads.get c with uncounted := min 255 ((s.adm.loads.get c).uncounted + 1) })
    (hun : t.adm.uncounted = s.adm.uncounted) : CountedAtPlace (.uncounted c) s t := by
  refine ⟨fun o => ?_, fun b => by rw [hun]⟩
  rw [hloads]
  by_cases ho : o = c
  · subst ho
    simp
  · simp [PerCar.get_set_other _ _ ho, Ne.symm ho]

theorem countedAt_platform {q : Platform} (hloads : t.adm.loads = s.adm.loads)
    (hun : t.adm.uncounted = s.adm.uncounted.set (berthOf q) (min 255 (s.adm.uncounted.get (berthOf q) + 1))) :
    CountedAtPlace (.platform q) s t := by
  refine ⟨fun o => by simp [hloads], fun b => ?_⟩
  rw [hun]
  by_cases hb : berthOf q = b
  · subst hb
    simp
  · simp [hb, PerBerth.get_set_other _ _ (Ne.symm hb)]

theorem countedAt_countPerson (pf : Platform) (s : State) : CountedAtPlace (countPlace s pf) s (countPerson pf s) := by
  cases hp : countPlace s pf with
  | aboard c => exact countedAt_aboard (by simp [countPerson, hp, onLoad]) (by simp [countPerson, hp])
  | uncounted c =>
    exact countedAt_uncounted (by simp [countPerson, hp, onLoad, satAdd, Config.count255])
      (by simp [countPerson, hp])
  | platform q =>
    exact countedAt_platform (by simp [countPerson, hp])
      (by simp [countPerson, hp, satAdd, Config.count255])

/-- Where a person is counted hangs on no lane. -/
theorem countPlace_onLane (id : LaneId) (f : LaneOp → LaneOp) (pf : Platform) :
    countPlace (onLane id f s) pf = countPlace s pf := rfl

theorem boundAt_berthAt (k : Stop) (c : Car) (b : Berth) : boundAt k b = some c ↔ berthAt k c = b := by
  cases k <;> cases c <;> cases b <;> decide

theorem boundTo_iff (pf : Platform) (c : Car) : BoundTo s pf c ↔ boundCar s pf = some c := by
  unfold BoundTo boundCar boundIn
  split
  next k _ hk => simp [hk, boundAt_berthAt]
  next k _ hk => simp [hk, boundAt_berthAt]
  next hd hc =>
    refine iff_of_false (fun ⟨k, hk, _⟩ => ?_) (by simp)
    exact hk.elim (hd k) (hc k)

/-- The car bound to the platform, aboard while it has room, else the platform (R129). -/
theorem personCountedAt (s : State) (pf : Platform) : PersonCountedAt s pf (countPlace s pf) := by
  refine ⟨fun c hc => ⟨fun hroom => ?_, fun hfull => ?_⟩, fun hnone => ?_⟩
  · have hr : hasRoom s c = true := decide_eq_true hroom
    simp [countPlace, (boundTo_iff pf c).mp hc, hr]
  · have hr : hasRoom s c = false := decide_eq_false (Nat.not_lt.mpr hfull)
    simp [countPlace, (boundTo_iff pf c).mp hc, hr]
  · have hn : boundCar s pf = none := by
      rw [Option.eq_none_iff_forall_ne_some]
      exact fun c hc => hnone c ((boundTo_iff pf c).mpr hc)
    simp [countPlace, hn]

/-! ## PASSED (O39) -/

/-- A reservation taken up, before the trip is told (R128). -/
def boardedAt (l : Lane) (e : Reservation) (s : State) : State :=
  onLane l.id (fun o => { o with lapses := 0 }) <|
    onLoad e.car (fun x => { x with aboard := x.aboard + 1 }) (dropReservation l.id s)

theorem takePassed_reserved {e : Reservation} (hl : namedLane s r = some l) (hk : l.kind = .entry)
    (he : reservationOf s l.id = some e) :
    takePassed (gateStation l.id.gate) r s =
      ⟨handIfEmpty (boardedAt l e s), .ok, .passage .reserved (.aboard e.car)⟩ := by
  rw [takePassed, atLane_named _ hl hk, he]
  rfl

theorem takePassed_late (hl : namedLane s r = some l) (hk : l.kind = .entry) (hn : reservationOf s l.id = none)
    (h : laneLapsed s l.id = true) :
    takePassed (gateStation l.id.gate) r s = ⟨passLate l s, .ok, .passage .late (countPlace s l.platform)⟩ := by
  rw [takePassed, atLane_named _ hl hk, hn]
  exact if_pos h

theorem takePassed_unauthorised (hl : namedLane s r = some l) (hk : l.kind = .entry) (hn : reservationOf s l.id = none)
    (h : laneLapsed s l.id = false) :
    takePassed (gateStation l.id.gate) r s =
      ⟨passUnauthorised l s, .ok, .passage .unauthorised (countPlace s l.platform)⟩ := by
  rw [takePassed, atLane_named _ hl hk, hn]
  exact if_neg (by simp [h])

theorem boardedAt_counted (l : Lane) (e : Reservation) : CountedAtPlace (.aboard e.car) s (boardedAt l e s) :=
  countedAt_aboard (by simp [boardedAt, onLoad]) (by simp [boardedAt])

theorem boardedAt_reservations (e : Reservation) :
    (boardedAt l e s).adm.reservations = s.adm.reservations.filter fun x => x.lane ≠ l.id := by
  simp [boardedAt, dropReservation]

/-- Settles O39. -/
theorem passageCounted : Obligations.PassageCounted := by
  unfold Obligations.PassageCounted
  refine ⟨fun r l s hreset hl hk => ⟨fun e he hwait => ?reserved, fun k e hts hres he => ?last, fun hn hlap => ?late,
      fun hn hlap => ?unauthorised⟩,
    fun st r why s hh h => request_refused _ hh _ (atLane_refused _ h), personCountedAt⟩
  case reserved =>
    have hsame : handIfEmpty (boardedAt l e s) = boardedAt l e s :=
      handIfEmpty_adm (by simp [boardedAt]) (boardedAt_reservations e) hwait
    have ha := takePassed_reserved hl hk he
    rw [hsame] at ha
    refine ⟨_, request_answer (r := .passed) (heard_gate rfl hreset _) ha, by simp, ?_,
      (boardedAt_counted l e).at (by simp) (by simp), ?_, by simp [boardedAt], by simp [keepsBut_iff, boardedAt]⟩
    · simpa using boardedAt_reservations e
    · simp [boardedAt, onLane]
  case last =>
    have hempty : (boardedAt l e s).adm.reservations = [] := by
      rw [boardedAt_reservations]
      exact filter_only hres he
    have ha := takePassed_reserved hl hk (reservationOf_only hres he)
    rw [handIfEmpty_closing (k := k) (by simpa [boardedAt] using hts) hempty] at ha
    have hends : ClosingEnds s (enterDoors (boardedAt l e s)) :=
      closingEnds_enterDoors hempty (by simp [keepsBut_iff, boardedAt])
    obtain ⟨hloads, -, hlanes, hun⟩ := (onward_enterDoors (boardedAt l e s)).loads
    refine ⟨_, request_answer (r := .passed) (heard_gate rfl hreset _) ha, by simp,
      (boardedAt_counted l e).at (by simpa using hloads) (by simpa using hun), ?_, hends.replyTo _ _⟩
    simpa [boardedAt, onLane] using hlanes
  case late =>
    have hcount : CountedAtPlace (countPlace s l.platform) s (passLate l s) := by
      have h := countedAt_countPerson l.platform (onLane l.id (fun o => { o with lapsed := false }) s)
      rw [countPlace_onLane] at h
      unfold CountedAtPlace at *
      simpa [passLate] using h
    exact ⟨_, request_answer (r := .passed) (heard_gate rfl hreset _) (takePassed_late hl hk hn hlap), by simp,
      by simp [passLate], hcount.at (by simp) (by simp), by simp [passLate, onLane], by simp [passLate],
      by simp [keepsBut_iff, passLate]⟩
  case unauthorised =>
    have htold {st : Station} (hst : st ∈ [gateStation l.id.gate, .con]) :
        isPending ((passUnauthorised l s).niu.notices.get st) .laneFault = true := isPending_hand _ _ _ hst
    exact ⟨_, request_answer (r := .passed) (heard_gate rfl hreset _) (takePassed_unauthorised hl hk hn hlap), by simp,
      by simp [passUnauthorised], (countedAt_countPerson l.platform s).at (by simp [passUnauthorised])
        (by simp [passUnauthorised]), by simp [passUnauthorised, onLane], by simp [passUnauthorised],
      by simpa using htold (st := gateStation l.id.gate) (by simp), by simpa using htold (st := .con) (by simp),
      by simp [keepsBut_iff, passUnauthorised]⟩

/-! ## EXITED, lanes and loads (O41) -/

theorem takeExited_counted {c : Car} (hl : namedLane s r = some l) (hk : l.kind = .exit)
    (hopen : alightingOpen s (berthOf l.platform) = true) (hc : boundCar s l.platform = some c) :
    takeExited (gateStation l.id.gate) r s =
      ⟨onLoad c (fun x => { x with aboard := x.aboard - 1 }) s, .ok, .exit (some (c, (s.adm.loads.get c).aboard - 1))⟩ := by
  rw [takeExited, atLane_named _ hl hk]
  simp [exitCar, hopen, hc, accept, onLoad]

theorem takeExited_closed (hl : namedLane s r = some l) (hk : l.kind = .exit)
    (hopen : alightingOpen s (berthOf l.platform) = false) :
    takeExited (gateStation l.id.gate) r s = ⟨s, .ok, .exit none⟩ := by
  rw [takeExited, atLane_named _ hl hk]
  simp [exitCar, hopen, accept]

theorem takeEnableLane_named (hl : namedLane s r = some l) :
    takeEnableLane r s =
      ⟨onLane l.id (fun o => { o with state := .enabled, lapsed := false, lapses := 0 }) s, .ok, .nothing⟩ := by
  simp [takeEnableLane, hl, accept]

theorem takeDisableLane_named (hl : namedLane s r = some l) : takeDisableLane r s = ⟨disable l.id s, .ok, .nothing⟩ := by
  simp [takeDisableLane, hl, accept]

/-- A lane disabled with its reservation ended, before the trip is told (R137). -/
def disabledAt (id : LaneId) (s : State) : State :=
  onLane id (fun o => { o with lapsed := true }) (dropReservation id (onLane id (fun o => { o with state := .disabled }) s))

theorem disable_open {id : LaneId} (h : (reservationOf s id).isSome = true) : disable id s = handIfEmpty (disabledAt id s) :=
  if_pos h

theorem disable_free {id : LaneId} (h : reservationOf s id = none) :
    disable id s = onLane id (fun o => { o with state := .disabled }) s := by
  simp [disable, h]

theorem disabledAt_adm (id : LaneId) (s : State) :
    (disabledAt id s).adm =
      { s.adm with
        lanes := s.adm.lanes.map fun o => if o.id = id then { o with state := .disabled, lapsed := true } else o
        reservations := s.adm.reservations.filter fun x => x.lane ≠ id } := by
  have hmap : (s.adm.lanes.map fun o => if o.id = id then { o with state := LaneState.disabled } else o).map
      (fun o => if o.id = id then { o with lapsed := true } else o) =
      s.adm.lanes.map fun o => if o.id = id then { o with state := .disabled, lapsed := true } else o := by
    rw [List.map_map]
    refine List.map_congr_left fun o _ => ?_
    by_cases ho : o.id = id <;> simp [ho]
  rw [← hmap]
  rfl

theorem takeAdjustLoad_accepted {c : Car} (v : Int) (h : inFlight s.trc.state = false) :
    takeAdjustLoad (.listed c, v) s =
      ⟨onLoad c (fun x => { x with aboard := clampNat 0 (s.params.capacity - reservedFor s c) v }) s,
        if (clampNat 0 (s.params.capacity - reservedFor s c) v : Int) = v then .ok else .clamped,
        .aboard (clampNat 0 (s.params.capacity - reservedFor s c) v)⟩ := by
  simp [takeAdjustLoad, h]

theorem takeAdjustLoad_inFlight {c : Car} (v : Int) (h : inFlight s.trc.state = true) :
    takeAdjustLoad (.listed c, v) s = ⟨s, .refused .wrongState, .nothing⟩ := by
  simp [takeAdjustLoad, h, deny, refuse]

theorem takeClearAlarm_accepted {c : Car} (h : flagProtection s = false) :
    takeClearAlarm (.listed c) s = ⟨setLatch c false s, .ok, .nothing⟩ := by
  simp [takeClearAlarm, h, accept]

theorem takeClearAlarm_protected {c : Car} (h : flagProtection s = true) :
    takeClearAlarm (.listed c) s = ⟨s, .refused .flagProtected, .nothing⟩ := by
  simp [takeClearAlarm, h, deny, refuse]

theorem takeEnableLane_unnamed (h : namedLane s r = none) : takeEnableLane r s = ⟨s, .refused .badValue, .nothing⟩ := by
  simp [takeEnableLane, h, deny, refuse]

theorem takeDisableLane_unnamed (h : namedLane s r = none) : takeDisableLane r s = ⟨s, .refused .badValue, .nothing⟩ := by
  simp [takeDisableLane, h, deny, refuse]

/-- Settles O41. -/
theorem exitsLanesAndLoads : Obligations.ExitsLanesAndLoads := by
  unfold Obligations.ExitsLanesAndLoads
  refine ⟨fun r l s hreset hl hk => ⟨fun c hopen hc => ?counted, fun hopen => ?closed⟩,
    fun r l s hreset hl => ⟨?enable, fun k e hts hres he => ?lastDisabled, fun h => ?disable⟩,
    fun c v s hreset => ⟨fun h => ?adjust, fun h => ?adjustInFlight⟩,
    fun c s hreset => ⟨fun h => ?alarm, fun h => ?alarmProtected⟩,
    fun st r why s hh h => request_refused _ hh _ (atLane_refused _ h),
    fun r s hreset hn => ⟨?_, ?_⟩, fun code v s hreset => ⟨?_, ?_⟩⟩
  case counted =>
    exact ⟨_, request_answer (r := .exited) (heard_gate rfl hreset _) (takeExited_counted hl hk hopen hc), by simp,
      by simp [onLoad], by simp [keepsBut_iff]⟩
  case closed =>
    exact request_refused _ (heard_gate rfl hreset _) _ (takeExited_closed hl hk hopen)
  case enable =>
    exact ⟨_, request_answer (r := .enableLane) ⟨hreset, rfl⟩ (takeEnableLane_named hl), by simp, by simp [onLane],
      by simp [keepsBut_iff]⟩
  case lastDisabled =>
    have hempty : (disabledAt l.id s).adm.reservations = [] := by
      rw [disabledAt_adm]
      exact filter_only hres he
    have ha := takeDisableLane_named hl
    rw [disable_open (by simp [reservationOf_only hres he]),
      handIfEmpty_closing (k := k) (by simpa [disabledAt] using hts) hempty] at ha
    have hends : ClosingEnds s (enterDoors (disabledAt l.id s)) :=
      closingEnds_enterDoors hempty (by simp [keepsBut_iff, disabledAt])
    obtain ⟨hloads, -, hlanes, -⟩ := (onward_enterDoors (disabledAt l.id s)).loads
    refine ⟨_, request_answer (r := .disableLane) ⟨hreset, rfl⟩ ha, by simp, ?_, ?_, hends.replyTo _ _⟩
    · simpa [disabledAt] using hloads
    · simpa [disabledAt_adm] using hlanes
  case disable =>
    have ha := takeDisableLane_named hl
    cases he : reservationOf s l.id with
    | none =>
      rw [disable_free he] at ha
      refine ⟨_, request_answer (r := .disableLane) ⟨hreset, rfl⟩ ha, by simp, ?_, by simp [keepsBut_iff]⟩
      rw [filter_of_reservationOf_none he]
      simp [onLane]
    | some e =>
      have hwait := h.imp_right fun ho => ho.resolve_left (by simp [he])
      have hsame : handIfEmpty (disabledAt l.id s) = disabledAt l.id s :=
        handIfEmpty_adm (by simp [disabledAt]) (by rw [disabledAt_adm]) hwait
      rw [disable_open (by simp [he]), hsame] at ha
      exact ⟨_, request_answer (r := .disableLane) ⟨hreset, rfl⟩ ha, by simp, by simp [disabledAt_adm],
        by simp [keepsBut_iff, disabledAt]⟩
  case adjust =>
    exact ⟨_, request_answer (r := .adjustLoad) ⟨hreset, rfl⟩ (takeAdjustLoad_accepted v h), by simp, by simp [onLoad],
      by simp [keepsBut_iff]⟩
  case adjustInFlight => exact request_refused _ ⟨hreset, rfl⟩ _ (takeAdjustLoad_inFlight v h)
  case alarm =>
    exact ⟨_, request_answer (r := .clearAlarm) ⟨hreset, rfl⟩ (takeClearAlarm_accepted h), by simp, by simp [setLatch],
      by simp [setLatch], by simp [keepsBut_iff]⟩
  case alarmProtected => exact request_refused _ ⟨hreset, rfl⟩ _ (takeClearAlarm_protected h)
  · exact request_refused _ ⟨hreset, rfl⟩ _ (takeEnableLane_unnamed hn)
  · exact request_refused _ ⟨hreset, rfl⟩ _ (takeDisableLane_unnamed hn)
  all_goals exact request_refused _ ⟨hreset, rfl⟩ _ rfl

end Sys2Proof.Machine
end

section
/-! Checks in order, and the rules of a departure and of a trip request (O30, O31), with the requests that fill, empty and
refuse slots (O29, O31). -/

namespace Sys2Proof.Machine

variable {s t u : State}

/-! ## Checks taken in order -/

/-- The first finding of `n` checks numbered from `lo` on. -/
def firstOf {α : Type} (check : Nat → Option α) (lo : Nat) : Nat → Option α
  | 0 => none
  | n + 1 => (check lo).or (firstOf check (lo + 1) n)

theorem firstOf_eq_none {α : Type} {check : Nat → Option α} {lo n : Nat} :
    firstOf check lo n = none ↔ ∀ m, lo ≤ m → m < lo + n → check m = none := by
  induction n generalizing lo with
  | zero => simp only [firstOf, true_iff]; intros; omega
  | succ n ih =>
    rw [firstOf, Option.or_eq_none_iff, ih]
    constructor
    · rintro ⟨hlo, hrest⟩ m hm hlt
      rcases Nat.eq_or_lt_of_le hm with rfl | hgt
      · exact hlo
      · exact hrest m hgt (by omega)
    · exact fun h => ⟨h lo (Nat.le_refl _) (by omega), fun m hm hlt => h m (by omega) (by omega)⟩

theorem firstOf_eq_some {α : Type} {check : Nat → Option α} {lo n : Nat} {why : α} (h : firstOf check lo n = some why) :
    ∃ m, lo ≤ m ∧ m < lo + n ∧ check m = some why ∧ ∀ j, lo ≤ j → j < m → check j = none := by
  induction n generalizing lo with
  | zero => cases h
  | succ n ih =>
    rw [firstOf] at h
    cases hlo : check lo with
    | some a =>
      rw [hlo] at h
      cases h
      exact ⟨lo, Nat.le_refl _, by omega, hlo, fun j hj hlt => by omega⟩
    | none =>
      rw [hlo, Option.none_or] at h
      obtain ⟨m, hm, hlt, hc, hbefore⟩ := ih h
      refine ⟨m, by omega, by omega, hc, fun j hj hjm => ?_⟩
      rcases Nat.eq_or_lt_of_le hj with rfl | hgt
      · exact hlo
      · exact hbefore j hgt hjm

/-- What checks in order find, where each finds its reason exactly when it fails. -/
theorem firstFailure_firstOf {α : Type} {check : Nat → Option α} {lo hi n : Nat} {holds : Nat → Prop}
    {reason : Nat → α → Prop} (hn : lo + n = hi + 1)
    (h : ∀ m, lo ≤ m → m ≤ hi → (check m = none ↔ holds m) ∧ ∀ why, check m = some why → reason m why) :
    FirstFailure lo hi holds reason (firstOf check lo n) := by
  refine ⟨?_, fun why hwhy => ?_⟩
  · rw [firstOf_eq_none]
    exact ⟨fun hc m hm hle => (h m hm hle).1.mp (hc m hm (by omega)),
      fun hh m hm hlt => (h m hm (by omega)).1.mpr (hh m hm (by omega))⟩
  · obtain ⟨m, hm, hlt, hc, hbefore⟩ := firstOf_eq_some hwhy
    refine ⟨m, hm, by omega, fun hh => ?_, fun j hj hjm => ?_, (h m hm (by omega)).2 why hc⟩
    · rw [(h m hm (by omega)).1.mpr hh] at hc
      cases hc
    · exact (h j hj (by omega)).1.mp (hbefore j hj hjm)

/-! ## The checks of a departure (R93) -/

theorem freshReport_iff (c : Car) : FreshReport s c ↔ isFresh s c = true := (isFresh_iff s c).symm

theorem forall_car {p : Car → Prop} : (∀ c, p c) ↔ p .a ∧ p .b :=
  ⟨fun h => ⟨h .a, h .b⟩, fun ⟨ha, hb⟩ c => by cases c <;> assumption⟩

/-- The finding of a check of each car, car A first. -/
def firstCar {α : Type} (bad : Car → Bool) (found : Car → α) : Option α :=
  if bad .a then some (found .a) else if bad .b then some (found .b) else none

theorem firstCar_eq_none {α : Type} {bad : Car → Bool} {found : Car → α} :
    firstCar bad found = none ↔ ∀ c, bad c = false := by
  rw [forall_car]
  cases ha : bad .a <;> cases hb : bad .b <;> simp [firstCar, ha, hb]

theorem firstCar_eq_some {α : Type} {bad : Car → Bool} {found : Car → α} {x : α} (h : firstCar bad found = some x) :
    ∃ c, bad c = true ∧ (c = .b → bad .a = false) ∧ x = found c := by
  cases ha : bad .a
  · cases hb : bad .b
    · simp [firstCar, ha, hb] at h
    · exact ⟨.b, hb, fun _ => rfl, by simpa [firstCar, ha, hb] using h.symm⟩
  · exact ⟨.a, ha, by simp, by simpa [firstCar, ha] using h.symm⟩

/-- The conditions of R93 one by one: the reason of each where it fails. -/
def departureCheck (s : State) (owner : Owner) (mode : Mode) : Nat → Option Reason
  | 1 =>
    if ¬ (s.lsu.line = .inService ∨ (s.lsu.line = .inspection ∧ owner = .con ∧ mode = .inspection)) then some .wrongState
    else none
  | 2 => if s.brs.stage ≠ .none then some (.causePresent (.stage none)) else none
  | 3 => firstCar (fun c => !isFresh s c) fun c => .causePresent (.carStale c)
  | 4 => firstCar (fun c => (s.cru.get c).latch) fun c => .causePresent (.alarm c)
  | 5 => if mode ≠ .inspection ∧ s.psu.ref ≠ .referenced then some (.causePresent .unreferenced) else none
  | 6 =>
    firstCar (fun c => decide (mode ≠ .inspection ∧ (s.adm.loads.get c).uncounted ≠ 0)) fun c =>
      .causePresent (.uncounted c)
  | _ => none

theorem ite_some_or {α : Type} (p : Prop) [Decidable p] (a : α) (x : Option α) :
    (if p then some a else none).or x = if p then some a else x := by
  split <;> rfl

theorem ite_some_none_iff {α : Type} {p : Prop} [Decidable p] {a : α} :
    (if p then some a else none) = none ↔ ¬ p := by
  split <;> simp_all

theorem eq_of_ite_some {α : Type} {p : Prop} [Decidable p] {a x : α} (h : (if p then some a else none) = some x) :
    x = a := by
  simp only [Option.ite_none_right_eq_some, Option.some.injEq] at h
  exact h.2.symm

theorem firstCar_or {α : Type} (bad : Car → Bool) (found : Car → α) (x : Option α) :
    (firstCar bad found).or x = if bad .a then some (found .a) else if bad .b then some (found .b) else x := by
  unfold firstCar
  split
  · rfl
  · split <;> rfl

theorem preconditions_eq (owner : Owner) (mode : Mode) :
    preconditions s owner mode = firstOf (departureCheck s owner mode) 1 6 := by
  simp only [firstOf, departureCheck, ite_some_or, firstCar_or, preconditions, Bool.not_eq_true', Option.or_none]
  by_cases hm : mode = .inspection
  · simp [hm, firstCar, PerCar.get]
  · simp [hm, firstCar, PerCar.get]

/-- Each condition of R93 finds nothing exactly where it holds, and its reason else (R93). -/
theorem departureCheck_rule (owner : Owner) (mode : Mode) (m : Nat) (hlo : 1 ≤ m) (hhi : m ≤ 6) :
    (departureCheck s owner mode m = none ↔ DepartureHolds s owner mode m) ∧
      ∀ why, departureCheck s owner mode m = some why → DepartureReason s m why := by
  have hstale (c : Car) : isFresh s c = false ↔ ¬ FreshReport s c := by rw [freshReport_iff]; simp
  obtain rfl | rfl | rfl | rfl | rfl | rfl : m = 1 ∨ m = 2 ∨ m = 3 ∨ m = 4 ∨ m = 5 ∨ m = 6 := by omega
  all_goals simp only [departureCheck, DepartureHolds, DepartureReason]
  · exact ⟨ite_some_none_iff.trans not_not, fun _ => eq_of_ite_some⟩
  · exact ⟨ite_some_none_iff.trans not_not, fun _ => eq_of_ite_some⟩
  · refine ⟨firstCar_eq_none.trans (by simp [freshReport_iff]), fun why h => ?_⟩
    obtain ⟨c, hc, hfirst, rfl⟩ := firstCar_eq_some h
    refine ⟨c, ⟨(hstale c).mp (by simpa using hc), fun hb => ?_⟩, rfl⟩
    exact (freshReport_iff .a).mpr (by simpa using hfirst hb)
  · refine ⟨firstCar_eq_none, fun why h => ?_⟩
    obtain ⟨c, hc, -, rfl⟩ := firstCar_eq_some h
    exact ⟨c, hc, rfl⟩
  · exact ⟨ite_some_none_iff.trans (by simp), fun _ => eq_of_ite_some⟩
  · refine ⟨firstCar_eq_none.trans ?_, fun why h => ?_⟩
    · simp only [decide_eq_false_iff_not, not_and, not_not]
      exact ⟨fun h hm c => h c hm, fun h c hm => h hm c⟩
    · obtain ⟨c, hc, -, rfl⟩ := firstCar_eq_some h
      exact ⟨c, (of_decide_eq_true hc).2, rfl⟩

theorem restrict_rule (m n : Mode) :
    (restrict m n = .inspection ↔ m = .inspection ∨ n = .inspection) ∧
      (restrict m n = .normal ↔ m = .normal ∧ n = .normal) := by
  cases m <;> cases n <;> decide

theorem expressTo_expressFrom (last : Option TripDir) (k : Stop) : ExpressTo last k (expressFrom last k) := by
  cases k <;> simp [ExpressTo, expressFrom]

/-- A destination resolves by the table (R94). -/
theorem resolvesTo_resolve (p : Params) (last : Option TripDir) (k : Stop) (d : Destination) :
    ResolvesTo p last k d (resolve p last k d) := by
  cases d with
  | stop j => rfl
  | shuttleExpress => exact expressTo_expressFrom last k
  | shuttleAll =>
    by_cases hm : p.midStop = 0
    · simpa [ResolvesTo, resolve, hm] using expressTo_expressFrom last k
    · have hexp := expressTo_expressFrom last .middle
      cases k <;> simp_all [ResolvesTo, resolve, allStopsFrom]

theorem departureRules (s : State) : DepartureRules s := by
  refine ⟨fun owner mode => ?_, restrict_rule, fun last k d => resolvesTo_resolve s.params last k d, fun id r k => ?_⟩
  · rw [preconditions_eq]
    exact firstFailure_firstOf rfl (departureCheck_rule owner mode)
  · unfold departureTest tripMode
    cases preconditions s (ownerOf s id) (restrict r.mode s.trc.effMode) <;> rfl

/-! ## The checks of a trip request (R82, R83) -/

theorem requestFields_iff (f : TripRequestFields) (r : TripReq) :
    requestFields s f = some r ↔
      f.dest = .listed r.dest ∧ f.mode = .listed r.mode ∧ f.trigger = .listed r.trigger ∧ f.oneShot = .listed r.oneShot ∧
        f.mask = .listed r.mask ∧ ∀ k, r.dest = .stop k → stopExists s.params k = true := by
  have hstop (d : Destination) : ((numberedStop d).map (stopExists s.params)).getD true = true ↔
      ∀ k, d = .stop k → stopExists s.params k = true := by
    cases d <;> simp [numberedStop]
  unfold requestFields
  split
  next d m t o k hd hm ht ho hk =>
    rw [Option.ite_none_right_eq_some, hstop]
    obtain ⟨d', m', t', o', k'⟩ := r
    simp only [hd, hm, ht, ho, hk, Coded.listed.injEq, Option.some.injEq, TripReq.mk.injEq]
    constructor
    · rintro ⟨h, rfl, rfl, rfl, rfl, rfl⟩
      exact ⟨rfl, rfl, rfl, rfl, rfl, h⟩
    · rintro ⟨rfl, rfl, rfl, rfl, rfl, h⟩
      exact ⟨h, rfl, rfl, rfl, rfl, rfl⟩
  next hno =>
    refine iff_of_false (by simp) fun ⟨hd, hm, ht, ho, hk, _⟩ => ?_
    exact hno _ _ _ _ _ hd hm ht ho hk

theorem requestRules (s : State) : RequestRules s := by
  refine ⟨⟨fun h => ?_, fun h id => ?_, fun h id => ?_, rfl, rfl⟩, fun st => ⟨rfl, rfl, fun n hn => ?_, ?_⟩,
    fun st n id => resolveSlot_eq_some s st n id, fun f r => requestFields_iff f r, fun st => by simp [takesTrips]⟩
  · simp [ownerOf, h, slotOwner]
  · cases id <;> simp [ownerOf, h, slotOwner]
  · cases id <;> simp [ownerOf, h, slotOwner]
  · simp only [slotGiven, slotNumbered]
    rw [if_neg (by omega), if_neg (by omega)]
  · by_cases hst : st = .con <;> simp [slotGiven, defaultSlot, roleOf, hst]

end Sys2Proof.Machine
end

section
/-! Trip requests that fill, empty and refuse slots (O29, O31). -/

namespace Sys2Proof.Machine

variable {s t u : State} {st : Station} {f : TripRequestFields} {id : SlotId} {r : TripReq}

/-! ## Slots -/

@[simp] theorem slotOf_setSlot_self (id : SlotId) (v : Slot) (s : State) : slotOf (setSlot id v s) id = v := by
  cases id <;> rfl

theorem slotOf_setSlot_other {o : SlotId} (h : o ≠ id) (v : Slot) (s : State) :
    slotOf (setSlot id v s) o = slotOf s o := by
  cases id <;> cases o <;> simp_all [slotOf, setSlot]

theorem setSlot_same {v : Slot} (h : slotOf s id = v) : (setSlot id v s).trc = s.trc := by
  subst h
  cases id <;> rfl

theorem slot_name_inFlight {v : Slot} (h : v.name = .inFlight) : ∃ r, v = .inFlight r := by
  cases v with
  | inFlight r => exact ⟨r, rfl⟩
  | _ => cases h

theorem keepsBut_setSlot (id : SlotId) (v : Slot) (s : State) : KeepsBut [.trc] s (setSlot id v s) := by
  simp [keepsBut_iff]

/-! ## What TRIP REQUEST answers (R83) -/

theorem slotNotYours_given (h : slotGiven s st f.slot = some id) :
    slotNotYours s st f.slot = ⟨s, .refused .notYours, .slot id (slotOf s id).name none none⟩ := by
  simp [slotNotYours, h, slotDeny, refuse, Reason.sub]

theorem resolveSlot_none_of_owner (h : ∀ id, slotGiven s st n = some id → ownerOf s id ≠ roleOf st) :
    resolveSlot s st n = none := by
  rw [Option.eq_none_iff_forall_ne_some]
  intro id hid
  obtain ⟨hg, ho⟩ := (resolveSlot_eq_some s st n id).mp hid
  exact h id hg ho

theorem fillSlot_notYours (h : resolveSlot s st f.slot = none) : fillSlot st f s = slotNotYours s st f.slot := by
  simp [fillSlot, h]

theorem fillSlot_badValue (h : resolveSlot s st f.slot = some id) (hf : requestFields s f = none) :
    fillSlot st f s = ⟨s, .refused .badValue, .slot id (slotOf s id).name none none⟩ := by
  simp [fillSlot, h, hf, slotDeny, refuse, Reason.sub]

theorem fillSlot_wrongState (h : resolveSlot s st f.slot = some id) (hf : requestFields s f = some r)
    (ht : takesTrips s st = false) :
    fillSlot st f s = ⟨s, .refused .wrongState, .slot id (slotOf s id).name none none⟩ := by
  simp [fillSlot, h, hf, ht, slotDeny, refuse, Reason.sub]

theorem fillSlot_busy (h : resolveSlot s st f.slot = some id) (hf : requestFields s f = some r)
    (ht : takesTrips s st = true) (hb : (slotOf s id).name = .inFlight) :
    fillSlot st f s = ⟨s, .refused .busy, .slot id .inFlight none none⟩ := by
  simp [fillSlot, h, hf, ht, hb, slotDeny, refuse, Reason.sub]

/-- A request that passes checks 1 to 4 is filed (R83). -/
theorem fillSlot_filed (h : resolveSlot s st f.slot = some id) (hf : requestFields s f = some r)
    (ht : takesTrips s st = true) (hb : (slotOf s id).name ≠ .inFlight) : fillSlot st f s = fileRequest id r s := by
  simp [fillSlot, h, hf, ht, hb]

theorem fileRequest_armed (h : r.trigger ≠ .immediate) :
    fileRequest id r s =
      ⟨setSlot id (.armed r) s, if (slotOf s id).name = .empty then .ok else .replaced, .slot id .armed none none⟩ := by
  simp [fileRequest, h, slotAccept, startedNumber, Slot.name]

/-- With a trip in flight, and before MIN_DWELL has elapsed, an IMMEDIATE request waits (R88, R89). -/
theorem takeImmediate_waits (h : inFlight s.trc.state = true ∨ (isDwell s.trc.state = true ∧ s.trc.elapsed = false)) :
    takeImmediate id r s = .ok (setSlot id (.pending r) s) := by
  unfold takeImmediate
  split <;> simp_all [inFlight, isDwell]

theorem fileRequest_pending (hi : r.trigger = .immediate) (h : takeImmediate id r s = .ok (setSlot id (.pending r) s)) :
    fileRequest id r s =
      ⟨setSlot id (.pending r) s, if (slotOf s id).name = .empty then .ok else .replaced,
        .slot id .pending none none⟩ := by
  simp [fileRequest, hi, h, slotAccept, startedNumber, Slot.name]

theorem fileRequest_refused {why : Reason} (hi : r.trigger = .immediate) (h : takeImmediate id r s = .error why) :
    fileRequest id r s = ⟨s, .refused why, .slot id (slotOf s id).name none why.sub⟩ := by
  simp [fileRequest, hi, h, slotDeny, refuse]

theorem fileRequest_started (hi : r.trigger = .immediate) (h : takeImmediate id r s = .ok t)
    (ht : slotOf t id = .inFlight r) :
    fileRequest id r s =
      ⟨t, if (slotOf s id).name = .empty then .ok else .replaced, .slot id .inFlight (some t.trc.trip.number) none⟩ := by
  simp [fileRequest, hi, h, slotAccept, startedNumber, ht, Slot.name]

theorem takeImmediate_refused {k : Stop} {why : Reason} (hts : s.trc.state = .dwell k) (he : s.trc.elapsed = true)
    (h : departureTest s id r k = some why) : takeImmediate id r s = .error why := by
  simp [takeImmediate, hts, he, h]

/-- On the line only CON's slot, for a numbered stop and not NORMAL, is taken (R105). -/
theorem lineTest_wrongState (h : ownerOf s id ≠ .con ∨ r.mode = .normal ∨ ∀ k, r.dest ≠ .stop k) :
    lineTest s id r = some .wrongState := by
  unfold lineTest
  refine if_neg fun ⟨hc, _, hm, hd⟩ => ?_
  rcases h with h | h | h
  · exact h hc
  · exact hm h
  · cases hdest : r.dest with
    | stop k => exact h k hdest
    | _ => simp [hdest, numberedStop] at hd

theorem lineTest_tested {k : Stop} (hi : r.trigger = .immediate) (hc : ownerOf s id = .con) (hm : r.mode ≠ .normal)
    (hd : r.dest = .stop k) : lineTest s id r = preconditions s .con (restrict r.mode s.trc.effMode) := by
  simp [lineTest, hc, hi, hm, hd, numberedStop, tripMode]

theorem takeImmediate_lineRefused {why : Reason} (hts : s.trc.state = .stoppedOnLine)
    (h : lineTest s id r = some why) : takeImmediate id r s = .error why := by
  simp [takeImmediate, hts, h]

/-! ## TRIP REQUEST refused (O31) -/

/-- Settles O31. -/
theorem tripRequestChecks : Obligations.TripRequestChecks := by
  unfold Obligations.TripRequestChecks
  refine ⟨fun st f s hh => ⟨fun hnone => ?noSlot, fun id hid ho => ?notOwner, fun id hid => ⟨fun hf => ?badValue,
    fun r hf => ⟨fun ht => ?wrongState, fun ht hb => ?busy, fun ht hb hi he k why hts hwhy => ?departure,
      fun ht hb hi hts => ⟨fun hline => ?lineWrong, fun hc hm hd why hwhy => ?lineRefused⟩⟩⟩⟩,
    fun s => ⟨departureRules s, requestRules s⟩⟩
  case noSlot =>
    have hres : resolveSlot s st f.slot = none := resolveSlot_none_of_owner fun id h => by simp [hnone] at h
    refine request_refused _ hh _ ((fillSlot_notYours hres).trans ?_)
    simp [slotNotYours, hnone, deny, refuse]
  case notOwner =>
    have hres : resolveSlot s st f.slot = none := by
      refine resolveSlot_none_of_owner fun o h => ?_
      rw [hid] at h
      cases h
      exact ho
    exact request_refused _ hh _ ((fillSlot_notYours hres).trans (slotNotYours_given hid))
  case badValue => exact request_refused _ hh _ (fillSlot_badValue hid hf)
  case wrongState => exact request_refused _ hh _ (fillSlot_wrongState hid hf ht)
  case busy => exact request_refused _ hh _ (fillSlot_busy hid hf ht hb)
  case departure =>
    exact request_refused _ hh _
      ((fillSlot_filed hid hf ht hb).trans (fileRequest_refused hi (takeImmediate_refused hts he hwhy)))
  case lineWrong =>
    exact request_refused _ hh _
      ((fillSlot_filed hid hf ht hb).trans (fileRequest_refused hi (takeImmediate_lineRefused hts (lineTest_wrongState hline))))
  case lineRefused =>
    obtain ⟨k, hk⟩ := hd
    have htest := (lineTest_tested (s := s) hi hc hm hk).trans hwhy
    exact request_refused _ hh _
      ((fillSlot_filed hid hf ht hb).trans (fileRequest_refused hi (takeImmediate_lineRefused hts htest)))

/-! ## Slots filled and emptied (O29) -/

theorem takeCancelTrip_freed {n : Option Nat} (h : resolveSlot s st n = some id) (hb : (slotOf s id).name ≠ .inFlight) :
    ∃ v, takeCancelTrip st n s = ⟨v, .ok, .nothing⟩ ∧ v.trc = (setSlot id .empty s).trc ∧ KeepsBut [.trc] s v := by
  cases hs : slotOf s id with
  | empty =>
    exact ⟨s, by simp [takeCancelTrip, h, hs, accept], (setSlot_same hs).symm, KeepsBut.refl _ _⟩
  | armed r => exact ⟨_, by simp [takeCancelTrip, h, hs, accept], rfl, keepsBut_setSlot _ _ _⟩
  | pending r => exact ⟨_, by simp [takeCancelTrip, h, hs, accept], rfl, keepsBut_setSlot _ _ _⟩
  | inFlight r => simp [hs, Slot.name] at hb

theorem takeCancelTrip_moving {n : Option Nat} (h : resolveSlot s st n = some id) (hb : (slotOf s id).name = .inFlight)
    (hc : cancellable s.trc.state = false) : takeCancelTrip st n s = ⟨s, .refused .moving, .nothing⟩ := by
  obtain ⟨r, hr⟩ := slot_name_inFlight hb
  simp [takeCancelTrip, h, hr, hc, deny, refuse]

theorem takeCancelTrip_notYours {n : Option Nat} (h : resolveSlot s st n = none) :
    takeCancelTrip st n s = ⟨s, .refused .notYours, .nothing⟩ := by
  simp [takeCancelTrip, h, deny, refuse]

/-- Settles O29. -/
theorem slotsFilledAndEmptied : Obligations.SlotsFilledAndEmptied := by
  unfold Obligations.SlotsFilledAndEmptied
  refine ⟨fun st f id r s hh hid hf ht hb => ⟨fun hi => ?armed, fun hi hw => ?pending⟩,
    fun st n id s hh hid => ⟨fun hb => ?emptied, fun hb hc => ?moving⟩, fun st n s hh hno => ?notYours⟩
  case armed =>
    exact ⟨_, request_answer hh ((fillSlot_filed hid hf ht hb).trans (fileRequest_armed hi)), by simp, by simp,
      by simpa using keepsBut_setSlot id _ s⟩
  case pending =>
    have hp := fileRequest_pending (id := id) (s := s) hi (takeImmediate_waits hw)
    exact ⟨_, request_answer hh ((fillSlot_filed hid hf ht hb).trans hp), by simp, by simp,
      by simpa using keepsBut_setSlot id _ s⟩
  case emptied =>
    obtain ⟨v, hv, htrc, hkeep⟩ := takeCancelTrip_freed hid hb
    exact ⟨_, request_answer hh hv, by simp, by simpa using htrc, by simpa using hkeep⟩
  case moving => exact request_refused _ hh _ (takeCancelTrip_moving hid hb hc)
  case notYours => exact request_refused _ hh _ (takeCancelTrip_notYours (resolveSlot_none_of_owner hno))

end Sys2Proof.Machine
end

section
/-! A trip that starts (O30, O33, O34): the record of its start, and where it goes from a stop or from the line. -/

namespace Sys2Proof.Machine

variable {s t u : State} {id : SlotId} {r : TripReq} {dest k : Stop} {origin : Option Stop}

/-! ## Notices at the end of a command -/

@[simp] theorem handed_replyTo {n : NoticeKind} {d : NoticeDetail} {who st : Station} (q : Request) (a : Answer) :
    Handed n d who s (replyTo q st u a) ↔ Handed n d who s a.state := by
  simp [Handed]

@[simp] theorem handed_finish {n : NoticeKind} {d : NoticeDetail} {who : Station} :
    Handed n d who s (finish u t) ↔ Handed n d who s t := by
  simp [Handed]

@[simp] theorem handed_takenUp {n : NoticeKind} {d : NoticeDetail} {who : Station} (i : Instr) :
    Handed n d who s (takenUp i t) ↔ Handed n d who s t := by
  simp [Handed]

theorem WindowsHanded.at {t' : State} (h : WindowsHanded s t) (hlsu : t'.lsu = t.lsu) (htrc : t'.trc = t.trc)
    (hadm : t'.adm = t.adm) (hh : ∀ n d who, Handed n d who s t → Handed n d who s t') : WindowsHanded s t' := by
  have hsame (b : Berth) : admissionOpen t' b = admissionOpen t b :=
    admissionOpen_congr hlsu (by rw [htrc]) (by rw [hadm]) b
  intro g
  rw [newlyOpen_congr (fun _ => rfl) hsame, newlyOpen_congr hsame fun _ => rfl]
  exact ⟨fun hne => hh _ _ _ ((h g).1 hne), fun hne => hh _ _ _ ((h g).2 hne)⟩

theorem WindowsHanded.replyTo {status : Status} {data : ReplyData} (h : WindowsHanded s t) (q : Request) (st : Station) :
    WindowsHanded s (replyTo q st u ⟨t, status, data⟩) :=
  h.at (by simp) (by simp) (by simp) fun _ _ _ hd => by simpa using hd

theorem WindowsHanded.takenUp (h : WindowsHanded s t) (i : Instr) : WindowsHanded s (takenUp i (finish u t)) :=
  h.at (by simp) (by simp) (by simp) fun _ _ _ hd => by simpa using hd

theorem DoorsOrSettle.replyTo {status : Status} {data : ReplyData} (h : DoorsOrSettle s t) (q : Request) (st : Station) :
    DoorsOrSettle s (replyTo q st u ⟨t, status, data⟩) :=
  h.at (sameEntry_replyTo q st ⟨t, status, data⟩)

theorem DoorsOrSettle.takenUp (h : DoorsOrSettle s t) (i : Instr) : DoorsOrSettle s (takenUp i (finish u t)) :=
  h.at (sameEntry_takenUp i t)

/-! ## The start (R95, R118) -/

theorem beginTrip_trc (id : SlotId) (r : TripReq) (dest : Stop) (origin : Option Stop) (s : State) :
    (beginTrip id r dest origin s).trc =
      { (setSlot id (.inFlight r) s).trc with trip := startRecord s id r dest origin } := by
  simp [beginTrip, zeroMismatch, State.onTrip]

theorem beginTrip_psu : (beginTrip id r dest origin s).psu = { s.psu with mismatch := ⟨0, 0⟩ } := by
  simp [beginTrip, zeroMismatch]

theorem beginTrip_dri :
    (beginTrip id r dest origin s).dri = { s.dri with maint := ⟨⟨false, false⟩, ⟨false, false⟩⟩ } := by
  simp [beginTrip, zeroMismatch]

theorem handed_beginTrip :
    Handed .tripStarted (.started ((s.trc.trip.number + 1) % 65536) dest (restrict r.mode s.trc.effMode))
      (ownerOf s id).station s (beginTrip id r dest origin s) := by
  have h := handedOwner_handOwner .tripStarted (.started (startRecord s id r dest origin).number dest (tripMode s r))
    ((setSlot id (.inFlight r) s).onTrip fun _ => startRecord s id r dest origin) (ownerOf s id)
    (by simp [State.onTrip, startRecord])
  exact h.congr (by simp) (by simp [beginTrip, zeroMismatch])

theorem sameRun_beginTrip : SameRun (beginTrip id r dest origin s) s := by
  constructor <;> simp [beginTrip_trc, beginTrip_psu, startRecord]

theorem SameRun.trans (h : SameRun u t) (h' : SameRun t s) : SameRun u s where
  cfg := h'.cfg.trans h.cfg
  cru := h'.cru.trans h.cru
  stage := h'.stage.trans h.stage
  causes := h'.causes.trans h.causes
  sbFb := h'.sbFb.trans h.sbFb
  ebFb := h'.ebFb.trans h.ebFb
  count := h'.count.trans h.count
  ref := h'.ref.trans h.ref
  frozen := h'.frozen.trans h.frozen
  derating := h'.derating.trans h.derating
  peak := h'.peak.trans h.peak
  margin := h'.margin.trans h.margin

/-- What the start of a trip leaves, wherever the trip has gone on to since. -/
structure Started (id : SlotId) (r : TripReq) (dest : Stop) (origin : Option Stop) (s t : State) : Prop where
  slot : slotOf t id = .inFlight r
  others : ∀ o, o ≠ id → slotOf t o = slotOf s o
  trip : t.trc.trip =
    { startRecord s id r dest origin with
      derating := t.trc.trip.derating, peak := t.trc.trip.peak, margin := t.trc.trip.margin }
  direction : t.trc.trip.direction = some (tripDirection s origin dest)
  handed : Handed .tripStarted (.started ((s.trc.trip.number + 1) % 65536) dest (restrict r.mode s.trc.effMode))
    (ownerOf s id).station s t
  windows : WindowsHanded s t
  maint : t.dri.maint = ⟨⟨false, false⟩, ⟨false, false⟩⟩
  mismatch : t.psu.mismatch = ⟨0, 0⟩
  reservations : t.adm.reservations = s.adm.reservations
  told : Told (.tripStarted :: windowKinds) s t
  keeps : KeepsBut [.psu, .clc, .brs, .trc, .dri, .adm, .notices] s t

theorem Onward.started (h : Onward (beginTrip id r dest origin s) t) : Started id r dest origin s t := by
  have htrc := h.trc
  rw [beginTrip_trc] at htrc
  have hslot (o : SlotId) : slotOf t o = slotOf (setSlot id (.inFlight r) s) o := by
    cases o
    · exact congrArg (·.slot0) htrc
    · exact congrArg (·.slot1) htrc
  have hbegin := told_beginTrip id r dest origin s
  refine ⟨(hslot id).trans (by simp), fun o ho => (hslot o).trans (slotOf_setSlot_other ho _ s), ?_, ?_,
    handed_beginTrip.told h.told (by decide), ?_, ?_, ?_, ?_, ?_, ?_⟩
  · exact congrArg (·.trip) htrc
  · exact congrArg (·.trip.direction) htrc
  · refine h.windows.within ?_ (fun _ => rfl) hbegin (Told.refl (K := []) t) (by decide) (by decide)
    exact fun b => (admissionOpen_congr (by simp) (by simp) (by simp) b).symm
  · rw [h.dri, beginTrip_dri]
  · rw [h.psu, beginTrip_psu]
  · simpa using h.loads.2.1
  · exact (hbegin.mono (by simp)).trans (h.told.mono (by simp))
  · have hk := h.keeps
    rw [keepsBut_iff] at hk ⊢
    simpa using hk

/-! ## From a stop (R95, R97) -/

theorem enterClosing_waits (hr : s.adm.reservations ≠ []) : enterClosing k s = setTripState (.closing k) s := by
  have hres : (setTripState (.closing k) s).adm.reservations ≠ [] := by
    rwa [(onward_setTripState (new := .closing k) rfl s).loads.2.1]
  simp [enterClosing, reservationsEmpty, hres]

theorem enterClosing_empty (hr : s.adm.reservations = []) :
    enterClosing k s = enterDoors (setTripState (.closing k) s) :=
  reservationsEmpty_closing (k := k) (by simp) ((onward_setTripState rfl s).loads.2.1.trans hr)

theorem onward_enterClosing (k : Stop) (s : State) : Onward s (enterClosing k s) := by
  have hclosing := onward_setTripState (new := .closing k) rfl s
  by_cases hr : s.adm.reservations = []
  · rw [enterClosing_empty hr]
    exact hclosing.trans (onward_enterDoors _)
  · rw [enterClosing_waits hr]
    exact hclosing

/-- The stop a request starts for from stop `k` (R94). -/
def startStop (s : State) (r : TripReq) (k : Stop) : Stop := resolve s.params s.trc.trip.lastDir k r.dest

/-- The state in which a trip from stop `k` has been started. -/
def begunAt (id : SlotId) (r : TripReq) (k : Stop) (s : State) : State := beginTrip id r (startStop s r k) (some k) s

theorem startFromStop_eq (id : SlotId) (r : TripReq) (k : Stop) (s : State) :
    startFromStop id r k s =
      if s.lsu.line = .inService then enterClosing k (begunAt id r k s) else enterDoors (begunAt id r k s) := by
  have hline : (begunAt id r k s).lsu = s.lsu := by simp [begunAt]
  rw [← hline]
  rfl

theorem onward_startFromStop (id : SlotId) (r : TripReq) (k : Stop) (s : State) :
    Onward (begunAt id r k s) (startFromStop id r k s) := by
  rw [startFromStop_eq]
  split
  · exact onward_enterClosing k _
  · exact onward_enterDoors _

theorem startFromStop_waits (id : SlotId) (r : TripReq) (k : Stop) (hline : s.lsu.line = .inService)
    (hr : s.adm.reservations ≠ []) : startFromStop id r k s = setTripState (.closing k) (begunAt id r k s) := by
  rw [startFromStop_eq, if_pos hline, enterClosing_waits (by simpa [begunAt] using hr)]

theorem sameRun_begunAt (id : SlotId) (r : TripReq) (k : Stop) (s : State) : SameRun (begunAt id r k s) s :=
  sameRun_beginTrip

theorem doorsOrSettle_startFromStop (id : SlotId) (r : TripReq) (k : Stop)
    (h : s.lsu.line = .inspection ∨ s.adm.reservations = []) : DoorsOrSettle s (startFromStop id r k s) := by
  have hbegun := sameRun_begunAt id r k s
  rw [startFromStop_eq]
  split
  next hline =>
    have hr : s.adm.reservations = [] := h.resolve_left (by simp [hline])
    rw [enterClosing_empty (by simpa [begunAt] using hr)]
    exact (doorsOrSettle_enterDoors _).from ((sameRun_setTripState (by simp) _).trans hbegun)
  next => exact (doorsOrSettle_enterDoors _).from hbegun

/-- While reservations are open in service the trip waits in CLOSING. -/
theorem startFromStop_closing (id : SlotId) (r : TripReq) (k : Stop) (hline : s.lsu.line = .inService)
    (hr : s.adm.reservations ≠ []) :
    (startFromStop id r k s).trc.state = .closing k ∧
      (startFromStop id r k s).trc.trip.derating = s.trc.trip.derating ∧
      (startFromStop id r k s).trc.trip.peak = s.trc.trip.peak ∧
      (startFromStop id r k s).trc.trip.margin = s.trc.trip.margin := by
  rw [startFromStop_waits id r k hline hr]
  simp [setTripState_trip, begunAt, beginTrip_trc, startRecord]

theorem tripDirection_stop (k dest : Stop) :
    tripDirection s (some k) dest = if stopPos s.params k < stopPos s.params dest then .upA else .downA := by
  simp [tripDirection]

theorem tripDirection_line (dest : Stop) :
    tripDirection s none dest = if pos s < stopPos s.params dest then .upA else .downA := rfl

/-! ## TRIP REQUEST that starts a trip (O30) -/

theorem takeImmediate_starts (hts : s.trc.state = .dwell k) (he : s.trc.elapsed = true)
    (h : departureTest s id r k = none) : takeImmediate id r s = .ok (startFromStop id r k s) := by
  simp [takeImmediate, hts, he, h]

theorem takeImmediate_lineStarts (hts : s.trc.state = .stoppedOnLine) (hi : r.trigger = .immediate)
    (hc : ownerOf s id = .con) (hm : r.mode ≠ .normal) (hd : r.dest = .stop dest)
    (h : preconditions s .con (restrict r.mode s.trc.effMode) = none) :
    takeImmediate id r s = .ok (startFromLine id r dest s) := by
  simp [takeImmediate, hts, lineTest_tested hi hc hm hd, h, hd, numberedStop]

/-- Settles O30. -/
theorem tripRequestStartsTrip : Obligations.TripRequestStartsTrip := by
  unfold Obligations.TripRequestStartsTrip
  refine ⟨fun st f id r k s hh hid hf ht hb hi hts he htest => ?stop,
    fun st f id r dest s hh hid hf ht hb hi hts hc hm hd htest => ?line, fun s => ⟨departureRules s, requestRules s⟩⟩
  case stop =>
    have hst := (onward_startFromStop id r k s).started
    have ha := (fillSlot_filed hid hf ht hb).trans
      (fileRequest_started hi (takeImmediate_starts hts he htest) hst.slot)
    refine ⟨_, request_answer hh ha, by simp, ?_, fun o ho => ?_, ?_, ?_, fun hline hr => ?_, fun h => ⟨?_, ?_⟩, ?_, ?_,
      ?_, ?_, ?_⟩
    · simpa [slotOf] using hst.slot
    · simpa [slotOf] using hst.others o ho
    · simpa [startRecord, ownerOf, tripMode, startStop, Config.wrap16, hst.direction] using hst.trip
    · simp [hst.direction, tripDirection_stop, startStop]
    · simpa [hst.reservations] using startFromStop_closing id r k hline hr
    · exact (doorsOrSettle_startFromStop id r k h).replyTo _ _
    · simpa using hst.reservations
    · simpa [startStop, ownerOf] using hst.handed
    · exact hst.windows.replyTo _ _
    · simpa using hst.maint
    · simpa using hst.mismatch
    · simpa using hst.keeps
  case line =>
    have hst : Started id r dest none s (startFromLine id r dest s) := (onward_enterDoors _).started
    have hds : DoorsOrSettle s (startFromLine id r dest s) := (doorsOrSettle_enterDoors _).from sameRun_beginTrip
    have ha := (fillSlot_filed hid hf ht hb).trans
      (fileRequest_started hi (takeImmediate_lineStarts hts hi hc hm hd htest) hst.slot)
    refine ⟨_, request_answer hh ha, by simp, ?_, fun o ho => ?_, ?_, ?_, ?_, hds.replyTo _ _, ?_, ?_, ?_⟩
    · simpa [slotOf] using hst.slot
    · simpa [slotOf] using hst.others o ho
    · simpa [startRecord, hc, tripMode, Config.wrap16, hst.direction] using hst.trip
    · simp [hst.direction, tripDirection_line]
    · have h := hst.handed
      rw [hc] at h
      simpa [Owner.station] using h
    · simpa using hst.maint
    · simpa using hst.mismatch
    · simpa using hst.keeps

end Sys2Proof.Machine
end

section
/-! MIN_DWELL and the lead timer (O34): the turns of the slots at their expiries. -/

namespace Sys2Proof.Machine

variable {s t u w : State} {id : SlotId} {r : TripReq} {k : Stop} {why : Reason}

/-! ## The departure test -/

/-- What the departure test looks at (R93). -/
theorem departureTest_congr (hcfg : t.cfg = s.cfg) (hcru : t.cru = s.cru) (hnow : t.now = s.now)
    (hline : t.lsu.line = s.lsu.line) (hstage : t.brs.stage = s.brs.stage) (href : t.psu.ref = s.psu.ref)
    (hloads : t.adm.loads = s.adm.loads) (hmode : t.trc.effMode = s.trc.effMode)
    (hdir : t.trc.trip.lastDir = s.trc.trip.lastDir) : departureTest t id r k = departureTest s id r k := by
  have hfresh (c : Car) : isFresh t c = isFresh s c :=
    isFresh_congr c (by rw [hcru]) hnow (by rw [State.params, State.params, hcfg])
  simp only [departureTest, preconditions, tripMode, ownerOf, State.params, hcfg, hcru, hline, hstage, href, hloads,
    hmode, hdir, hfresh]
  rfl

/-! ## A slot's turn (R90, R91, R96) -/

theorem setSlot_slotOf (id : SlotId) (s : State) : setSlot id (slotOf s id) s = s := by
  cases id <;> rfl

/-- A slot `id` has taken its turn and not started: it is what `f` makes of it, and where it was of the sort `P` its
owner has the notice `n` pending. -/
structure TurnTaken (f : Slot → Slot) (n : NoticeKind) (P : Slot → Prop) (id : SlotId) (w t : State) : Prop where
  trc : t.trc = (setSlot id (f (slotOf w id)) w).trc
  keeps : KeepsBut [.trc, .notices] w t
  told : Told [n] w t
  tells : P (slotOf w id) → isPending (t.niu.notices.get (ownerOf w id).station) n = true

section
variable {f : Slot → Slot} {n : NoticeKind} {P : Slot → Prop}

theorem TurnTaken.slot (h : TurnTaken f n P id w t) : slotOf t id = f (slotOf w id) := by
  unfold slotOf
  rw [h.trc]
  cases id <;> rfl

theorem TurnTaken.other {o : SlotId} (h : TurnTaken f n P id w t) (ho : o ≠ id) : slotOf t o = slotOf w o := by
  have hset := slotOf_setSlot_other ho (f (slotOf w id)) w
  unfold slotOf at hset ⊢
  rw [h.trc]
  exact hset

/-- The departure test does not hang on the slots. -/
theorem TurnTaken.test {o : SlotId} (h : TurnTaken f n P o w t) : departureTest t id r k = departureTest w id r k := by
  have hk := h.keeps
  rw [keepsBut_iff] at hk
  simp at hk
  apply departureTest_congr <;> simp [hk, h.trc]

/-- A slot that its turn leaves as it is. -/
theorem turnTaken_same (hf : f (slotOf w id) = slotOf w id) (hP : ¬ P (slotOf w id)) : TurnTaken f n P id w w where
  trc := by rw [hf, setSlot_slotOf]
  keeps := KeepsBut.refl _ _
  told := .refl w
  tells := fun hp => absurd hp hP

/-- Slot 0's turn and then slot 1's (R90). -/
theorem TurnTaken.both {v : State} (h0 : TurnTaken f n P .slot0 w v) (h1 : TurnTaken f n P .slot1 v t) :
    t.trc = { w.trc with slot0 := f w.trc.slot0, slot1 := f w.trc.slot1 } ∧
      (∀ id, P (slotOf w id) → isPending (t.niu.notices.get (ownerOf w id).station) n = true) ∧
      KeepsBut [.trc, .notices] w t := by
  have hk0 := h0.keeps
  have hk1 := h1.keeps
  rw [keepsBut_iff] at hk0 hk1
  simp at hk0 hk1
  have hslot1 : slotOf v .slot1 = slotOf w .slot1 := h0.other (by simp)
  refine ⟨?_, fun id hid => ?_, ?_⟩
  · have htrc := h1.trc
    rw [hslot1] at htrc
    simpa [setSlot, h0.trc, slotOf] using htrc
  · cases id with
    | slot0 => exact (h1.told _).stays _ (h0.tells hid)
    | slot1 =>
      have howner : ownerOf v .slot1 = ownerOf w .slot1 := by simp [ownerOf, State.params, hk0]
      rw [← howner]
      exact h1.tells (by rwa [hslot1])
  · simp [keepsBut_iff, hk0, hk1]

end

/-- A slot whose turn ends without a start (R91). -/
def refusedTurn (id : SlotId) (why : Reason) (s : State) : State :=
  refuseTrigger id (.reason why) (setSlot id (dropped (slotOf s id)) s)

theorem told_refusedTurn (id : SlotId) (why : Reason) (s : State) : Told [.triggerRefused] s (refusedTurn id why s) :=
  Told.handTo (.of_same (by simp)) (by simp) _ _

theorem refusedTurn_pending (id : SlotId) (why : Reason) (s : State) :
    isPending ((refusedTurn id why s).niu.notices.get (ownerOf s id).station) .triggerRefused = true := by
  have howner : ownerOf (setSlot id (dropped (slotOf s id)) s) id = ownerOf s id := by simp [ownerOf, State.params]
  unfold refusedTurn refuseTrigger
  rw [howner]
  simp

theorem dropped_of_turnNone {v : Slot} (h : turnAtExpiry v = none) : dropped v = v := by
  cases v <;> simp_all [turnAtExpiry, dropped]

theorem atDwellExpiry_idle (h : turnAtExpiry (slotOf s id) = none) : atDwellExpiry id s = s := by
  unfold atDwellExpiry
  split
  next q hq =>
    refine if_neg fun hd => ?_
    simp [hq, turnAtExpiry, hd] at h
  next q hq => simp [hq, turnAtExpiry] at h
  next => rfl

theorem turnAtExpiry_eq_some (h : turnAtExpiry (slotOf s id) = some r) :
    slotOf s id = .pending r ∨ (slotOf s id = .armed r ∧ r.trigger = .dwell) := by
  cases hs : slotOf s id with
  | pending q => simp_all [turnAtExpiry]
  | armed q =>
    simp only [hs, turnAtExpiry, Option.ite_none_right_eq_some, Option.some.injEq] at h
    obtain ⟨hd, rfl⟩ := h
    exact .inr ⟨rfl, hd⟩
  | _ => simp [hs, turnAtExpiry] at h

theorem atDwellExpiry_refused (hts : s.trc.state = .dwell k) (he : s.trc.elapsed = true)
    (h : turnAtExpiry (slotOf s id) = some r) (htest : departureTest s id r k = some why) :
    atDwellExpiry id s = refusedTurn id why s := by
  rcases turnAtExpiry_eq_some h with hs | ⟨hs, hd⟩
  · simp [atDwellExpiry, hs, testPending, hts, he, htest, dropPending, refusedTurn, dropped]
  · have hsame : setSlot id (.armed r) s = s := by
      rw [← hs]
      exact setSlot_slotOf id s
    simp [atDwellExpiry, hs, hd, takeTrigger, hts, he, htest, refusedTurn, dropped, hsame]

theorem atDwellExpiry_started (hts : s.trc.state = .dwell k) (he : s.trc.elapsed = true)
    (h : turnAtExpiry (slotOf s id) = some r) (htest : departureTest s id r k = none) :
    atDwellExpiry id s = startFromStop id r k s := by
  rcases turnAtExpiry_eq_some h with hs | ⟨hs, hd⟩
  · simp [atDwellExpiry, hs, testPending, hts, he, htest]
  · simp [atDwellExpiry, hs, hd, takeTrigger, hts, he, htest]

/-- A trigger that an ARMED slot takes while a trip is in flight (R89). -/
theorem takeTrigger_behind (h : inFlight s.trc.state = true) :
    takeTrigger id r s =
      if r.mask then handTo .triggerIgnored (.ignored id) (ownerOf s id).station s else setSlot id (.pending r) s := by
  unfold takeTrigger
  split <;> simp_all [inFlight]

/-- A slot behind a trip in flight at a trigger event (R89): one ARMED with that trigger is PENDING, unless masked. -/
def behindOf (tr : Trigger) : Slot → Slot
  | .armed r => if r.trigger = tr ∧ r.mask = false then .pending r else .armed r
  | v => v

theorem behindStart_eq (v : Slot) : behindStart v = behindOf .dwell v := by
  cases v <;> rfl

theorem behindTrip_eq (v : Slot) : behindTrip v = behindOf .dispatch v := by
  cases v <;> rfl

/-- A slot ARMED with a trigger. -/
def ArmedWith (tr : Trigger) (v : Slot) : Prop := ∃ r, v = .armed r ∧ r.trigger = tr

/-- A slot ARMED with a trigger that ignores its events while a trip is in flight (R89). -/
def Masked (tr : Trigger) (v : Slot) : Prop := ∃ r, v = .armed r ∧ r.trigger = tr ∧ r.mask = true

/-- A slot's turn at an event of the trigger `tr` while a trip is in flight (R89). -/
abbrev Behind (tr : Trigger) : SlotId → State → State → Prop := TurnTaken (behindOf tr) .triggerIgnored (Masked tr)

theorem behind_takeTrigger {tr : Trigger} (h : inFlight s.trc.state = true) (hs : slotOf s id = .armed r)
    (hd : r.trigger = tr) : Behind tr id s (takeTrigger id r s) := by
  rw [takeTrigger_behind h]
  cases hm : r.mask
  · refine ⟨by simp [hs, behindOf, hd, hm], by simp [keepsBut_iff], .of_same (by simp), fun ⟨q, hq, _, hmask⟩ => ?_⟩
    rw [hs] at hq
    cases hq
    simp [hm] at hmask
  · rw [if_pos rfl]
    refine ⟨?_, by simp [keepsBut_iff], (Told.refl s).handTo (by simp) _ _, fun _ => by simp⟩
    have hb : behindOf tr (slotOf s id) = slotOf s id := by simp [hs, behindOf, hm]
    rw [hb, setSlot_slotOf]
    simp

/-- Behind a trip in flight a slot that is not ARMED with the trigger stays as it is. -/
theorem behind_same {tr : Trigger} (h : ¬ ArmedWith tr (slotOf s id)) : Behind tr id s s := by
  refine turnTaken_same ?_ fun ⟨r, hr, hd, _⟩ => h ⟨r, hr, hd⟩
  cases hs : slotOf s id with
  | armed r =>
    have hd : r.trigger ≠ tr := fun hd => h ⟨r, hs, hd⟩
    simp [behindOf, hd]
  | _ => rfl

theorem testPending_away (h : isDwell s.trc.state = false) : testPending id s = s := by
  unfold testPending
  split
  next hs => simp [hs, isDwell] at h
  next => rfl

theorem behind_atDwellExpiry (h : inFlight s.trc.state = true) (id : SlotId) :
    Behind .dwell id s (atDwellExpiry id s) := by
  by_cases ha : ArmedWith .dwell (slotOf s id)
  · obtain ⟨r, hs, hd⟩ := ha
    have heq : atDwellExpiry id s = takeTrigger id r s := by simp [atDwellExpiry, hs, hd]
    rw [heq]
    exact behind_takeTrigger h hs hd
  · have heq : atDwellExpiry id s = s := by
      cases hs : slotOf s id with
      | armed r =>
        have hd : r.trigger ≠ .dwell := fun hd => ha ⟨r, hs, hd⟩
        simp [atDwellExpiry, hs, hd]
      | pending r => simp [atDwellExpiry, hs, testPending_away (isDwell_of_inFlight h)]
      | _ => simp [atDwellExpiry, hs]
    rw [heq]
    exact behind_same ha

/-! ## The line as MIN_DWELL elapses -/

/-- From `s` to `w` only the clock, notices of the kinds `K`, and the slots and marks of the trip controller change. -/
structure Readied (K : List NoticeKind) (s w : State) : Prop where
  keeps : KeepsBut [.now, .trc, .notices] s w
  state : w.trc.state = s.trc.state
  trip : w.trc.trip = s.trc.trip
  frozen : w.trc.frozen = s.trc.frozen
  effMode : w.trc.effMode = s.trc.effMode
  told : Told K s w

theorem Readied.sameRun {K : List NoticeKind} (h : Readied K s w) : SameRun w s := by
  have hk := h.keeps
  rw [keepsBut_iff] at hk
  simp at hk
  constructor <;> simp [hk, h.trip, h.frozen]

/-- A trip that starts from a state made ready, seen from before it. -/
theorem Started.from {K : List NoticeKind} {dest : Stop} {origin : Option Stop} (hst : Started id r dest origin w t)
    (h : Readied K s w) (hK : ∀ j ∈ NoticeKind.tripStarted :: windowKinds, j ∉ K) :
    t.trc.trip.number = (s.trc.trip.number + 1) % 65536 ∧ t.trc.trip.slot = some id ∧
      Handed .tripStarted (.started ((s.trc.trip.number + 1) % 65536) dest (restrict r.mode s.trc.effMode))
        (ownerOf s id).station s t ∧
      WindowsHanded s t ∧ t.adm.reservations = s.adm.reservations ∧
      KeepsBut [.now, .psu, .clc, .brs, .trc, .dri, .adm, .notices] s t := by
  have hk := h.keeps
  rw [keepsBut_iff] at hk
  simp at hk
  have hkt := hst.keeps
  rw [keepsBut_iff] at hkt
  simp at hkt
  have howner : ownerOf w id = ownerOf s id := by simp [ownerOf, State.params, hk]
  have hhanded := hst.handed
  rw [h.trip, h.effMode, howner] at hhanded
  refine ⟨?_, ?_, Handed.after h.told hhanded (hK _ (by simp)), ?_, ?_, ?_⟩
  · rw [hst.trip]
    simp [startRecord, h.trip, Config.wrap16]
  · rw [hst.trip]
    simp [startRecord]
  · refine hst.windows.within (fun b => ?_) (fun _ => rfl) h.told (Told.refl (K := []) t) ?_ (by simp)
    · exact (admissionOpen_congr (by simp [hk]) h.state (by simp [hk]) b).symm
    · exact fun j hj => hK j (List.mem_cons_of_mem _ hj)
  · rw [hst.reservations]
    simp [hk]
  · rw [keepsBut_iff]
    simp [hk, hkt]

/-- The state of an expiry of MIN_DWELL before the slots take their turns (R96). -/
def elapsedAt (tm : Timer) (s : State) : State :=
  (advanceTo tm.due s).onTrc fun c => { c with minDwell := none, elapsed := true }

theorem dwellElapsed_eq (tm : Timer) (s : State) :
    dwellElapsed (advanceTo tm.due s) = atDwellExpiry .slot1 (atDwellExpiry .slot0 (elapsedAt tm s)) := rfl

theorem readied_elapsedAt (tm : Timer) (s : State) : Readied [] s (elapsedAt tm s) where
  keeps := by simp [keepsBut_iff, elapsedAt]
  state := by simp [elapsedAt]
  trip := by simp [elapsedAt]
  frozen := by simp [elapsedAt]
  effMode := by simp [elapsedAt]
  told := .of_same (by simp [elapsedAt])

theorem departureTest_elapsedAt (tm : Timer) :
    departureTest (elapsedAt tm s) id r k = departureTest (advanceTo tm.due s) id r k := by
  apply departureTest_congr <;> simp [elapsedAt]

theorem slotOf_elapsedAt (tm : Timer) (id : SlotId) : slotOf (elapsedAt tm s) id = slotOf s id := by
  cases id <;> rfl

theorem execMinDwellExpiry_run {tm : Timer} (hreset : s.pins.resetLow = false) (htm : s.trc.minDwell = some tm)
    (ho : isOvertaken s .minDwellExpiry = false) :
    exec .minDwellExpiry s =
      .next (takenUp .minDwellExpiry (finish s (atDwellExpiry .slot1 (atDwellExpiry .slot0 (elapsedAt tm s))))) :=
  timed_acts (rfl : execMinDwellExpiry s = _) hreset ho (by simp [htm, dwellElapsed_eq])

/-! ## A slot whose turn ends without a start -/

/-- A slot whose test at an expiry failed is dropped, and its owner told (R91). -/
abbrev TurnPassed : SlotId → State → State → Prop :=
  TurnTaken dropped .triggerRefused fun v => (turnAtExpiry v).isSome = true

theorem turnPassed_atDwellExpiry (hts : w.trc.state = .dwell k) (he : w.trc.elapsed = true)
    (h : ∀ r, turnAtExpiry (slotOf w id) = some r → departureTest w id r k ≠ none) :
    TurnPassed id w (atDwellExpiry id w) := by
  cases hturn : turnAtExpiry (slotOf w id) with
  | none =>
    rw [atDwellExpiry_idle hturn]
    exact turnTaken_same (dropped_of_turnNone hturn) (by simp [hturn])
  | some r =>
    obtain ⟨why, hwhy⟩ := Option.ne_none_iff_exists'.mp (h r hturn)
    rw [atDwellExpiry_refused hts he hturn hwhy]
    exact ⟨by simp [refusedTurn], by simp [keepsBut_iff, refusedTurn], told_refusedTurn id why w,
      fun _ => refusedTurn_pending id why w⟩

theorem Readied.passed {f : Slot → Slot} {n : NoticeKind} {P : Slot → Prop} (h : Readied [n] s w)
    (hp : TurnTaken f n P id w t) : Readied [n] s t := by
  have hk := h.keeps
  have hk' := hp.keeps
  rw [keepsBut_iff] at hk hk'
  simp at hk hk'
  refine ⟨?_, ?_, ?_, ?_, ?_, h.told.trans hp.told⟩
  · simp [keepsBut_iff, hk, hk']
  · rw [hp.trc]
    simpa using h.state
  · rw [hp.trc]
    simpa using h.trip
  · rw [hp.trc]
    simpa using h.frozen
  · rw [hp.trc]
    simpa using h.effMode

/-! ## A slot whose turn starts its trip -/

/-- The trip that slot `id` starts from stop `k` at an expiry, as seen from before the expiry. -/
structure TurnStarted (id : SlotId) (r : TripReq) (k : Stop) (s t : State) : Prop where
  number : t.trc.trip.number = (s.trc.trip.number + 1) % 65536
  slot : t.trc.trip.slot = some id
  handed : Handed .tripStarted
    (.started ((s.trc.trip.number + 1) % 65536) (startStop s r k) (restrict r.mode s.trc.effMode))
    (ownerOf s id).station s t
  windows : WindowsHanded s t
  reservations : t.adm.reservations = s.adm.reservations
  closing : s.lsu.line = .inService → s.adm.reservations ≠ [] → t.trc.state = .closing k
  doors : s.lsu.line = .inspection ∨ s.adm.reservations = [] → DoorsOrSettle s t
  keeps : KeepsBut [.now, .psu, .clc, .brs, .trc, .dri, .adm, .notices] s t

theorem turnStarted_startFromStop (h : Readied [.triggerRefused] s w) (id : SlotId) (r : TripReq) (k : Stop) :
    TurnStarted id r k s (startFromStop id r k w) := by
  have hst := (onward_startFromStop id r k w).started
  obtain ⟨hnumber, hslot, hhanded, hwin, hres, hkeeps⟩ := hst.from h (by decide)
  have hk := h.keeps
  rw [keepsBut_iff] at hk
  simp at hk
  have hstop : startStop w r k = startStop s r k := by simp [startStop, State.params, hk, h.trip]
  rw [hstop] at hhanded
  refine ⟨hnumber, hslot, hhanded, hwin, hres, fun hline hr => ?_, fun hd => ?_, hkeeps⟩
  · exact (startFromStop_closing id r k (by simpa [hk] using hline) (by simpa [hk] using hr)).1
  · exact (doorsOrSettle_startFromStop id r k (by simpa [hk] using hd)).from h.sameRun

/-- Behind a trip that has started, another slot's turn leaves the trip alone. -/
theorem TurnStarted.behind {o : SlotId} {tr : Trigger} (h : TurnStarted id r k s t)
    (hb : Behind tr o t u) : TurnStarted id r k s u := by
  have hk := hb.keeps
  have hkeeps := h.keeps
  rw [keepsBut_iff] at hk hkeeps
  simp at hk hkeeps
  have htrc : u.trc.state = t.trc.state ∧ u.trc.trip = t.trc.trip ∧ u.trc.settleTimer = t.trc.settleTimer ∧
      u.trc.minDwell = t.trc.minDwell ∧ u.trc.frozen = t.trc.frozen := by simp [hb.trc]
  obtain ⟨hstate, htrip, htimer, hdwell, hfrozen⟩ := htrc
  have hopen (b : Berth) : admissionOpen u b = admissionOpen t b :=
    admissionOpen_congr (by simp [hk]) hstate (by simp [hk]) b
  refine ⟨by rw [htrip, h.number], by rw [htrip, h.slot], h.handed.told hb.told (by simp),
    h.windows.within (fun _ => rfl) hopen (Told.refl (K := []) s) hb.told (by simp) (by simp [windowKinds]),
    by simp [hk, h.reservations], fun hline hr => hstate.trans (h.closing hline hr), fun hd => (h.doors hd).at ?_, ?_⟩
  · constructor <;> simp [hk, hstate, htrip, htimer, hdwell, hfrozen]
  · simp [keepsBut_iff, hk, hkeeps]

theorem slotOf_takenUp (i : Instr) (o : SlotId) : slotOf (takenUp i (finish s t)) o = slotOf t o := by
  simp [slotOf]

theorem TurnStarted.takenUp (h : TurnStarted id r k s t) (i : Instr) : TurnStarted id r k s (takenUp i (finish u t)) where
  number := by simpa using h.number
  slot := by simpa using h.slot
  handed := by simpa using h.handed
  windows := h.windows.takenUp i
  reservations := by simpa using h.reservations
  closing := by simpa using h.closing
  doors := fun hd => (h.doors hd).takenUp i
  keeps := by simpa using h.keeps

/-! ## The lead timer (R110) -/

/-- The state in which a lead timer has expired. -/
def boardingAt (tm : Timer) (s : State) : State := leadElapsed (advanceTo tm.due s)

theorem windowsHanded_boardingAt (tm : Timer) (s : State) : WindowsHanded s (boardingAt tm s) := by
  refine (windowsHanded_setReleaseMark true _).congr (fun b => ?_) (fun _ => rfl) ?_ rfl
  · exact admissionOpen_congr (by simp) (by simp) (by simp) b
  · simp

/-- Settles O34. -/
theorem dwellTimersElapse : Obligations.DwellTimersElapse := by
  unfold Obligations.DwellTimersElapse
  refine ⟨⟨fun tm s hh htm hpend harm ho => ?idle, fun s hh htm => ?stopped,
    fun tm k id r s hh htm hts hturn hzero htest ho => ?starts, fun tm k s hh htm hts htest ho => ?refused⟩,
    fun tm s hh htm ho => ?boards, fun s hh htm => ?none⟩
  case idle =>
    have hnone (id : SlotId) : turnAtExpiry (slotOf s id) = none := by
      cases hs : slotOf s id with
      | armed r => simp [turnAtExpiry, harm id r hs]
      | pending r =>
        cases id
        · exact absurd (congrArg Slot.name hs) hpend.1
        · exact absurd (congrArg Slot.name hs) hpend.2
      | _ => rfl
    have hsame (id : SlotId) : atDwellExpiry id (elapsedAt tm s) = elapsedAt tm s :=
      atDwellExpiry_idle (by rw [slotOf_elapsedAt, hnone])
    refine ⟨_, execMinDwellExpiry_run hh htm ho, ?_, ?_, ?_⟩ <;> simp [hsame]
    · simp [elapsedAt]
    · simp [elapsedAt]
    · simp [keepsBut_iff, elapsedAt]
  case stopped =>
    exact ⟨_, timed_idle (rfl : execMinDwellExpiry s = _) hh fun _ => by simp [htm], by simp [KeepsBut.refl]⟩
  case starts =>
    have hready : Readied [.triggerRefused] s (elapsedAt tm s) :=
      { readied_elapsedAt tm s with told := (readied_elapsedAt tm s).told.mono (by simp) }
    have hats : (elapsedAt tm s).trc.state = .dwell k := (readied_elapsedAt tm s).state.trans hts
    have htest' : departureTest (elapsedAt tm s) id r k = none := (departureTest_elapsedAt tm).trans htest
    have hturn' : turnAtExpiry (slotOf (elapsedAt tm s) id) = some r := by rwa [slotOf_elapsedAt]
    refine ⟨_, execMinDwellExpiry_run hh htm ho, ?_⟩
    cases id with
    | slot0 =>
      have hst := (onward_startFromStop .slot0 r k (elapsedAt tm s)).started
      have hb := behind_atDwellExpiry (onward_startFromStop .slot0 r k (elapsedAt tm s)).flight .slot1
      have hts' := (turnStarted_startFromStop hready .slot0 r k).behind hb
      have hslot1 : slotOf (startFromStop .slot0 r k (elapsedAt tm s)) .slot1 = s.trc.slot1 :=
        (hst.others .slot1 (by simp)).trans (slotOf_elapsedAt tm .slot1)
      rw [atDwellExpiry_started hats rfl hturn' htest']
      obtain ⟨hnumber, hslot, hhanded, hwin, hres, hclosing, hdoors, hkeeps⟩ := hts'.takenUp (u := s) .minDwellExpiry
      refine ⟨by simp [elapsedAt], ?_, hnumber, hslot, fun _ => ⟨?_, ?_⟩, fun h => absurd h (by decide), hhanded, hwin, hres,
        hclosing, hdoors, hkeeps⟩
      · rw [slotOf_takenUp]
        exact (hb.other (by simp)).trans hst.slot
      · have h := hb.slot
        rw [hslot1, ← behindStart_eq] at h
        simpa [slotOf] using h
      · intro r1 h1 hd1 hm1
        have h := hb.tells ⟨r1, hslot1.trans h1, hd1, hm1⟩
        simpa [ownerOf, State.params, elapsedAt] using h
    | slot1 =>
      have hpass : TurnPassed .slot0 (elapsedAt tm s) (atDwellExpiry .slot0 (elapsedAt tm s)) :=
        turnPassed_atDwellExpiry hats rfl fun r0 h0 => by
          rw [departureTest_elapsedAt]
          exact hzero rfl r0 h0
      have hready' := hready.passed hpass
      have hslot1 : slotOf (atDwellExpiry .slot0 (elapsedAt tm s)) .slot1 = slotOf s .slot1 :=
        (hpass.other (by simp)).trans (slotOf_elapsedAt tm .slot1)
      have hst := (onward_startFromStop .slot1 r k (atDwellExpiry .slot0 (elapsedAt tm s))).started
      have hts' := turnStarted_startFromStop hready' .slot1 r k
      have he : (atDwellExpiry .slot0 (elapsedAt tm s)).trc.elapsed = true := by
        rw [hpass.trc]
        simp [elapsedAt]
      rw [atDwellExpiry_started (hready'.state.trans hts) he (by rwa [hslot1]) (hpass.test.trans htest')]
      obtain ⟨hnumber, hslot, hhanded, hwin, hres, hclosing, hdoors, hkeeps⟩ := hts'.takenUp (u := s) .minDwellExpiry
      refine ⟨by simp [elapsedAt], ?_, hnumber, hslot, fun h => absurd h (by decide), fun _ => ⟨?_, ?_⟩, hhanded, hwin, hres,
        hclosing, hdoors, hkeeps⟩
      · rw [slotOf_takenUp]
        exact hst.slot
      · have h := (hst.others .slot0 (by simp)).trans hpass.slot
        rw [slotOf_elapsedAt] at h
        simpa [slotOf] using h
      · intro hsome
        have h := (hst.told _).stays _ (hpass.tells hsome)
        simpa [ownerOf, State.params, elapsedAt] using h
  case refused =>
    have hready : Readied [.triggerRefused] s (elapsedAt tm s) :=
      { readied_elapsedAt tm s with told := (readied_elapsedAt tm s).told.mono (by simp) }
    have hats : (elapsedAt tm s).trc.state = .dwell k := (readied_elapsedAt tm s).state.trans hts
    have hpass0 : TurnPassed .slot0 (elapsedAt tm s) (atDwellExpiry .slot0 (elapsedAt tm s)) :=
      turnPassed_atDwellExpiry hats rfl fun r0 h0 => by
        rw [departureTest_elapsedAt]
        exact htest .slot0 r0 h0
    have hready0 := hready.passed hpass0
    have hslot1 : slotOf (atDwellExpiry .slot0 (elapsedAt tm s)) .slot1 = slotOf s .slot1 :=
      (hpass0.other (by simp)).trans (slotOf_elapsedAt tm .slot1)
    have he : (atDwellExpiry .slot0 (elapsedAt tm s)).trc.elapsed = true := by
      rw [hpass0.trc]
      simp [elapsedAt]
    have hpass1 := turnPassed_atDwellExpiry (id := .slot1) (hready0.state.trans hts) he fun r1 h1 => by
      rw [hpass0.test, departureTest_elapsedAt]
      exact htest .slot1 r1 (by rwa [← hslot1])
    obtain ⟨htrc, htells, _⟩ := hpass0.both hpass1
    refine ⟨_, execMinDwellExpiry_run hh htm ho, by simp [elapsedAt], ?_, fun id r hturn => ?_, ?_⟩
    · simp only [takenUp_trc, finish_frame]
      rw [htrc]
      simp [elapsedAt]
    · rw [takenUp_niu, isPending_finish]
      have h := htells id (by simp [slotOf_elapsedAt, hturn])
      simpa [ownerOf, State.params, elapsedAt] using h
    · simpa using (hready0.passed hpass1).keeps
  case boards =>
    have heq : exec .leadTimerExpiry s = .next (takenUp .leadTimerExpiry (finish s (boardingAt tm s))) :=
      timed_acts (rfl : execLeadTimerExpiry s = _) hh ho (by simp [htm, boardingAt])
    refine ⟨_, heq, ?_, ?_, ?_, (windowsHanded_boardingAt tm s).takenUp _, ?_⟩
    · simp [boardingAt, leadElapsed]
    · simp [boardingAt, leadElapsed, setReleaseMark]
    · simp [boardingAt, leadElapsed]
    · simp [keepsBut_iff, boardingAt, leadElapsed]
  case none =>
    exact ⟨_, timed_idle (rfl : execLeadTimerExpiry s = _) hh fun _ => by simp [htm], by simp [KeepsBut.refl]⟩

end Sys2Proof.Machine
end

section
/-! The dispatcher's line (O33): a press is an event for the slots ARMED with trigger DISPATCH. -/

namespace Sys2Proof.Machine

variable {s t u w : State} {id : SlotId} {r : TripReq} {k : Stop} {why : Reason} {tr : Trigger}

/-! ## The debounced level -/

theorem keepsBut_debounce (v : Bool) (s : State) : KeepsBut [.trc, .pins, .now] s (debounce v s) := by
  rw [debounce_eq]
  simp [keepsBut_iff]

theorem debounce_trc (v : Bool) (s : State) : (debounce v s).trc = { s.trc with debounced := v } := by
  rw [debounce_eq]

theorem slotOf_debounce (v : Bool) (id : SlotId) : slotOf (debounce v s) id = slotOf s id := by
  cases id <;> simp [slotOf, debounce_trc]

theorem ownerOf_debounce (v : Bool) (id : SlotId) : ownerOf (debounce v s) id = ownerOf s id := by
  simp [ownerOf, State.params]

/-- The departure test at a press is that of the state before it, at the time of the press. -/
theorem departureTest_debounce {n : Nat} (hn : n = (debounce true s).now) :
    departureTest (debounce true s) id r k = departureTest { s with now := n } id r k := by
  apply departureTest_congr <;> simp [debounce_trc, hn]

theorem execDispatch_run (hreset : s.pins.resetLow = false) (hd : s.trc.debounced = false) :
    exec .dispatch s =
      .next (finish s (takeEvent .dispatch .slot1 (takeEvent .dispatch .slot0 (debounce true s)))) :=
  event_acts (rfl : execDispatch s = _) hreset (by simp [hd])

/-! ## A slot at a trigger event (R87 to R89, R105) -/

theorem takeEvent_idle (h : ¬ ArmedWith tr (slotOf s id)) : takeEvent tr id s = s := by
  unfold takeEvent
  split
  next r hr => exact if_neg fun hd => h ⟨r, hr, hd⟩
  next => rfl

theorem takeEvent_armed (hs : slotOf s id = .armed r) (hd : r.trigger = tr) : takeEvent tr id s = takeTrigger id r s := by
  simp [takeEvent, hs, hd]

theorem takeTrigger_starts (hts : s.trc.state = .dwell k) (he : s.trc.elapsed = true)
    (h : departureTest s id r k = none) : takeTrigger id r s = startFromStop id r k s := by
  simp [takeTrigger, hts, he, h]

theorem takeTrigger_refused (hts : s.trc.state = .dwell k) (he : s.trc.elapsed = true)
    (h : departureTest s id r k = some why) : takeTrigger id r s = refuseTrigger id (.reason why) s := by
  simp [takeTrigger, hts, he, h]

theorem takeTrigger_line (hts : s.trc.state = .stoppedOnLine) (hi : r.trigger ≠ .immediate) :
    takeTrigger id r s = refuseTrigger id (.reason .wrongState) s := by
  simp [takeTrigger, hts, lineTest, hi]

/-- Before MIN_DWELL has elapsed an event is memorised (R88). -/
theorem takeEvent_memorised (hts : s.trc.state = .dwell k) (he : s.trc.elapsed = false) (id : SlotId) :
    takeEvent .dispatch id s = setSlot id (memorised (slotOf s id)) s := by
  have hsame {v : Slot} (hv : slotOf s id = v) : s = setSlot id v s := by rw [← hv, setSlot_slotOf]
  unfold takeEvent
  split
  next r hr =>
    split
    next hd => simp [hr, memorised, hd, takeTrigger, hts, he]
    next hd => simpa [hr, memorised, hd] using hsame hr
  next hne =>
    have hm : memorised (slotOf s id) = slotOf s id := by
      cases hs : slotOf s id with
      | armed r => exact absurd hs (hne r)
      | _ => rfl
    rw [hm]
    exact hsame rfl

theorem behind_takeEvent (h : inFlight s.trc.state = true) (id : SlotId) :
    Behind tr id s (takeEvent tr id s) := by
  by_cases ha : ArmedWith tr (slotOf s id)
  · obtain ⟨r, hs, hd⟩ := ha
    rw [takeEvent_armed hs hd]
    exact behind_takeTrigger h hs hd
  · rw [takeEvent_idle ha]
    exact behind_same ha

/-- A slot that takes a trigger event and is refused it stays ARMED, and its owner is told (R88, R105). -/
abbrev EventRefused (tr : Trigger) : SlotId → State → State → Prop :=
  TurnTaken (fun v => v) .triggerRefused (ArmedWith tr)

theorem eventRefused_refuseTrigger (id : SlotId) (why : TriggerRefusal) (s : State) :
    EventRefused tr id s (refuseTrigger id why s) where
  trc := by simp [setSlot_slotOf, refuseTrigger]
  keeps := by simp [keepsBut_iff, refuseTrigger]
  told := (Told.refl s).handTo (by simp) _ _
  tells := fun _ => by simp [refuseTrigger]

theorem eventRefused_takeEvent (h : ∀ r, slotOf s id = .armed r → r.trigger = tr →
      ∃ why, takeTrigger id r s = refuseTrigger id why s) : EventRefused tr id s (takeEvent tr id s) := by
  by_cases ha : ArmedWith tr (slotOf s id)
  · obtain ⟨r, hs, hd⟩ := ha
    obtain ⟨why, hwhy⟩ := h r hs hd
    rw [takeEvent_armed hs hd, hwhy]
    exact eventRefused_refuseTrigger id why s
  · rw [takeEvent_idle ha]
    exact turnTaken_same rfl ha

/-! ## The dispatcher's line (O33) -/

/-- A trip that starts at a press, while reservations are open in service. -/
theorem startFromStop_pressed (hline : w.lsu.line = .inService)
    (hr : w.adm.reservations ≠ []) (id : SlotId) (r : TripReq) :
    (startFromStop id r k w).trc.state = .closing k ∧ slotOf (startFromStop id r k w) id = .inFlight r ∧
      (∀ o, o ≠ id → slotOf (startFromStop id r k w) o = slotOf w o) ∧
      (startFromStop id r k w).trc.trip.number = (w.trc.trip.number + 1) % 65536 := by
  have hst := (onward_startFromStop id r k w).started
  refine ⟨(startFromStop_closing id r k hline hr).1, hst.slot, hst.others, ?_⟩
  rw [hst.trip]
  rfl

/-- Where one slot alone is ARMED for the event, its turn is all there is. -/
theorem takeEvent_single (hs : slotOf s id = .armed r) (hd : r.trigger = tr)
    (hother : ∀ o, o ≠ id → ¬ ArmedWith tr (slotOf s o))
    (hstays : ∀ o, o ≠ id → slotOf (takeTrigger id r s) o = slotOf s o) :
    takeEvent tr .slot1 (takeEvent tr .slot0 s) = takeTrigger id r s := by
  cases id with
  | slot0 =>
    rw [takeEvent_armed hs hd]
    refine takeEvent_idle ?_
    rw [hstays .slot1 (by simp)]
    exact hother .slot1 (by simp)
  | slot1 => rw [takeEvent_idle (hother .slot0 (by simp)), takeEvent_armed hs hd]

/-- Settles O33. -/
theorem dispatcherLine : Obligations.DispatcherLine := by
  unfold Obligations.DispatcherLine
  refine ⟨fun k s hh hd hts he => ?waits, fun s hh hd => ?high, fun s hh hd => ?falls, fun high s => ?input,
    fun k id r s hh hd hts he hs htr hother => ?one, fun k r0 r1 s hh hd hts he hs0 hs1 hd0 hd1 hline hr => ?two,
    fun s hh hd hfl => ?behind, fun s hh hd => ⟨fun hts => ?none, fun hts => ?line⟩⟩
  case waits =>
    have hts' : (debounce true s).trc.state = .dwell k := by simpa [debounce_trc] using hts
    have he' : (debounce true s).trc.elapsed = false := by simpa [debounce_trc] using he
    refine ⟨_, execDispatch_run hh hd, ?_, ?_⟩
    all_goals rw [takeEvent_memorised hts' he', takeEvent_memorised (by simpa using hts') (by simpa using he')]
    · simp [setSlot, slotOf, debounce_trc]
    · simp [keepsBut_iff]
  case high => exact ⟨_, event_acts (rfl : execDispatch s = _) hh (if_pos hd), by simp [KeepsBut.refl]⟩
  case falls =>
    have heq : exec .debouncedLevelFall s = .next (finish s (debounce false s)) :=
      event_acts (rfl : execDebouncedLevelFall s = _) hh (by simp [hd])
    refine ⟨_, heq, by simp [debounce_trc], by simpa using keepsBut_debounce false s⟩
  case input => exact ⟨_, rfl, rfl, rfl⟩
  case one =>
    have hts' : (debounce true s).trc.state = .dwell k := by simpa [debounce_trc] using hts
    have he' : (debounce true s).trc.elapsed = true := by simpa [debounce_trc] using he
    have hother' (o : SlotId) (ho : o ≠ id) : ¬ ArmedWith .dispatch (slotOf (debounce true s) o) := by
      rw [slotOf_debounce]
      exact fun ⟨q, hq, hqt⟩ => hother o q ho hq hqt
    have hstays (o : SlotId) (ho : o ≠ id) :
        slotOf (takeTrigger id r (debounce true s)) o = slotOf (debounce true s) o := by
      cases htest : departureTest (debounce true s) id r k with
      | none =>
        rw [takeTrigger_starts hts' he' htest]
        exact (onward_startFromStop id r k _).started.others o ho
      | some why => simp [takeTrigger_refused hts' he' htest, refuseTrigger, slotOf]
    have hsingle := takeEvent_single ((slotOf_debounce true id).trans hs) htr hother' hstays
    refine ⟨_, execDispatch_run hh hd, ?_⟩
    rw [hsingle]
    refine ⟨fun htest hline hr => ?_, fun why htest => ?_⟩
    · rw [← departureTest_debounce (by simp)] at htest
      rw [takeTrigger_starts hts' he' htest]
      obtain ⟨hstate, hslot, hothers, hnumber⟩ :=
        startFromStop_pressed (w := debounce true s) (k := k) (by simpa using hline) (by simpa using hr) id r
      simp only [slotOf_debounce] at hothers
      refine ⟨by simpa using hstate, by simpa [slotOf] using hslot, fun o ho => by simpa [slotOf] using hothers o ho, ?_⟩
      simpa [debounce_trc] using hnumber
    · rw [← departureTest_debounce (by simp)] at htest
      rw [takeTrigger_refused hts' he' htest]
      refine ⟨by simp [refuseTrigger, debounce_trc], ?_, by simp [keepsBut_iff, refuseTrigger]⟩
      simp [refuseTrigger, ownerOf_debounce]
  case two =>
    have hts' : (debounce true s).trc.state = .dwell k := by simpa [debounce_trc] using hts
    have he' : (debounce true s).trc.elapsed = true := by simpa [debounce_trc] using he
    have hs0' : slotOf (debounce true s) .slot0 = .armed r0 := (slotOf_debounce true .slot0).trans hs0
    have hs1' : slotOf (debounce true s) .slot1 = .armed r1 := (slotOf_debounce true .slot1).trans hs1
    refine ⟨_, execDispatch_run hh hd, ?_⟩
    rw [takeEvent_armed hs0' hd0]
    refine ⟨fun htest => ?_, fun hfail htest => ?_⟩
    · rw [← departureTest_debounce (by simp)] at htest
      rw [takeTrigger_starts hts' he' htest]
      obtain ⟨hstate, hslot, hothers, _⟩ :=
        startFromStop_pressed (w := debounce true s) (k := k) (by simpa using hline) (by simpa using hr) .slot0 r0
      have hb := behind_takeEvent (tr := .dispatch) (onward_startFromStop .slot0 r0 k (debounce true s)).flight .slot1
      have hslot1 := (hothers .slot1 (by simp)).trans hs1'
      have hnow1 := hb.slot
      rw [hslot1, ← behindTrip_eq] at hnow1
      refine ⟨?_, ?_, by simpa [slotOf] using hnow1, fun hm => ?_⟩
      · simp only [finish_frame]
        rw [hb.trc]
        simpa using hstate
      · simpa [slotOf] using (hb.other (o := .slot0) (by simp)).trans hslot
      · have h := hb.tells ⟨r1, hslot1, hd1, hm⟩
        simpa [ownerOf, State.params] using h
    · rw [← departureTest_debounce (by simp)] at hfail htest
      obtain ⟨why, hwhy⟩ := Option.ne_none_iff_exists'.mp hfail
      rw [takeTrigger_refused hts' he' hwhy]
      have hpass := eventRefused_refuseTrigger (tr := .dispatch) .slot0 (.reason why) (debounce true s)
      have hs1'' := (hpass.other (o := .slot1) (by simp)).trans hs1'
      have hstart := takeTrigger_starts (s := refuseTrigger .slot0 (.reason why) (debounce true s)) (id := .slot1) (r := r1)
        (by simpa [refuseTrigger] using hts') (by simpa [refuseTrigger] using he') (hpass.test.trans htest)
      rw [takeEvent_armed hs1'' hd1, hstart]
      obtain ⟨hstate, hslot, hothers, _⟩ :=
        startFromStop_pressed (w := refuseTrigger .slot0 (.reason why) (debounce true s)) (k := k)
          (by simpa [refuseTrigger] using hline) (by simpa [refuseTrigger] using hr) .slot1 r1
      have hslot0 := (hothers .slot0 (by simp)).trans (hpass.slot.trans hs0')
      have htold := (onward_startFromStop .slot1 r1 k (refuseTrigger .slot0 (.reason why) (debounce true s))).started.told
      refine ⟨by simpa using hstate, by simpa [slotOf] using hslot0, by simpa [slotOf] using hslot, ?_⟩
      have h := (htold _).stays _ (hpass.tells ⟨r0, hs0', hd0⟩)
      simpa [ownerOf_debounce] using h
  case behind =>
    have hfl' : inFlight (debounce true s).trc.state = true := by simpa [debounce_trc] using hfl
    have h0 := behind_takeEvent (tr := .dispatch) hfl' .slot0
    have h1 := behind_takeEvent (tr := .dispatch) (s := takeEvent .dispatch .slot0 (debounce true s))
      (by rw [h0.trc]; simpa using hfl') .slot1
    obtain ⟨htrc, htells, hkeeps⟩ := h0.both h1
    rw [keepsBut_iff] at hkeeps
    simp at hkeeps
    refine ⟨_, execDispatch_run hh hd, ?_, fun id r hs htr hm => ?_, ?_⟩
    · simp [htrc, debounce_trc, behindTrip_eq]
    · have h := htells id ⟨r, (slotOf_debounce true id).trans hs, htr, hm⟩
      simpa [ownerOf_debounce] using h
    · simp [keepsBut_iff, hkeeps]
  case none =>
    have hsame (id : SlotId) : takeEvent .dispatch id (debounce true s) = debounce true s := by
      simp [takeEvent, takeTrigger, debounce_trc, hts]
      split <;> simp
    refine ⟨_, execDispatch_run hh hd, ?_, ?_⟩
    · simp [hsame, debounce_trc]
    · simpa [hsame] using keepsBut_debounce true s
  case line =>
    have hts' : (debounce true s).trc.state = .stoppedOnLine := by simpa [debounce_trc] using hts
    have h0 := eventRefused_takeEvent (tr := .dispatch) (s := debounce true s) (id := .slot0)
      fun r _ htr => ⟨_, takeTrigger_line hts' (by simp [htr])⟩
    have h1 := eventRefused_takeEvent (tr := .dispatch) (s := takeEvent .dispatch .slot0 (debounce true s)) (id := .slot1)
      fun r _ htr => ⟨_, takeTrigger_line (by rw [h0.trc]; simpa using hts') (by simp [htr])⟩
    obtain ⟨htrc, htells, hkeeps⟩ := h0.both h1
    rw [keepsBut_iff] at hkeeps
    simp at hkeeps
    refine ⟨_, execDispatch_run hh hd, ?_, fun id r hs htr => ?_, ?_⟩
    · simp [htrc, debounce_trc]
    · have h := htells id ⟨r, (slotOf_debounce true id).trans hs, htr⟩
      simpa [ownerOf_debounce] using h
    · simp [keepsBut_iff, hkeeps]

end Sys2Proof.Machine
end

section
/-! The settle timer's expiry (O35): the entry to RELEASE with the doors LOCKED, and with a check that fails. -/

namespace Sys2Proof.Machine

variable {s t u v w : State} {c : Cause} {d : Detail}

/-! ## A brake stop on entry (R62, R70, R100, R114) -/

/-- RELEASE entered with no stage standing and no cause in the set. -/
structure JustReleased (s : State) : Prop where
  state : s.trc.state = .release
  stage : s.brs.stage = .none
  causes : s.brs.causes = []
  ebHoldoff : s.brs.ebHoldoff = true

/-- A moving trip that a SERVICE cause has taken to BRAKING. -/
structure ServiceStopped (s : State) : Prop where
  state : s.trc.state = .braking
  stage : s.brs.stage = .service
  drivePermit : s.brs.drivePermit = false
  sbHoldoff : s.brs.sbHoldoff = false
  ebHoldoff : s.brs.ebHoldoff = true
  releaseWait : s.brs.releaseWait = none

theorem ServiceStopped.raise (h : ServiceStopped s) (hs : c.stage = .service) (d : Detail) :
    ServiceStopped (raiseCause c d s) := by
  by_cases hc : hasCause s c = true
  · simpa [raiseCause, hc] using h
  · have hflat : ¬ s.brs.stage.rank < c.stage.rank := by simp [h.stage, hs]
    rw [raiseCause_flat (by simpa using hc) hflat]
    obtain ⟨hstate, hstage, hdp, hsb, heb, hwait⟩ := h
    constructor <;> simp [addCause, *]

theorem releaseWait_of_rise (hc : hasCause s c = false) (hr : s.brs.stage.rank < c.stage.rank) (d : Detail)
    (hts : s.trc.state = .release) : (raiseCause c d s).brs.releaseWait = none := by
  have hstate : tripOnRise (risen c d s) = setTripState .braking (risen c d s) := by simp [tripOnRise, hts]
  rw [raiseCause_rise hc hr, hstate]
  simp

theorem JustReleased.raise (h : JustReleased s) (hs : c.stage = .service) (d : Detail) :
    ServiceStopped (raiseCause c d s) := by
  have hc : hasCause s c = false := by simp [hasCause, h.causes]
  have hr : s.brs.stage.rank < c.stage.rank := by simp [h.stage, hs, Stage.rank]
  obtain ⟨hdp, hsb, heb, -, -, -, -, hstate, -⟩ := raiseCause_rises hc hr d
  refine ⟨?_, ?_, hdp, hsb, ?_, releaseWait_of_rise hc hr d h.state⟩
  · rw [hstate, riseState, h.state]
  · simp [raiseCause_stage, hc, h.stage, hs, Stage.rank]
  · rw [heb, h.ebHoldoff, hs]
    rfl

/-! ## The checks of the entry (R70, R114) -/

/-- DOOR_OPEN is in the set with a fresh car's side that is not LOCKED, where it is in the set. -/
def DoorSaid (s : State) : Prop :=
  hasCause s .doorOpen = true → ∃ o d, isFresh s o = true ∧ doorState (s.cru.get o).poll d ≠ .locked ∧
    ⟨.doorOpen, .door o d (doorState (s.cru.get o).poll d)⟩ ∈ s.brs.causes

/-- What the checks of an entry to RELEASE leave and add. -/
structure Checks (s t : State) : Prop where
  keeps : KeepsBut [.psu, .clc, .brs, .trc, .dri, .adm, .notices, .incidents] s t
  causes : s.brs.causes ⊆ t.brs.causes
  run : t = s ∨ (JustReleased s → ServiceStopped t)
  stopped : ServiceStopped s → ServiceStopped t
  door : DoorSaid s → DoorSaid t

theorem Checks.refl (s : State) : Checks s s := ⟨KeepsBut.refl _ _, fun _ h => h, .inl rfl, id, id⟩

theorem Checks.trans (h : Checks s t) (h' : Checks t u) : Checks s u where
  keeps := by
    have hk := h.keeps
    have hk' := h'.keeps
    rw [keepsBut_iff] at hk hk' ⊢
    simp_all
  causes := fun _ hm => h'.causes (h.causes hm)
  run := by
    rcases h.run with rfl | hrun
    · exact h'.run
    · exact .inr fun hs => h'.stopped (hrun hs)
  stopped := h'.stopped ∘ h.stopped
  door := h'.door ∘ h.door

theorem causes_subset_raiseCause (c : Cause) (d : Detail) (s : State) :
    s.brs.causes ⊆ (raiseCause c d s).brs.causes := by
  by_cases hc : hasCause s c = true
  · simp [raiseCause, hc]
  · simp [raiseCause_causes (by simpa using hc) d]

theorem hasCause_of_subset (h : s.brs.causes ⊆ t.brs.causes) (hc : hasCause s c = true) : hasCause t c = true := by
  unfold hasCause at *
  rw [List.any_eq_true] at *
  obtain ⟨r, hr, he⟩ := hc
  exact ⟨r, h hr, he⟩

theorem isFresh_raiseCause (c : Cause) (d : Detail) (o : Car) : isFresh (raiseCause c d s) o = isFresh s o :=
  isFresh_congr o (by simp) (by simp) (by simp [State.params])

theorem checks_raiseCause (hs : c.stage = .service) (hdoor : DoorSaid s → DoorSaid (raiseCause c d s)) :
    Checks s (raiseCause c d s) where
  keeps := keepsBut_raiseCause c d
  causes := causes_subset_raiseCause c d s
  run := .inr fun h => h.raise hs d
  stopped := fun h => h.raise hs d
  door := hdoor

theorem doorSaid_raise_other (hne : c ≠ .doorOpen) (d : Detail) (h : DoorSaid s) : DoorSaid (raiseCause c d s) := by
  intro hd
  have hbefore : hasCause s .doorOpen = true := by
    by_cases hc : hasCause s c = true
    · simpa [raiseCause, hc] using hd
    · simpa [hasCause, raiseCause_causes (by simpa using hc) d, hne] using hd
  obtain ⟨o, e, hf, hl, hm⟩ := h hbefore
  refine ⟨o, e, (isFresh_raiseCause c d o).trans hf, by simpa using hl, ?_⟩
  simpa using causes_subset_raiseCause c d s hm

theorem doorSaid_raise_door {o : Car} {e : Side} (hf : isFresh s o = true)
    (hl : doorState (s.cru.get o).poll e ≠ .locked) (h : DoorSaid s) :
    DoorSaid (raiseCause .doorOpen (.door o e (doorState (s.cru.get o).poll e)) s) := by
  by_cases hc : hasCause s .doorOpen = true
  · simpa [raiseCause, hc] using h
  · refine fun _ => ⟨o, e, (isFresh_raiseCause _ _ o).trans hf, by simpa using hl, ?_⟩
    simp [raiseCause_causes (by simpa using hc)]

theorem checks_silentCheck (o : Car) (s : State) : Checks s (silentCheck o s) := by
  unfold silentCheck
  split
  · exact .refl s
  · exact checks_raiseCause rfl (doorSaid_raise_other (by simp) _)

theorem checks_doorCheckSide {o : Car} (hf : isFresh s o = true) (e : Side) : Checks s (doorCheckSide o e s) := by
  unfold doorCheckSide
  dsimp only
  split
  next => exact .refl s
  next hl => exact checks_raiseCause rfl (doorSaid_raise_door hf hl)

theorem Checks.fresh (h : Checks s t) (o : Car) : isFresh t o = isFresh s o := by
  have hk := h.keeps
  rw [keepsBut_iff] at hk
  simp at hk
  exact isFresh_congr o (by simp [hk]) (by simp [hk]) (by simp [State.params, hk])

theorem Checks.cru (h : Checks s t) : t.cru = s.cru := by
  have hk := h.keeps
  rw [keepsBut_iff] at hk
  simp at hk
  simp [hk]

theorem checks_doorCheck (o : Car) (s : State) : Checks s (doorCheck o s) := by
  unfold doorCheck
  split
  next hf =>
    have hleft := checks_doorCheckSide hf .left
    exact hleft.trans (checks_doorCheckSide ((hleft.fresh o).trans hf) .right)
  next => exact .refl s

/-- A fresh car with a side not LOCKED has DOOR_OPEN in the set. -/
theorem doorOpen_doorCheck {o : Car} (hf : isFresh s o = true) (hl : bothLocked (s.cru.get o).poll = false) :
    hasCause (doorCheck o s) .doorOpen = true := by
  unfold doorCheck
  rw [if_pos hf]
  by_cases hleft : doorState (s.cru.get o).poll .left = .locked
  · have hsame : doorCheckSide o .left s = s := if_pos hleft
    have hright : doorState (s.cru.get o).poll .right ≠ .locked := by
      intro hright
      simp_all [bothLocked, doorState]
    rw [hsame, doorCheckSide, if_neg hright]
    exact hasCause_raiseCause _ _ _
  · have hraised : hasCause (doorCheckSide o .left s) .doorOpen = true := by
      rw [doorCheckSide, if_neg hleft]
      exact hasCause_raiseCause _ _ _
    have hfresh : isFresh (doorCheckSide o .left s) o = true := ((checks_doorCheckSide hf .left).fresh o).trans hf
    exact hasCause_of_subset (checks_doorCheckSide hfresh .right).causes hraised

/-- The first stale car has CAR_SILENT in the set with its record's age. -/
theorem carSilent_silentCheck {o : Car} (hf : isFresh s o = false) (hc : hasCause s .carSilent = false) :
    ⟨.carSilent, .silentCar o (reportAge s o)⟩ ∈ (silentCheck o s).brs.causes := by
  simp [silentCheck, hf, raiseCause_causes hc]

/-! ## The entry to RELEASE (R100) -/

/-- What an entry to RELEASE leaves with a stale report or a door not LOCKED, and no cause in the set before. -/
structure EntryStopped (s t : State) : Prop where
  stopped : ServiceStopped t
  keeps : KeepsBut [.psu, .clc, .brs, .trc, .dri, .adm, .notices, .incidents] s t
  silent : ∀ o, isFresh s o = false → (o = .a ∨ isFresh s .a = true) →
    ⟨.carSilent, .silentCar o (reportAge s o)⟩ ∈ t.brs.causes
  door : ∀ c, isFresh s c = true → bothLocked (s.cru.get c).poll = false →
    ∃ o d, isFresh s o = true ∧ doorState (s.cru.get o).poll d ≠ .locked ∧
      ⟨.doorOpen, .door o d (doorState (s.cru.get o).poll d)⟩ ∈ t.brs.causes

theorem justReleased_setTripState (hn : s.brs.stage = .none) (hc : s.brs.causes = []) :
    JustReleased (setTripState .release s) where
  state := by simp
  stage := by simpa using hn
  causes := by simpa using hc
  ebHoldoff := (setTripState_outputs hn .release).2.2

theorem entryStopped_checks (hv : JustReleased v) (hl : allLocked v = false) :
    EntryStopped v (doorCheck .b (doorCheck .a (silentCheck .b (silentCheck .a v)))) := by
  have hnone (c : Cause) : hasCause v c = false := by simp [hasCause, hv.causes]
  have h1 := checks_silentCheck .a v
  have h2 := checks_silentCheck .b (silentCheck .a v)
  have h3 := checks_doorCheck .a (silentCheck .b (silentCheck .a v))
  have h4 := checks_doorCheck .b (doorCheck .a (silentCheck .b (silentCheck .a v)))
  have h12 := h1.trans h2
  have h34 := h3.trans h4
  have hall := h12.trans h34
  have hsilent (o : Car) (hf : isFresh v o = false) (hfirst : o = .a ∨ isFresh v .a = true) :
      ⟨.carSilent, .silentCar o (reportAge v o)⟩ ∈
        (doorCheck .b (doorCheck .a (silentCheck .b (silentCheck .a v)))).brs.causes := by
    refine h34.causes ?_
    cases o with
    | a => exact h2.causes (carSilent_silentCheck hf (hnone _))
    | b =>
      have ha : silentCheck .a v = v := silentCheck_fresh (hfirst.resolve_left (by simp))
      rw [ha]
      exact carSilent_silentCheck hf (hnone _)
  have hdoor (c : Car) (hf : isFresh v c = true) (hc : bothLocked (v.cru.get c).poll = false) :
      hasCause (doorCheck .b (doorCheck .a (silentCheck .b (silentCheck .a v)))) .doorOpen = true := by
    cases c with
    | a =>
      refine hasCause_of_subset h4.causes (doorOpen_doorCheck ((h12.fresh .a).trans hf) ?_)
      rwa [h12.cru]
    | b =>
      refine doorOpen_doorCheck (((h12.trans h3).fresh .b).trans hf) ?_
      rwa [(h12.trans h3).cru]
  have hsaid : DoorSaid v := fun h => by simp [hnone] at h
  refine ⟨?_, hall.keeps, hsilent, fun c hf hc => ?_⟩
  · refine hall.run.elim (fun heq => ?_) fun h => h hv
    rw [heq] at hsilent hdoor
    by_contra
    have hfresh (o : Car) (hfirst : o = .a ∨ isFresh v .a = true) : isFresh v o = true := by
      by_contra hf
      simpa [hv.causes] using hsilent o (by simpa using hf) hfirst
    have hlocked (o : Car) (hf : isFresh v o = true) : bothLocked (v.cru.get o).poll = true := by
      by_contra hc
      simpa [hnone] using hdoor o hf (by simpa using hc)
    have ha := hfresh .a (.inl rfl)
    have hb := hfresh .b (.inr ha)
    rw [allLocked_iff.mpr ⟨ha, hb, hlocked .a ha, hlocked .b hb⟩] at hl
    cases hl
  · obtain ⟨o, d, hf', hl', hm⟩ := hall.door hsaid (hdoor c hf hc)
    rw [hall.cru] at hl' hm
    exact ⟨o, d, (hall.fresh o).symm.trans hf', hl', hm⟩

theorem entryStopped_enterRelease (hn : s.brs.stage = .none) (hc : s.brs.causes = []) (hl : allLocked s = false) :
    EntryStopped (setTripState .release s) (enterRelease s) := by
  have hstop := entryStopped_checks (justReleased_setTripState hn hc)
    ((allLocked_congr (by simp) (by simp) (by simp)).trans hl)
  have heq : enterRelease s =
      doorCheck .b (doorCheck .a (silentCheck .b (silentCheck .a (setTripState .release s)))) :=
    if_neg fun h => by simp [hstop.stopped.state] at h
  rw [heq]
  exact hstop

/-! ## SETTLE TIMER EXPIRY (O35) -/

/-- The state in which the settle timer has expired. -/
def settledAt (tm : Timer) (s : State) : State := (advanceTo tm.due s).onTrc fun c => { c with settleTimer := none }

theorem settled_eq {tm : Timer} (hts : s.trc.state = .settle) : settled (advanceTo tm.due s) = enterRelease (settledAt tm s) :=
  if_pos (by simpa using hts)

theorem execSettle_run {tm : Timer} (hreset : s.pins.resetLow = false) (htm : s.trc.settleTimer = some tm)
    (hts : s.trc.state = .settle) (ho : isOvertaken s .settleTimerExpiry = false) :
    exec .settleTimerExpiry s =
      .next (takenUp .settleTimerExpiry (finish s (enterRelease (settledAt tm s)))) :=
  timed_acts (rfl : execSettleTimerExpiry s = _) hreset ho (by simp [htm, settled_eq hts])

theorem allLocked_settledAt (tm : Timer) : allLocked (settledAt tm s) = allLocked (advanceTo tm.due s) :=
  allLocked_congr (by simp [settledAt]) (by simp [settledAt]) (by simp [settledAt])

/-- Settles O35. -/
theorem settleExpiryReleases : Obligations.SettleExpiryReleases := by
  unfold Obligations.SettleExpiryReleases
  refine ⟨fun tm s hh htm hts hn hl ho => ?locked, fun s hh htm => ?stopped, fun tm s hh htm hts hn hc hl ho => ?stops⟩
  case locked =>
    have hl' : allLocked (settledAt tm s) = true := (allLocked_settledAt tm).trans hl
    have hon := onward_enterRelease hl'
    obtain ⟨hstage, hcauses, hsb, heb, hrefresh, hfurthest, hbasis, hpeak, hmargin, hsettle, hwaits, hruns⟩ :=
      releaseEntered_enterRelease hl' (by simpa [settledAt] using hn)
    refine ⟨_, execSettle_run hh htm hts ho, by simp [settledAt], ?_, ?_, ?_, ?_, ?_, ?_, ?_, ?_, fun h => ?_, fun h => ?_, ?_⟩
    · simpa using hsb
    · simpa using heb
    · simpa [settledAt] using hcauses
    · simpa [settledAt, State.params] using hrefresh
    · simpa [settledAt] using hfurthest
    · have href : (settledAt tm s).psu.ref = s.psu.ref := by simp [settledAt]
      rw [href] at hbasis
      simpa using hbasis
    · have htrip := congrArg (·.trip) hon.trc
      rw [hpeak, hmargin, (enterRelease_derating hl').1] at htrip
      simpa [settledAt] using htrip
    · simpa using hsettle
    · simpa [settledAt, State.params] using hwaits (by simpa [settledAt] using h)
    · simpa using hruns (by simpa [settledAt] using h)
    · have haway : isDwell (settledAt tm s).trc.state = false := by simp [settledAt, hts, isDwell]
      have hadm := hon.adm
      have hniu := hon.quiet haway
      rw [haway, if_neg (by simp)] at hadm
      simp [keepsBut_iff, hadm, hniu]
      simp [settledAt]
  case stopped => exact ⟨_, timed_idle (rfl : execSettleTimerExpiry s = _) hh fun _ => by simp [htm], by simp [KeepsBut.refl]⟩
  case stops =>
    have hstop := entryStopped_enterRelease (s := settledAt tm s) (by simpa [settledAt] using hn) (by simpa [settledAt] using hc)
      ((allLocked_settledAt tm).trans hl)
    have hfresh (o : Car) : isFresh (setTripState .release (settledAt tm s)) o = isFresh (advanceTo tm.due s) o :=
      isFresh_congr o (by simp [settledAt]) (by simp [settledAt]) (by simp [settledAt, State.params])
    obtain ⟨⟨hstate, hstage, hdp, hsb, heb, hwait⟩, hkeeps, hsilent, hdoor⟩ := hstop
    rw [keepsBut_iff] at hkeeps
    simp [settledAt] at hkeeps
    refine ⟨_, execSettle_run hh htm hts ho, by simp [settledAt], by simpa using hstate, by simpa using hstage,
      by simpa using hdp, by simpa using hsb, by simpa using heb, by simpa using hwait, fun o hf hfirst => ?_,
      fun o hf hc => ?_, ?_⟩
    · have h := hsilent o ((hfresh o).trans hf) (hfirst.imp_right (hfresh .a).trans)
      simpa [reportAge, settledAt] using h
    · obtain ⟨p, e, hf', hle, hm⟩ := hdoor o ((hfresh o).trans hf) (by simpa [settledAt] using hc)
      rw [hfresh] at hf'
      exact ⟨p, e, hf', by simpa [settledAt] using hle, by simpa [settledAt] using hm⟩
    · simp [keepsBut_iff, settledAt]

end Sys2Proof.Machine
end

section
/-! The entry to DWELL (R96, R124, R136): the windows' notices and the uncounted counts. -/

namespace Sys2Proof.Machine

variable {s t u v : State} {k : Stop}

/-! ## Windows (R124) -/

theorem setTripState_dwell_mark (k : Stop) (s : State) :
    (setTripState (.dwell k) s).adm.releaseMark = s.adm.releaseMark := by
  have hfold (l : List Berth) (a : Adm) :
      (l.foldl (fun x b => transferBerth s.trc.state (.dwell k) b x) a).releaseMark = a.releaseMark := by
    induction l generalizing a with
    | nil => rfl
    | cons b l ih =>
      have hone : (transferBerth s.trc.state (.dwell k) b a).releaseMark = a.releaseMark := by
        unfold transferBerth
        split <;> rfl
      exact (ih _).trans hone
  rw [setTripState_adm, admOnTrip, State.onAdm_adm, if_pos (by rfl)]
  exact hfold _ _

theorem admissionOpen_unmarked (h : s.adm.releaseMark = false) (b : Berth) : admissionOpen s b = false := by
  simp [admissionOpen, h]

theorem setReleaseMark_notices_of_same (h : s.adm.releaseMark = true) :
    (setReleaseMark true s).niu.notices = s.niu.notices := by
  have hsame (b : Berth) : admissionOpen s b = admissionOpen (s.onAdm fun a => { a with releaseMark := true }) b :=
    (admissionOpen_congr (by simp) (by simp) (by simp [h]) b).symm
  rw [setReleaseMark, noteWindows_of_same hsame]
  simp

theorem setTripState_notices_of_closed (hs : isDwell s.trc.state = false) (hm : s.adm.releaseMark = false) :
    (setTripState (.dwell k) s).niu.notices = s.niu.notices := by
  have hmark := setTripState_dwell_mark k s
  rw [hm] at hmark
  unfold setTripState at hmark ⊢
  dsimp only at hmark ⊢
  rw [noteWindows_of_same]
  · simp
  · intro b
    rw [admissionOpen_offDwell hs, admissionOpen_unmarked]
    simpa using hmark

/-- A dwell entered and then the release mark set: each window's notice comes with the change that opens it. -/
theorem windowsHanded_dwell (hs : isDwell s.trc.state = false) (hlsu : u.lsu = (setTripState (.dwell k) s).lsu)
    (hstate : u.trc.state = (setTripState (.dwell k) s).trc.state)
    (hadm : u.adm.releaseMark = (setTripState (.dwell k) s).adm.releaseMark)
    (hn : u.niu.notices = (setTripState (.dwell k) s).niu.notices) (m : Bool) :
    WindowsHanded s (setReleaseMark m u) := by
  have hmark := hadm.trans (setTripState_dwell_mark k s)
  cases m with
  | false =>
    refine windowsHanded_of_same fun b => ?_
    rw [admissionOpen_offDwell hs, admissionOpen_unmarked (by simp)]
  | true =>
    cases hm : s.adm.releaseMark with
    | true =>
      rw [hm] at hmark
      refine (windowsHanded_setTripState (.dwell k) s).congr (fun _ => rfl) (fun b => ?_) rfl ?_
      · exact admissionOpen_congr (by simp [hlsu]) (by simp [hstate]) (by simp [hm, setTripState_dwell_mark]) b
      · rw [setReleaseMark_notices_of_same hmark, hn]
    | false =>
      rw [hm] at hmark
      refine (windowsHanded_setReleaseMark true u).congr (fun b => ?_) (fun _ => rfl) ?_ rfl
      · rw [admissionOpen_offDwell hs, admissionOpen_unmarked hmark]
      · rw [hn, setTripState_notices_of_closed hs hm]

theorem windowsHanded_resumedDwell (hs : isDwell s.trc.state = false) (k : Stop) : WindowsHanded s (resumedDwell k s) :=
  windowsHanded_dwell (k := k) hs (by simp) (by simp) (by simp) (by simp) true

theorem windowsHanded_newDwell (hs : isDwell s.trc.state = false) (k : Stop) : WindowsHanded s (newDwell k s) :=
  windowsHanded_dwell (k := k) hs (by simp) (by simp) (by simp) (by simp) _

/-! ## Uncounted counts (R136) -/

/-- The berths `l` have handed their uncounted counts over at an entry to DWELL at `k` from `old`. -/
structure HandedOver (old : TripState) (k : Stop) (l : List Berth) (a a' : Adm) : Prop where
  aboard : ∀ c, (a'.loads.get c).aboard = (a.loads.get c).aboard
  mirror : ∀ c, (a'.loads.get c).alarmMirror = (a.loads.get c).alarmMirror
  cars : ∀ c, (a'.loads.get c).uncounted =
    if berthAt k c ∈ l ∧ boundIn old (berthAt k c) = none then
      min 255 ((a.loads.get c).uncounted + a.uncounted.get (berthAt k c))
    else (a.loads.get c).uncounted
  berths : ∀ b, a'.uncounted.get b =
    if b ∈ l ∧ boundIn old b = none ∧ (boundAt k b).isSome then 0 else a.uncounted.get b

/-- The hand-over of one berth. -/
theorem handedOver_transferBerth (old : TripState) (k : Stop) (b : Berth) (a : Adm) :
    HandedOver old k [b] a (transferBerth old (.dwell k) b a) := by
  unfold transferBerth
  split
  next c hold hnew =>
    have hc : boundAt k b = some c := hnew
    have hb : berthAt k c = b := (boundAt_berthAt k c b).mp hc
    have hcar (d : Car) (hd : d ≠ c) : berthAt k d ≠ b := fun hdb =>
      hd (Option.some.inj (((boundAt_berthAt k d b).mpr hdb).symm.trans hc))
    refine ⟨fun d => ?_, fun d => ?_, fun d => ?_, fun x => ?_⟩
    · by_cases hd : d = c
      · simp [hd]
      · simp [PerCar.get_set_other _ _ hd]
    · by_cases hd : d = c
      · simp [hd]
      · simp [PerCar.get_set_other _ _ hd]
    · by_cases hd : d = c
      · simp [hd, hb, hold, satAdd, Config.count255]
      · simp [PerCar.get_set_other _ _ hd, hcar d hd]
    · by_cases hx : x = b
      · simp [hx, hold, hc]
      · simp [PerBerth.get_set_other _ _ hx, hx]
  next hno =>
    have hb (c : Car) (hc : berthAt k c = b) (hold : boundIn old b = none) : False :=
      hno c hold ((boundAt_berthAt k c b).mpr hc)
    refine ⟨fun _ => rfl, fun _ => rfl, fun c => (if_neg fun ⟨hc, hold⟩ => ?_).symm, fun x => (if_neg fun ⟨hx, hold, hbound⟩ => ?_).symm⟩
    · have hc := List.mem_singleton.mp hc
      exact hb c hc (hc ▸ hold)
    · obtain ⟨c, hc⟩ := Option.isSome_iff_exists.mp hbound
      have hx := List.mem_singleton.mp hx
      exact hb c ((boundAt_berthAt k c b).mp (hx ▸ hc)) (hx ▸ hold)

theorem handedOver_fold (old : TripState) (k : Stop) {l : List Berth} (hl : l.Nodup) (a : Adm) :
    HandedOver old k l a (l.foldl (fun x b => transferBerth old (.dwell k) b x) a) := by
  induction l generalizing a with
  | nil => constructor <;> simp
  | cons b l ih =>
    obtain ⟨hb, hl⟩ := List.nodup_cons.mp hl
    have hone := handedOver_transferBerth old k b a
    have hrest := ih hl (transferBerth old (.dwell k) b a)
    refine ⟨fun c => (hrest.aboard c).trans (hone.aboard c), fun c => (hrest.mirror c).trans (hone.mirror c),
      fun c => (hrest.cars c).trans ?_, fun x => (hrest.berths x).trans ?_⟩
    · have hcar := hone.cars c
      have hberth := hone.berths (berthAt k c)
      by_cases hc : berthAt k c = b
      · simp_all
      · simp_all
    · have hberth := hone.berths x
      by_cases hx : x = b
      · simp_all
      · simp_all

theorem transferred_setTripState (k : Stop) (s : State) : Transferred k s (setTripState (.dwell k) s) := by
  have h := handedOver_fold s.trc.state k (l := allBerths) (by decide) s.adm
  have hall (b : Berth) : b ∈ allBerths := by cases b <;> decide
  have hadm : (setTripState (.dwell k) s).adm =
      allBerths.foldl (fun x b => transferBerth s.trc.state (.dwell k) b x) s.adm := by
    rw [setTripState_adm, admOnTrip, State.onAdm_adm, if_pos (by rfl)]
  refine ⟨fun c => ⟨?_, ?_, ?_⟩, fun b => ?_⟩
  · rw [hadm, h.aboard]
  · rw [hadm, h.mirror]
  · rw [hadm, h.cars]
    simp [hall]
  · rw [hadm, h.berths]
    simp [hall]

theorem Transferred.at (h : Transferred k s t) (hl : u.adm.loads = t.adm.loads)
    (hu : u.adm.uncounted = t.adm.uncounted) : Transferred k s u := by
  unfold Transferred at *
  rwa [hl, hu]

theorem transferred_newDwell (k : Stop) (s : State) : Transferred k s (newDwell k s) :=
  (transferred_setTripState k s).at (by simp [newDwell]) (by simp [newDwell])

end Sys2Proof.Machine
end

section
/-! Trips that end before they run (O28): the abort, and what it does to a slot PENDING behind the trip. -/

namespace Sys2Proof.Machine

variable {s t u v w : State} {k : Stop} {id : SlotId} {r : TripReq} {cause : AbortCause} {n : NoticeKind} {d : NoticeDetail}

/-! ## The end of a trip (R102 to R104) -/

theorem HandedOwner.told {K : List NoticeKind} (h : HandedOwner n d s t) (ht : Told K t u) (hn : n ∉ K) :
    HandedOwner n d s u :=
  fun o ho => (h o ho).told ht hn

theorem HandedOwner.after {K : List NoticeKind} (ht : Told K s t) (h : HandedOwner n d t u)
    (howner : t.trc.trip.owner = s.trc.trip.owner) (hn : n ∉ K) : HandedOwner n d s u :=
  fun o ho => Handed.after ht (h o (howner.trans ho)) hn

@[simp] theorem handedOwner_replyTo (q : Request) (st : Station) (a : Answer) :
    HandedOwner n d s (replyTo q st u a) ↔ HandedOwner n d s a.state := by
  simp [HandedOwner]

@[simp] theorem handedOwner_takenUp (i : Instr) : HandedOwner n d s (takenUp i (finish u t)) ↔ HandedOwner n d s t := by
  simp [HandedOwner]

/-- A trip that has ended in `t`, its slot freed and its owner told. -/
def tripEnded (n : NoticeKind) (d : NoticeDetail) (cancelled : Bool) (t : State) : State :=
  zeroMismatch (handOwner n d (freeSlots cancelled t))

theorem handedOwner_tripEnded {cancelled : Bool} (ht : Told windowKinds s t)
    (howner : t.trc.trip.owner = s.trc.trip.owner) (hn : n ∉ windowKinds) :
    HandedOwner n d s (tripEnded n d cancelled t) := by
  intro o ho
  have h := handedOwner_handOwner n d (freeSlots cancelled t) o (by simpa [freeSlots] using howner.trans ho)
  have hend : Handed n d o.station t (tripEnded n d cancelled t) := h.congr (by simp) (by simp [tripEnded])
  exact Handed.after ht hend hn

theorem windowsHanded_tripEnded {cancelled : Bool} (hw : WindowsHanded s t) (hn : n ∉ windowKinds) :
    WindowsHanded s (tripEnded n d cancelled t) := by
  have htold : Told [n] t (tripEnded n d cancelled t) :=
    ((told_handOwner (K := [n]) (k := n) (Told.refl t |>.same (u := freeSlots cancelled t) (by simp)) (by simp) d).same
      (by simp [tripEnded]))
  refine hw.within (fun _ => rfl) (fun b => ?_) (Told.refl (K := []) s) htold (by simp) ?_
  · exact admissionOpen_congr (by simp [tripEnded]) (by simp [tripEnded, freeSlots]) (by simp [tripEnded]) b
  · exact fun j hj hjn => hn (List.mem_singleton.mp hjn ▸ hj)

/-! ## The abort (R103) -/

/-- The trip record of an aborted trip. -/
def abortMarked (cause : AbortCause) (s : State) : State :=
  s.onTrip fun t => { t with outcome := .aborted, abortCause := some cause }

/-- Where an abort takes the trip, before its slot is freed. -/
def aborting (cause : AbortCause) (s : State) : State :=
  match s.trc.trip.origin with
  | some k => resumedDwell k (abortMarked cause s)
  | none => setTripState .stoppedOnLine (abortMarked cause s)

theorem aborting_trip (cause : AbortCause) (s : State) :
    (aborting cause s).trc.trip = { s.trc.trip with outcome := .aborted, abortCause := some cause } := by
  unfold aborting
  split <;> simp [resumedDwell, abortMarked, setTripState_trip]

theorem abortTrip_eq (cause : AbortCause) (s : State) :
    abortTrip cause s =
      tripEnded .tripAborted (.aborted s.trc.trip.number cause) (cause = .cancelled) (aborting cause s) := by
  have hnumber : (aborting cause s).trc.trip.number = s.trc.trip.number := by rw [aborting_trip]
  rw [← hnumber]
  rfl

theorem told_aborting (cause : AbortCause) (s : State) : Told windowKinds s (aborting cause s) := by
  have hmark : Told windowKinds s (abortMarked cause s) := .of_same (by simp [abortMarked])
  unfold aborting
  split
  · exact hmark.trans (told_resumedDwell _ _)
  · exact hmark.trans (told_setTripState _ _)

theorem windowsHanded_aborting (cause : AbortCause) (hs : isDwell s.trc.state = false) :
    WindowsHanded s (aborting cause s) := by
  have hmark (b : Berth) : admissionOpen s b = admissionOpen (abortMarked cause s) b :=
    (admissionOpen_congr (by simp [abortMarked]) (by simp [abortMarked]) (by simp [abortMarked]) b).symm
  have hs' : isDwell (abortMarked cause s).trc.state = false := by simpa [abortMarked] using hs
  unfold aborting
  split
  · exact (windowsHanded_resumedDwell hs' _).congr hmark (fun _ => rfl) (by simp [abortMarked]) rfl
  · exact (windowsHanded_setTripState _ _).congr hmark (fun _ => rfl) (by simp [abortMarked]) rfl

theorem aborted_abortTrip (cause : AbortCause) (hs : isDwell s.trc.state = false) :
    Aborted cause s (abortTrip cause s) := by
  refine ⟨by simp, by simp, by simp, by simp, by simp, ?_, ?_⟩
  · rw [abortTrip_eq]
    exact handedOwner_tripEnded (told_aborting cause s) (by rw [aborting_trip]) (by decide)
  · rw [abortTrip_eq]
    exact windowsHanded_tripEnded (windowsHanded_aborting cause hs) (by decide)

/-- An abort is judged by the trip, the windows and the notices of the state it comes from. -/
theorem Aborted.from (h : Aborted cause s t) (hstate : u.trc.state = s.trc.state) (htrip : u.trc.trip = s.trc.trip)
    (h0 : u.trc.slot0 = s.trc.slot0) (h1 : u.trc.slot1 = s.trc.slot1) (hlsu : u.lsu = s.lsu) (hadm : u.adm = s.adm)
    (hn : u.niu.notices = s.niu.notices) : Aborted cause u t := by
  obtain ⟨hst, ht, hs0, hs1, hmis, howner, hwin⟩ := h
  refine ⟨?_, by rw [ht, htrip], by rw [hs0, h0], by rw [hs1, h1], hmis, fun o ho => ?_, ?_⟩
  · rw [hst]
    simp [abortState, htrip]
  · rw [htrip] at ho ⊢
    exact (howner o ho).congr hn rfl
  · exact hwin.congr (fun b => admissionOpen_congr hlsu hstate (by rw [hadm]) b) (fun _ => rfl) hn rfl

theorem Aborted.takenUp (h : Aborted cause s t) (i : Instr) : Aborted cause s (takenUp i (finish u t)) := by
  obtain ⟨hst, ht, hs0, hs1, hmis, howner, hwin⟩ := h
  exact ⟨by simpa using hst, by simpa using ht, by simpa using hs0, by simpa using hs1, by simpa using hmis,
    by simpa using howner, hwin.takenUp i⟩

theorem Aborted.replyTo {status : Status} {data : ReplyData} (h : Aborted cause s t) (q : Request) (st : Station) :
    Aborted cause s (replyTo q st u ⟨t, status, data⟩) := by
  obtain ⟨hst, ht, hs0, hs1, hmis, howner, hwin⟩ := h
  exact ⟨by simpa using hst, by simpa using ht, by simpa using hs0, by simpa using hs1, by simpa using hmis,
    by simpa using howner, hwin.replyTo q st⟩

theorem abortState_cases (s : State) :
    abortState s = .stoppedOnLine ∨ ∃ k, s.trc.trip.origin = some k ∧ abortState s = .dwell k := by
  unfold abortState
  cases s.trc.trip.origin <;> simp

theorem abortTrip_releaseWait (cause : AbortCause) (s : State) : (abortTrip cause s).brs.releaseWait = none := by
  rw [abortTrip_brs, setTripState_releaseWait]
  rcases abortState_cases s with h | ⟨k, -, h⟩ <;> simp [h]

theorem abortTrip_doorTimer (cause : AbortCause) (s : State) : (abortTrip cause s).dri.doorTimer = none := by
  have haborting : (aborting cause s).dri.doorTimer = none := by
    unfold aborting
    split <;> simp [resumedDwell, setTripState_dri, driOnTrip]
  rw [abortTrip_eq]
  simpa [tripEnded] using haborting

/-! ## Slots PENDING behind a trip that has ended (R91) -/

/-- A slot PENDING behind a trip that has ended is dropped, and its owner told. -/
abbrev Drop : SlotId → State → State → Prop :=
  TurnTaken dropped .triggerRefused fun v => v.name = .pending

theorem dropped_of_not_pending {v : Slot} (h : v.name ≠ .pending) : dropped v = v := by
  cases v <;> simp_all [dropped, Slot.name]

theorem slot_name_pending {v : Slot} (h : v.name = .pending) : ∃ r, v = .pending r := by
  cases v <;> simp_all [Slot.name]

theorem drop_dropPending (h : slotOf w id = .pending r) (why : TriggerRefusal) : Drop id w (dropPending id r why w) where
  trc := by simp [dropPending, refuseTrigger, dropped, h]
  keeps := by simp [keepsBut_iff, dropPending, refuseTrigger]
  told := told_dropPending id r why w
  tells := fun _ => by
    have howner : ownerOf (setSlot id (if r.trigger = .immediate then .empty else .armed r) w) id = ownerOf w id := by
      simp [ownerOf, State.params]
    unfold dropPending refuseTrigger
    rw [howner]
    simp

theorem drop_same (h : (slotOf w id).name ≠ .pending) : Drop id w w := turnTaken_same (dropped_of_not_pending h) h

theorem drop_stopPending (id : SlotId) (w : State) : Drop id w (stopPending id w) := by
  unfold stopPending
  split
  next r hr => exact drop_dropPending hr .stopped
  next hne =>
    refine drop_same fun hp => ?_
    obtain ⟨r, hr⟩ := slot_name_pending hp
    exact hne r hr

theorem departureTest_staged (h : s.brs.stage ≠ .none) : ∃ why, departureTest s id r k = some why := by
  have hpre : ∃ why, preconditions s (ownerOf s id) (tripMode s r) = some why := by
    unfold preconditions
    by_cases hline : s.lsu.line = .inService ∨ (s.lsu.line = .inspection ∧ ownerOf s id = .con ∧ tripMode s r = .inspection)
    · exact ⟨_, by rw [if_neg (not_not.mpr hline), if_pos h]⟩
    · exact ⟨_, if_pos hline⟩
  obtain ⟨why, hwhy⟩ := hpre
  exact ⟨why, by simp [departureTest, hwhy]⟩

theorem drop_refusePending (hts : w.trc.state = .dwell k) (he : w.trc.elapsed = true) (hstage : w.brs.stage ≠ .none)
    (id : SlotId) : Drop id w (refusePending id w) := by
  by_cases hp : (slotOf w id).name = .pending
  · obtain ⟨r, hr⟩ := slot_name_pending hp
    obtain ⟨why, hwhy⟩ := departureTest_staged (id := id) (r := r) (k := k) hstage
    have heq : refusePending id w = dropPending id r (.reason why) w := by simp [refusePending, hr, hts, he, hwhy]
    rw [heq]
    exact drop_dropPending hr _
  · have heq : refusePending id w = w := by
      unfold refusePending
      split
      next r _ hr _ => exact absurd (congrArg Slot.name hr) hp
      next => rfl
    rw [heq]
    exact drop_same hp

/-- Both slots dropped behind a trip that has ended. -/
structure BothDropped (w t : State) : Prop where
  trc : t.trc = { w.trc with slot0 := dropped w.trc.slot0, slot1 := dropped w.trc.slot1 }
  tells : ∀ id, (slotOf w id).name = .pending →
    isPending (t.niu.notices.get (ownerOf w id).station) .triggerRefused = true
  keeps : KeepsBut [.trc, .notices] w t

theorem bothDropped_stopPendings (w : State) : BothDropped w (stopPendings w) := by
  obtain ⟨htrc, htells, hkeeps⟩ := (drop_stopPending .slot0 w).both (drop_stopPending .slot1 (stopPending .slot0 w))
  exact ⟨htrc, htells, hkeeps⟩

/-- Under a stage no slot PENDING behind an aborted trip starts, at a stop with MIN_DWELL elapsed or on the line. -/
theorem bothDropped_pendingsUnderStage (hts : w.trc.state = .stoppedOnLine ∨ ∃ k, w.trc.state = .dwell k ∧ w.trc.elapsed = true)
    (hstage : w.brs.stage ≠ .none) : BothDropped w (pendingsUnderStage w) := by
  unfold pendingsUnderStage
  rcases hts with hts | ⟨k, hts, he⟩
  · rw [if_pos hts]
    exact bothDropped_stopPendings w
  · rw [if_neg (by simp [hts])]
    have h0 := drop_refusePending hts he hstage .slot0
    have h1 := drop_refusePending (w := refusePending .slot0 w) (by simpa using hts) (by simpa using he)
      (by simpa using hstage) .slot1
    obtain ⟨htrc, htells, hkeeps⟩ := h0.both h1
    exact ⟨htrc, htells, hkeeps⟩

/-- A trip whose slot is freed in `w`, and the slots behind it dropped in `t`. -/
theorem BothDropped.pendingDropped {cancelled : Bool} (h : BothDropped w t) (h0 : w.trc.slot0 = freed cancelled s.trc.slot0)
    (h1 : w.trc.slot1 = freed cancelled s.trc.slot1) (hcfg : w.cfg = s.cfg) : PendingDropped cancelled s t := by
  refine ⟨by rw [h.trc, h0], by rw [h.trc, h1], fun id r hr => ?_⟩
  have howner : ownerOf w id = ownerOf s id := by simp [ownerOf, State.params, hcfg]
  rw [← howner]
  refine h.tells id ?_
  cases id with
  | slot0 =>
    have hr : s.trc.slot0 = .pending r := hr
    simp [slotOf, h0, hr, freed, Slot.name]
  | slot1 =>
    have hr : s.trc.slot1 = .pending r := hr
    simp [slotOf, h1, hr, freed, Slot.name]

theorem PendingDropped.from {cancelled : Bool} {s' : State} (h : PendingDropped cancelled s t) (htrc : s.trc = s'.trc)
    (hcfg : s.cfg = s'.cfg) : PendingDropped cancelled s' t := by
  obtain ⟨h0, h1, hr⟩ := h
  rw [htrc] at h0 h1
  refine ⟨h0, h1, fun id r hs => ?_⟩
  have howner : ownerOf s' id = ownerOf s id := by simp [ownerOf, State.params, hcfg]
  have hslot : slotOf s id = slotOf s' id := by simp [slotOf, htrc]
  rw [howner]
  exact hr id r (hslot.trans hs)

theorem PendingDropped.at {cancelled : Bool} (h : PendingDropped cancelled s t) (htrc : u.trc = t.trc)
    (hp : ∀ st, isPending (u.niu.notices.get st) .triggerRefused = isPending (t.niu.notices.get st) .triggerRefused) :
    PendingDropped cancelled s u := by
  obtain ⟨h0, h1, hr⟩ := h
  exact ⟨by rw [htrc, h0], by rw [htrc, h1], fun id r hs => by rw [hp]; exact hr id r hs⟩

end Sys2Proof.Machine
end

section
/-! O28: aborts by the timers, by CANCEL TRIP and by a stage, and the slots PENDING behind them. -/

namespace Sys2Proof.Machine

variable {s t u v w : State} {k : Stop} {id : SlotId} {r : TripReq} {cause : AbortCause} {why : Reason}

/-! ## A PENDING slot tested at a stop (R91) -/

theorem testPending_idle (h : (slotOf w id).name ≠ .pending) : testPending id w = w := by
  unfold testPending
  split
  next r _ hr _ => exact absurd (congrArg Slot.name hr) h
  next => rfl

theorem testPending_started (hs : slotOf w id = .pending r) (hts : w.trc.state = .dwell k) (he : w.trc.elapsed = true)
    (h : departureTest w id r k = none) : testPending id w = startFromStop id r k w := by
  simp [testPending, hs, hts, he, h]

theorem testPending_refused (hs : slotOf w id = .pending r) (hts : w.trc.state = .dwell k) (he : w.trc.elapsed = true)
    (h : departureTest w id r k = some why) : testPending id w = dropPending id r (.reason why) w := by
  simp [testPending, hs, hts, he, h]

/-- Where one slot alone is PENDING, its test is all there is. -/
theorem testPending_single (hs : slotOf w id = .pending r) (hts : w.trc.state = .dwell k) (he : w.trc.elapsed = true)
    (hother : ∀ o, o ≠ id → (slotOf w o).name ≠ .pending) :
    testPending .slot1 (testPending .slot0 w) = testPending id w := by
  cases id with
  | slot1 => rw [testPending_idle (hother .slot0 (by simp))]
  | slot0 =>
    refine testPending_idle ?_
    have hslot : slotOf (testPending .slot0 w) .slot1 = slotOf w .slot1 := by
      cases htest : departureTest w .slot0 r k with
      | none =>
        rw [testPending_started hs hts he htest]
        exact (onward_startFromStop .slot0 r k w).started.others .slot1 (by simp)
      | some why =>
        rw [testPending_refused hs hts he htest]
        exact (drop_dropPending hs _).other (by simp)
    rw [hslot]
    exact hother .slot1 (by simp)

/-- What the test of a slot PENDING at a stop leaves, started or not. -/
theorem testPending_at (hs : slotOf w id = .pending r) (hts : w.trc.state = .dwell k) (he : w.trc.elapsed = true) :
    (testPending id w).adm.loads = w.adm.loads ∧ (testPending id w).now = w.now ∧
      Told (.triggerRefused :: .tripStarted :: windowKinds) w (testPending id w) := by
  cases htest : departureTest w id r k with
  | none =>
    rw [testPending_started hs hts he htest]
    have hon := onward_startFromStop id r k w
    refine ⟨hon.loads.1.trans (by simp [begunAt]), by simp, hon.started.told.mono (by simp)⟩
  | some why =>
    rw [testPending_refused hs hts he htest]
    exact ⟨by simp [dropPending, refuseTrigger], by simp, (told_dropPending id r _ w).mono (by simp)⟩

/-! ## The end of a brake stop (R104) -/

/-- The outcome of a brake stop that ends. -/
def stopOutcome (s : State) : TripOutcome :=
  if (trustedStop s).isSome ∧ trustedStop s = s.trc.trip.destination then .done else .stopped

/-- The trip record with the outcome of a brake stop. -/
def stopMarked (s : State) : State := s.onTrip fun t => { t with outcome := stopOutcome s }

theorem endBraking_stop (h : trustedStop s = some k) :
    endBraking s =
      tripEnded .tripStopped (.stopped s.trc.trip.number (stopOutcome s) (.stop k)) false (newDwell k (stopMarked s)) := by
  have hout : stopOutcome s = if s.trc.trip.destination = some k then .done else .stopped := by
    simp [stopOutcome, h, eq_comm]
  have hnumber : (freeSlots false (newDwell k (stopMarked s))).trc.trip.number = s.trc.trip.number := by
    simp [freeSlots, stopMarked, newDwell, driNewDwell, setTripState_trip]
  rw [← hnumber]
  unfold stopMarked
  rw [hout]
  unfold endBraking
  rw [h]
  rfl

theorem endBraking_line (h : trustedStop s = none) :
    endBraking s =
      stopPendings
        (tripEnded .tripStopped (.stopped s.trc.trip.number .stopped (.line (pos s))) false
          (setTripState .stoppedOnLine (stopMarked s))) := by
  have hout : stopOutcome s = .stopped := by simp [stopOutcome, h]
  have hnumber : (freeSlots false (setTripState .stoppedOnLine (stopMarked s))).trc.trip.number = s.trc.trip.number := by
    simp [freeSlots, stopMarked, setTripState_trip]
  rw [← hnumber]
  unfold stopMarked
  rw [hout]
  unfold endBraking
  rw [h]
  rfl

theorem endBraking_slots (s : State) :
    (∀ k, trustedStop s = some k → (endBraking s).trc.slot0 = freed false s.trc.slot0 ∧
      (endBraking s).trc.slot1 = freed false s.trc.slot1) ∧
    (trustedStop s = none → PendingDropped false s (endBraking s)) := by
  refine ⟨fun k h => ?_, fun h => ?_⟩
  · rw [endBraking_stop h]
    simp [tripEnded, freeSlots, newDwell, driNewDwell, stopMarked]
  · rw [endBraking_line h]
    exact (bothDropped_stopPendings _).pendingDropped (by simp [tripEnded, freeSlots, stopMarked])
      (by simp [tripEnded, freeSlots, stopMarked]) (by simp [tripEnded, freeSlots, stopMarked])

/-! ## CLEAR BRAKE accepted -/

theorem takeClearBrake_cleared {st : Station} (hn : s.brs.stage ≠ .none) (hst : s.brs.stage = .service ∨ st = .con)
    (hstill : s.psu.still = true) (hp : persisting s = none) :
    takeClearBrake st s = ⟨clearStage s, .ok, .stage (clearStage s).brs.stage⟩ := by
  simp [takeClearBrake, hn, hst, hstill, hp, accept]

theorem trustedStop_cleared (s : State) : trustedStop (cleared s) = trustedStop s := by
  have hpos : pos (cleared s) = pos s := pos_congr (by simp) (by simp)
  simp [trustedStop, stopHere, hpos, State.params]

/-! ## O28 -/

/-- The state in which the release wait has run out. -/
def unreleasedAt (tm : Timer) (s : State) : State := (advanceTo tm.due s).onBrs fun b => { b with releaseWait := none }

/-- The state in which the door close timer has expired. -/
def doorsOutAt (tm : Timer) (s : State) : State := (advanceTo tm.due s).onDri fun d => { d with doorTimer := none }

theorem execReleaseWaitExpiry_run {tm : Timer} (hreset : s.pins.resetLow = false) (hts : s.trc.state = .release)
    (htm : s.brs.releaseWait = some tm) (ho : isOvertaken s .releaseWaitExpiry = false) :
    exec .releaseWaitExpiry s =
      .next (takenUp .releaseWaitExpiry (finish s (abortAndTest .brakeNotReleased (unreleasedAt tm s)))) := by
  have hrun : notReleased (advanceTo tm.due s) = abortAndTest .brakeNotReleased (unreleasedAt tm s) :=
    if_pos (by simpa using hts)
  exact timed_acts (rfl : execReleaseWaitExpiry s = _) hreset ho (by simp [htm, hrun])

theorem execDoorCloseTimerExpiry_run {tm : Timer} (hreset : s.pins.resetLow = false) (hts : s.trc.state = .doors)
    (htm : s.dri.doorTimer = some tm) (ho : isOvertaken s .doorCloseTimerExpiry = false) :
    exec .doorCloseTimerExpiry s =
      .next (takenUp .doorCloseTimerExpiry (finish s (abortAndTest .doorsTimeout (doorsOutAt tm s)))) := by
  have hrun : doorsTimedOut (advanceTo tm.due s) = abortAndTest .doorsTimeout (doorsOutAt tm s) :=
    if_pos (by simpa using hts)
  exact timed_acts (rfl : execDoorCloseTimerExpiry s = _) hreset ho (by simp [htm, hrun])

theorem aborted_doorsOutAt (tm : Timer) (hts : s.trc.state = .doors) :
    Aborted .doorsTimeout s (abortTrip .doorsTimeout (doorsOutAt tm s)) :=
  (aborted_abortTrip (s := doorsOutAt tm s) .doorsTimeout (by simp [doorsOutAt, hts, isDwell])).from
    (by simp [doorsOutAt]) (by simp [doorsOutAt]) (by simp [doorsOutAt]) (by simp [doorsOutAt]) (by simp [doorsOutAt])
    (by simp [doorsOutAt]) (by simp [doorsOutAt])

/-- The abort of a trip by a rise of the stage (R103). -/
theorem raiseCause_aborts {c : Cause} (d : Detail) (hc : hasCause s c = false) (hr : s.brs.stage.rank < c.stage.rank)
    (hts : isClosing s.trc.state = true ∨ s.trc.state = .doors ∨ s.trc.state = .settle) :
    raiseCause c d s = pendingsUnderStage (abortTrip .brake (risen c d s)) := by
  rw [raiseCause_rise hc hr]
  rcases hts with hts | hts | hts
  · cases h : s.trc.state <;> simp_all [isClosing, tripOnRise]
  · simp [tripOnRise, hts]
  · simp [tripOnRise, hts]

/-- Settles O28. -/
theorem abortsReturnToOrigin : Obligations.AbortsReturnToOrigin := by
  unfold Obligations.AbortsReturnToOrigin
  refine ⟨fun tm s hh hts htm hp ho => ?unreleased, fun tm s hh hts htm hp ho => ?doors,
    fun st n id r s hh hid hs hcan hp => ?cancel, fun s hh htm => ?noWait, fun s hh htm => ?noTimer,
    fun tm s hh hts htm ho => ⟨fun horigin => ?toLine, fun k id r horigin he hs hother hres => ?toStop⟩,
    fun st s hh hn hc hts horigin => ?brake, fun st s hh hts hn hst hstill hp => ?cleared⟩
  case unreleased =>
    have hab : Aborted .brakeNotReleased s (abortTrip .brakeNotReleased (unreleasedAt tm s)) :=
      (aborted_abortTrip (s := unreleasedAt tm s) .brakeNotReleased (by simp [unreleasedAt, hts, isDwell])).from
        (by simp [unreleasedAt]) (by simp [unreleasedAt]) (by simp [unreleasedAt]) (by simp [unreleasedAt])
        (by simp [unreleasedAt]) (by simp [unreleasedAt]) (by simp [unreleasedAt])
    have hrun := execReleaseWaitExpiry_run hh hts htm ho
    rw [abortAndTest_nonePending _ _ (by simpa [NonePending, unreleasedAt] using hp)] at hrun
    refine ⟨_, hrun, hab.takenUp _, by simp [unreleasedAt], ?_, by simp [unreleasedAt], ?_⟩
    · simpa using abortTrip_releaseWait .brakeNotReleased (unreleasedAt tm s)
    · simp [keepsBut_iff, unreleasedAt]
  case doors =>
    have hrun := execDoorCloseTimerExpiry_run hh hts htm ho
    rw [abortAndTest_nonePending _ _ (by simpa [NonePending, doorsOutAt] using hp)] at hrun
    refine ⟨_, hrun, (aborted_doorsOutAt tm hts).takenUp _, by simp [doorsOutAt], ?_, by simp [keepsBut_iff, doorsOutAt]⟩
    simpa using abortTrip_doorTimer .doorsTimeout (doorsOutAt tm s)
  case cancel =>
    have hdwell : isDwell s.trc.state = false := by
      cases hts : s.trc.state <;> simp_all [cancellable, isDwell]
    have ha : takeCancelTrip st n s = ⟨abortTrip .cancelled s, .ok, .nothing⟩ := by
      simp [takeCancelTrip, hid, hs, hcan, abortAndTest_nonePending _ _ hp, accept]
    refine ⟨_, request_answer hh ha, by simp, (aborted_abortTrip .cancelled hdwell).replyTo _ _, ?_, by simp [keepsBut_iff]⟩
    cases id with
    | slot0 =>
      have hs : s.trc.slot0 = .inFlight r := hs
      simp [slotOf, hs, freed]
    | slot1 =>
      have hs : s.trc.slot1 = .inFlight r := hs
      simp [slotOf, hs, freed]
  case noWait => exact ⟨_, timed_idle (rfl : execReleaseWaitExpiry s = _) hh fun _ => by simp [htm], by simp [KeepsBut.refl]⟩
  case noTimer =>
    exact ⟨_, timed_idle (rfl : execDoorCloseTimerExpiry s = _) hh fun _ => by simp [htm], by simp [KeepsBut.refl]⟩
  case toLine =>
    obtain ⟨hstate, -, h0, h1, -, howner, -⟩ := aborted_doorsOutAt tm hts
    rw [abortState, horigin] at hstate
    have hboth := bothDropped_stopPendings (abortTrip .doorsTimeout (doorsOutAt tm s))
    have hrun := execDoorCloseTimerExpiry_run hh hts htm ho
    rw [abortAndTest, pendingsAfterAbort, if_pos hstate] at hrun
    refine ⟨_, hrun, by simpa using hstate, ?_, ?_, by simp [keepsBut_iff, doorsOutAt]⟩
    · exact (hboth.pendingDropped h0 h1 (by simp [doorsOutAt])).at (by simp) (by simp)
    · rw [handedOwner_takenUp]
      exact howner.told (told_stopPendings _) (by decide)
  case toStop =>
    obtain ⟨hstate, htrip, h0, h1, -, howner, -⟩ := aborted_doorsOutAt tm hts
    rw [abortState, horigin] at hstate
    have he' : (abortTrip .doorsTimeout (doorsOutAt tm s)).trc.elapsed = true := by simpa [doorsOutAt] using he
    have hslot (o : SlotId) : slotOf (abortTrip .doorsTimeout (doorsOutAt tm s)) o = freed false (slotOf s o) := by
      cases o
      · exact h0
      · exact h1
    have hs' : slotOf (abortTrip .doorsTimeout (doorsOutAt tm s)) id = .pending r := by simp [hslot, hs, freed]
    have hother' (o : SlotId) (hne : o ≠ id) :
        (slotOf (abortTrip .doorsTimeout (doorsOutAt tm s)) o).name ≠ .pending := by
      rw [hslot]
      exact freed_name false (hother o hne)
    have hrun := execDoorCloseTimerExpiry_run hh hts htm ho
    rw [abortAndTest, pendingsAfterAbort, if_neg (fun hc => by rw [hstate] at hc; cases hc), testPending_single hs' hstate he' hother'] at hrun
    obtain ⟨hloads, hnow, htold⟩ := testPending_at hs' hstate he'
    have htest {m : Nat} {a : Adm} (hm : m = (testPending id (abortTrip .doorsTimeout (doorsOutAt tm s))).now)
        (ha : a = (testPending id (abortTrip .doorsTimeout (doorsOutAt tm s))).adm) :
        departureTest (abortTrip .doorsTimeout (doorsOutAt tm s)) id r k =
          departureTest { s with now := m, adm := a } id r k := by
      subst hm ha
      apply departureTest_congr <;> simp [hloads]
      all_goals simp [doorsOutAt]
    refine ⟨_, hrun, ?_, fun hpass hopen => ?_, fun why hfail => ?_⟩
    · rw [handedOwner_takenUp]
      exact howner.told htold (by decide)
    · rw [← htest (by simp) (by simp)] at hpass
      rw [testPending_started hs' hstate he' hpass] at hopen ⊢
      have hst := (onward_startFromStop id r k (abortTrip .doorsTimeout (doorsOutAt tm s))).started
      have hres' : (abortTrip .doorsTimeout (doorsOutAt tm s)).adm.reservations = [] := by
        rw [(abortTrip_admKept .doorsTimeout (doorsOutAt tm s)).reservations]
        simpa [doorsOutAt] using hres
      obtain ⟨hwait, -⟩ := doorsOrSettle_startFromStop id r k (.inr hres')
      obtain ⟨hdoors, -, -, -, -, -, htimer⟩ := hwait ((allLocked_congr (by simp [doorsOutAt]) (by simp [doorsOutAt])
        (by simp)).trans hopen)
      refine ⟨by simpa using hdoors, by simpa [slotOf] using hst.slot, ?_, ?_⟩
      · have hnumber : (startFromStop id r k (abortTrip .doorsTimeout (doorsOutAt tm s))).trc.trip.number =
            ((abortTrip .doorsTimeout (doorsOutAt tm s)).trc.trip.number + 1) % 65536 := by
          rw [hst.trip]
          rfl
        rw [htrip] at hnumber
        simpa using hnumber
      · simpa [State.params, doorsOutAt] using htimer
    · rw [← htest (by simp) (by simp)] at hfail
      rw [testPending_refused hs' hstate he' hfail]
      have hdrop := drop_dropPending hs' (.reason why)
      have hslot' := hdrop.slot
      have htells := hdrop.tells (by simp [hs', Slot.name])
      rw [hs'] at hslot'
      refine ⟨?_, by simpa [slotOf] using hslot', ?_⟩
      · simp only [takenUp_trc, finish_frame]
        rw [hdrop.trc]
        simpa using hstate
      · simpa [ownerOf, State.params, doorsOutAt] using htells
  case brake =>
    have hr : s.brs.stage.rank < Cause.stopRequest.stage.rank := by simp [hn, Cause.stage, Stage.rank]
    have hdwell : isDwell (risen .stopRequest (.asker (.station st)) s).trc.state = false := by
      rcases hts with hts | hts | hts
      · cases h : s.trc.state <;> simp_all [isClosing, isDwell]
      · simp [hts, isDwell]
      · simp [hts, isDwell]
    have hstate : (abortTrip .brake (risen .stopRequest (.asker (.station st)) s)).trc.state = abortState s := by
      simp [abortState]
    have hboth := bothDropped_pendingsUnderStage (w := abortTrip .brake (risen .stopRequest (.asker (.station st)) s)) ?_ ?_
    case refine_1 =>
      rw [hstate]
      rcases abortState_cases s with h | ⟨k, hk, h⟩
      · exact .inl h
      · exact .inr ⟨k, h, by simpa using horigin.resolve_right (by simp [hk])⟩
    case refine_2 => simp [addCause, hn, Cause.stage, Stage.rank]
    refine ⟨_, request_answer hh (takeStop_eq _ _ _), ?_⟩
    rw [raiseCause_aborts _ hc hr hts]
    obtain ⟨-, -, -, -, -, howner, -⟩ := aborted_abortTrip .brake hdwell
    refine ⟨by simpa using hstate, by simp, ?_, ?_⟩
    · exact (hboth.pendingDropped (s := s) (cancelled := false) (by simp) (by simp) (by simp)).at (by simp) (by simp)
    · rw [handedOwner_replyTo]
      have hafter := howner.told (told_pendingsUnderStage _) (by decide)
      simpa using HandedOwner.after (told_risen _ _ s) hafter (by simp) (by decide)
  case cleared =>
    have hts' : clearStage s = endBraking (cleared s) := by rw [clearStage_eq, if_pos hts]
    obtain ⟨hstop, hline⟩ := endBraking_slots (cleared s)
    rw [trustedStop_cleared] at hline
    simp only [trustedStop_cleared] at hstop
    have ha := takeClearBrake_cleared hn hst hstill hp
    rw [hts'] at ha
    refine ⟨_, request_answer hh ha, fun hnone => ?_, fun hsome => ?_⟩
    · exact ((hline hnone).from (s' := s) (by simp) (by simp)).at (by simp) (by simp)
    · obtain ⟨k, hk⟩ := Option.isSome_iff_exists.mp hsome
      simpa using hstop k hk

end Sys2Proof.Machine
end

section
/-! CLEAR BRAKE (O26): its checks in order, and the end of a brake stop. -/

namespace Sys2Proof.Machine

variable {s t u v w : State} {k : Stop} {st : Station}

/-! ## The stop the line is at (R2) -/

theorem isAt_iff (k : Stop) : isAt s.params (pos s) k = true ↔ AtStop s k := by
  simp [isAt, AtStop]

theorem atStop_of_stopHere (h : stopHere s = some k) : AtStop s k :=
  (isAt_iff k).mp (List.find?_some h)

theorem stopHere_eq_none : stopHere s = none ↔ ¬ ∃ k, AtStop s k := by
  unfold stopHere stopAt
  rw [List.find?_eq_none]
  constructor
  · rintro h ⟨k, hk⟩
    exact h k (by cases k <;> decide) ((isAt_iff k).mpr hk)
  · exact fun h k _ hk => h ⟨k, (isAt_iff k).mp hk⟩

/-! ## The persisting causes (R79) -/

/-- The persisting causes one by one. -/
def persistingCheck (s : State) : Nat → Option SubReason
  | 1 => if isFresh s .a = false ∨ isFresh s .b = false then some .carSilent else none
  | 2 => if (freshOpenDoor s .a ∨ freshOpenDoor s .b) ∧ offStop s then some .doorOpen else none
  | 3 => if hasCause s .sbFail ∧ s.brs.sbFb ≠ .applied then some .sbFail else none
  | 4 => if hasCause s .ebFail ∧ s.brs.ebFb ≠ .applied then some .ebFail else none
  | _ => none

theorem persisting_eq (s : State) : persisting s = firstOf (persistingCheck s) 1 4 := by
  simp only [firstOf, persistingCheck, ite_some_or, persisting]

theorem persistingCheck_rule (m : Nat) (hlo : 1 ≤ m) (hhi : m ≤ 4) :
    (persistingCheck s m = none ↔ NotPersisting s m) ∧
      ∀ why, persistingCheck s m = some why → PersistingName m why := by
  obtain rfl | rfl | rfl | rfl : m = 1 ∨ m = 2 ∨ m = 3 ∨ m = 4 := by omega
  all_goals
    simp only [persistingCheck, NotPersisting, PersistingName]
    refine ⟨ite_some_none_iff.trans ?_, fun _ => eq_of_ite_some⟩
  · simp [forall_car, freshReport_iff]
  · have hlocked (c : Car) : freshOpenDoor s c = false ↔
        (FreshReport s c → (s.cru.get c).poll.left = .locked ∧ (s.cru.get c).poll.right = .locked) := by
      simp [freshOpenDoor, freshReport_iff, bothLocked]
    have hoff : offStop s = false ↔ s.psu.ref = .referenced ∧ ∃ k, AtStop s k := by
      have hnone := stopHere_eq_none (s := s)
      by_cases hat : ∃ k, AtStop s k
      · simp [offStop, hat, hnone]
      · simp [offStop, hat, hnone]
    rw [not_and_or, not_or, Bool.not_eq_true, Bool.not_eq_true, Bool.not_eq_true, hoff, hlocked, hlocked, forall_car]
  · simp
  · simp

theorem persistingRules (s : State) : FirstFailure 1 4 (NotPersisting s) PersistingName (persisting s) := by
  rw [persisting_eq]
  exact firstFailure_firstOf rfl persistingCheck_rule

/-! ## The end of a brake stop (R104) -/

theorem stopMarked_windows (b : Berth) : admissionOpen s b = admissionOpen (stopMarked s) b :=
  (admissionOpen_congr (by simp [stopMarked]) (by simp [stopMarked]) (by simp [stopMarked]) b).symm

theorem told_stopMarked : Told windowKinds s (stopMarked s) := .of_same (by simp [stopMarked])

theorem windowsHanded_endBraking (hs : s.trc.state = .braking) : WindowsHanded s (endBraking s) := by
  have hdwell : isDwell (stopMarked s).trc.state = false := by simp [stopMarked, hs, isDwell]
  cases h : trustedStop s with
  | some k =>
    rw [endBraking_stop h]
    refine windowsHanded_tripEnded ?_ (by decide)
    exact (windowsHanded_newDwell hdwell k).congr stopMarked_windows (fun _ => rfl) (by simp [stopMarked]) rfl
  | none =>
    rw [endBraking_line h]
    have hend : WindowsHanded s (tripEnded .tripStopped (.stopped s.trc.trip.number .stopped (.line (pos s))) false
        (setTripState .stoppedOnLine (stopMarked s))) := by
      refine windowsHanded_tripEnded ?_ (by decide)
      exact (windowsHanded_setTripState _ _).congr stopMarked_windows (fun _ => rfl) (by simp [stopMarked]) rfl
    refine hend.within (fun _ => rfl) (fun b => ?_) (Told.refl (K := []) s) (told_stopPendings _) (by simp)
      (by simp [windowKinds])
    exact admissionOpen_congr (by simp) (by simp) (by simp) b

/-- What the end of a brake stop leaves of the trip, and tells its owner (R104). -/
theorem endBraking_trip (s : State) :
    (endBraking s).trc.state = restState s ∧ (endBraking s).trc.trip = { s.trc.trip with outcome := stopOutcome s } ∧
      (∀ k, trustedStop s = some k →
        HandedOwner .tripStopped (.stopped s.trc.trip.number (stopOutcome s) (.stop k)) s (endBraking s)) ∧
      (trustedStop s = none →
        HandedOwner .tripStopped (.stopped s.trc.trip.number .stopped (.line (pos s))) s (endBraking s)) := by
  cases h : trustedStop s with
  | some k =>
    rw [endBraking_stop h]
    have htold := told_stopMarked.trans (told_newDwell k (stopMarked s))
    refine ⟨by simp [tripEnded, freeSlots, restState, h], ?_, fun j hj => ?_, fun hn => absurd hn (by simp)⟩
    · simp [tripEnded, freeSlots, newDwell, driNewDwell, stopMarked, setTripState_trip]
    · cases hj
      exact handedOwner_tripEnded htold (by simp [newDwell, driNewDwell, stopMarked, setTripState_trip]) (by decide)
  | none =>
    rw [endBraking_line h]
    have htold := told_stopMarked.trans (told_setTripState .stoppedOnLine (stopMarked s))
    refine ⟨by simp [tripEnded, freeSlots, restState, h], ?_, fun j hj => absurd hj (by simp), fun _ => ?_⟩
    · simp [tripEnded, freeSlots, stopMarked, setTripState_trip]
    · exact (handedOwner_tripEnded htold (by simp [stopMarked, setTripState_trip]) (by decide)).told
        (told_stopPendings _) (by decide)

/-- Leaving BRAKING at confirmed standstill holds the present count (R29). -/
theorem endBraking_heldCount (hs : s.trc.state = .braking) (hstill : s.psu.still = true) :
    (endBraking s).psu.heldCount = s.psu.count := by
  cases h : trustedStop s with
  | some k =>
    rw [endBraking_stop h]
    simp [tripEnded, newDwell, driNewDwell, setTripState_psu, psuOnTrip, stopMarked, hs, hstill, isMoving]
  | none =>
    rw [endBraking_line h]
    simp [tripEnded, setTripState_psu, psuOnTrip, stopMarked, hs, hstill, isMoving]

/-! ## CLEAR BRAKE (O26) -/

theorem stopOutcome_cleared (s : State) : stopOutcome (cleared s) = stopOutcome s := by
  simp [stopOutcome, trustedStop_cleared]

theorem restState_cleared (s : State) : restState (cleared s) = restState s := by
  simp [restState, trustedStop_cleared]

/-- No stage, no cause and no evacuation release stands after a clear (R80). -/
theorem clearStage_stageNone (s : State) :
    (clearStage s).brs.stage = .none ∧ (clearStage s).brs.causes = [] ∧ (clearStage s).brs.effectiveness = none ∧
      (clearStage s).brs.overspeedCount = 0 ∧ (clearStage s).dri.evac = ⟨false, false⟩ := by
  rw [clearStage_eq]
  split <;> simp [cleared, endEvacuations]

/-- Settles O26. -/
theorem clearBrakeRequest : Obligations.ClearBrakeRequest := by
  unfold Obligations.ClearBrakeRequest
  refine ⟨⟨fun st s hh hn hst hstill hp => ?accepted, fun st s hh hn => ?none⟩,
    fun s hreset he => ?notYours, fun st s hh hn hst hstill => ?moving, fun st why s hh hn hst hstill hp => ?present,
    persistingRules⟩
  case accepted =>
    obtain ⟨hstage, -, heff, hcount, hevac⟩ := clearStage_stageNone s
    have ha := takeClearBrake_cleared hn hst hstill hp
    rw [hstage] at ha
    refine ⟨_, request_answer hh ha, by simp, by simp, by simp, by simpa using heff,
      by simpa using hcount, by simpa using hevac, fun hts => ?_, fun hts => ?_, by simp [keepsBut_iff]⟩
    · have heq : clearStage s = cleared s := by rw [clearStage_eq, if_neg hts]
      rw [heq]
      refine ⟨by simp, by simp [cleared, endEvacuations], ?_⟩
      simp [keepsBut_iff]
      simp [cleared, endEvacuations]
    · have heq : clearStage s = endBraking (cleared s) := by rw [clearStage_eq, if_pos hts]
      have hpos : pos (cleared s) = pos s := pos_congr (by simp) (by simp)
      obtain ⟨hstate, htrip, hstop, hline⟩ := endBraking_trip (cleared s)
      simp only [stopOutcome_cleared, restState_cleared, trustedStop_cleared, hpos, cleared_frame] at hstate htrip hstop hline
      have htold : Told [] s (cleared s) := .of_same (by simp [cleared])
      have hnotices : (cleared s).niu.notices = s.niu.notices := by simp [cleared]
      have hwin := (windowsHanded_endBraking (s := cleared s) (by simpa using hts)).congr (s' := s) (t' := endBraking (cleared s))
        (fun b => (admissionOpen_congr (by simp) (by simp) (by simp) b).symm) (fun _ => rfl) hnotices.symm rfl
      rw [heq]
      refine ⟨by simpa using hstate, ?_, ?_, by simp [endBraking_mismatch], ?_, fun k hk => ?_, fun hk => ?_, hwin.replyTo _ _⟩
      · simp [htrip, stopOutcome]
      · simp [htrip]
      · simpa using endBraking_heldCount (s := cleared s) (by simpa using hts) (by simpa using hstill)
      · simpa [htrip] using HandedOwner.after htold (hstop k hk) (by simp) (by simp)
      · simpa using HandedOwner.after htold (hline hk) (by simp) (by simp)
  case none =>
    exact request_refused (fun _ => takeClearBrake st) hh () (by simp [takeClearBrake, hn, accept])
  case notYours =>
    exact request_refused (fun _ => takeClearBrake .drv) ⟨hreset, rfl⟩ () (by simp [takeClearBrake, he, deny, refuse])
  case moving =>
    exact request_refused (fun _ => takeClearBrake st) hh () (by simp [takeClearBrake, hn, hst, hstill, deny, refuse])
  case present =>
    exact request_refused (fun _ => takeClearBrake st) hh ()
      (by simp [takeClearBrake, hn, hst, hstill, hp, present, refuse])

end Sys2Proof.Machine
end

section
/-! The requests on the line state (O43, O44): OPEN with its checks, CLOSE, and inspection. -/

namespace Sys2Proof.Machine

variable {s t u v w : State} {k : Stop} {new : LineState} {slots : Bool}

/-! ## A change of the line state (R143) -/

/-- The line state changed, before it is told. -/
def lineChanged (new : LineState) (slots : Bool) (s : State) : State :=
  let s1 := evaluateMode (noteWindows s (s.onLsu fun l => { l with line := new }))
  emptyReservations (withdrawReleases (if slots then emptySlots s1 else s1))

theorem changeLine_eq (new : LineState) (slots : Bool) (s : State) :
    changeLine new slots s = handAll .lineState (.line s.lsu.line new) (lineChanged new slots s) := rfl

theorem lineChanged_notices (new : LineState) (slots : Bool) (s : State) :
    (lineChanged new slots s).niu.notices =
      (evaluateMode (noteWindows s (s.onLsu fun l => { l with line := new }))).niu.notices := by
  cases slots <;> simp [lineChanged]

theorem told_lineChanged (new : LineState) (slots : Bool) (s : State) :
    Told (.modeChanged :: windowKinds) s (lineChanged new slots s) := by
  have hset : Told windowKinds s (s.onLsu fun l => { l with line := new }) := .of_same (by simp)
  have hmode : Told (.modeChanged :: windowKinds) s
      (evaluateMode (noteWindows s (s.onLsu fun l => { l with line := new }))) :=
    ((hset.trans (told_noteWindows s _)).mono (by simp)).trans ((told_evaluateMode _).mono (by simp))
  exact hmode.same (lineChanged_notices new slots s)

theorem lineStateHanded_changeLine (new : LineState) (slots : Bool) (s : State) :
    LineStateHanded s.lsu.line new s (changeLine new slots s) := by
  intro st
  rw [changeLine_eq]
  exact Handed.after (told_lineChanged new slots s) (handed_handAll _ _ st _) (by decide)

theorem windowsHanded_changeLine (new : LineState) (slots : Bool) (s : State) :
    WindowsHanded s (changeLine new slots s) := by
  have hnote : WindowsHanded s (noteWindows s (s.onLsu fun l => { l with line := new })) :=
    windowsHanded_noteWindows (by simp)
  have htold : Told [.modeChanged, .lineState] (noteWindows s (s.onLsu fun l => { l with line := new }))
      (changeLine new slots s) := by
    rw [changeLine_eq]
    exact (((told_evaluateMode _).mono (by simp)).same (lineChanged_notices new slots s)).hand (by simp) _ _
  refine hnote.within (fun _ => rfl) (fun b => ?_) (Told.refl (K := []) s) htold (by simp) (by simp [windowKinds])
  exact admissionOpen_congr (by simp [changeLine]; split <;> simp) (by simp) (by simp) b

/-- Out of service no window is open. -/
theorem admissionOpen_offService (h : s.lsu.line ≠ .inService) (b : Berth) : admissionOpen s b = false := by
  simp [admissionOpen, h]

theorem setTripState_notices_offService (h : s.lsu.line ≠ .inService) (ts : TripState) :
    (setTripState ts s).niu.notices = s.niu.notices := by
  unfold setTripState
  dsimp only
  rw [noteWindows_of_same fun b => (admissionOpen_offService h b).trans (admissionOpen_offService (by simpa using h) b).symm]
  simp

theorem setReleaseMark_notices_offService (h : s.lsu.line ≠ .inService) (m : Bool) :
    (setReleaseMark m s).niu.notices = s.niu.notices := by
  unfold setReleaseMark
  rw [noteWindows_of_same fun b => (admissionOpen_offService h b).trans (admissionOpen_offService (by simpa using h) b).symm]
  simp

theorem newDwell_notices_offService (h : s.lsu.line ≠ .inService) (k : Stop) :
    (newDwell k s).niu.notices = s.niu.notices := by
  unfold newDwell
  dsimp only
  rw [setReleaseMark_notices_offService (by simpa [driNewDwell] using h)]
  simpa [driNewDwell] using setTripState_notices_offService h (.dwell k)

/-- A line that leaves service closes its windows with the change of its state, whatever the trip state does then. -/
theorem windowsHanded_outOfService (hnew : new ≠ .inService) (hlsu : t.lsu = (changeLine new slots s).lsu)
    (hn : t.niu.notices = (changeLine new slots s).niu.notices) : WindowsHanded s t := by
  have hline : (changeLine new slots s).lsu.line ≠ .inService := by simpa using hnew
  refine (windowsHanded_changeLine new slots s).congr (fun _ => rfl) (fun b => ?_) rfl hn
  rw [admissionOpen_offService (by rwa [hlsu]), admissionOpen_offService hline]

theorem changeLine_lsu (new : LineState) (slots : Bool) (s : State) :
    (changeLine new slots s).lsu = { s.lsu with line := new } := by
  cases slots <;> simp [changeLine]

theorem changeLine_dri (new : LineState) (slots : Bool) (s : State) :
    (changeLine new slots s).dri = { s.dri with evac := ⟨false, false⟩, maint := ⟨⟨false, false⟩, ⟨false, false⟩⟩ } := by
  cases slots <;> simp [changeLine, withdrawReleases]

theorem changeLine_reservations (new : LineState) (slots : Bool) (s : State) :
    (changeLine new slots s).adm.reservations = [] := by
  rw [changeLine_adm]

theorem LineStateHanded.told {old : LineState} {K : List NoticeKind} (h : LineStateHanded old new s t) (ht : Told K t u)
    (hk : .lineState ∉ K) : LineStateHanded old new s u :=
  fun st => (h st).told ht hk

theorem LineStateHanded.replyTo {old : LineState} {status : Status} {data : ReplyData}
    (h : LineStateHanded old new s t) (q : Request) (st : Station) :
    LineStateHanded old new s (replyTo q st u ⟨t, status, data⟩) :=
  fun who => by simpa using h who

/-! ## OPEN (O43) -/

/-- The checks of OPEN one by one (R144). -/
def openCheckAt (s : State) : Nat → Option SubReason
  | 2 => if s.cfg.committed = false then some .uncommitted else none
  | 3 => if s.psu.ref ≠ .referenced then some .unreferenced else none
  | 4 => if stopHere s = none then some (.offStop (pos s)) else none
  | 5 => if s.psu.still = false then some .notStill else none
  | 6 => if s.brs.stage ≠ .none then some (.stage (firstCause s)) else none
  | 7 => firstCar (fun c => !isFresh s c) fun c => .carStale c
  | 8 => driveSpoke s
  | _ => none

theorem openCheck_eq (s : State) : openCheck s = firstOf (openCheckAt s) 2 7 := by
  simp only [firstOf, openCheckAt, ite_some_or, firstCar_or, openCheck, Bool.not_eq_true', Option.or_none]

theorem driveSpoke_eq_none : driveSpoke s = none ↔ ∃ t, s.brs.lastRefresh = some t ∧ s.now - t ≤ s.params.tDrv := by
  unfold driveSpoke
  cases s.brs.lastRefresh <;> simp

theorem driveSpoke_eq_some {why : SubReason} (h : driveSpoke s = some why) :
    why = .driveSilent (s.brs.lastRefresh.map (s.now - ·)) := by
  unfold driveSpoke at h
  cases hr : s.brs.lastRefresh <;> simp_all

theorem openCheck_rule (m : Nat) (hlo : 2 ≤ m) (hhi : m ≤ 8) :
    (openCheckAt s m = none ↔ OpenHolds s m) ∧ ∀ why, openCheckAt s m = some why → OpenReason s m why := by
  obtain rfl | rfl | rfl | rfl | rfl | rfl | rfl : m = 2 ∨ m = 3 ∨ m = 4 ∨ m = 5 ∨ m = 6 ∨ m = 7 ∨ m = 8 := by omega
  all_goals simp only [openCheckAt, OpenHolds, OpenReason]
  · exact ⟨ite_some_none_iff.trans (by simp), fun _ => eq_of_ite_some⟩
  · exact ⟨ite_some_none_iff.trans not_not, fun _ => eq_of_ite_some⟩
  · exact ⟨ite_some_none_iff.trans (by rw [stopHere_eq_none, not_not]), fun _ => eq_of_ite_some⟩
  · exact ⟨ite_some_none_iff.trans (by simp), fun _ => eq_of_ite_some⟩
  · exact ⟨ite_some_none_iff.trans not_not, fun _ => eq_of_ite_some⟩
  · refine ⟨firstCar_eq_none.trans (by simp [freshReport_iff]), fun why h => ?_⟩
    obtain ⟨c, hc, hfirst, rfl⟩ := firstCar_eq_some h
    refine ⟨c, ⟨fun hf => ?_, fun hb => (freshReport_iff .a).mpr (by simpa using hfirst hb)⟩, rfl⟩
    simp [(freshReport_iff c).mp hf] at hc
  · exact ⟨driveSpoke_eq_none, fun _ => driveSpoke_eq_some⟩

theorem openRules (s : State) : FirstFailure 2 8 (OpenHolds s) (OpenReason s) (openCheck s) := by
  rw [openCheck_eq]
  exact firstFailure_firstOf rfl openCheck_rule

theorem takeOpen_opened (hl : s.lsu.line = .closed) (hc : openCheck s = none) (hk : stopHere s = some k) :
    takeOpen () s = ⟨openAt k s, .ok, .opened k .inService⟩ := by
  simp [takeOpen, hl, hc, hk, accept, openAt]

theorem takeOpen_present {why : SubReason} (hl : s.lsu.line = .closed) (hc : openCheck s = some why) :
    takeOpen () s = present why s := by
  cases hk : stopHere s <;> simp [takeOpen, hl, hc, hk]

theorem openAt_dri (k : Stop) (s : State) :
    (openAt k s).dri.phase = (if s.params.alightLead = 0 then .boarding else .alighting) ∧
      (openAt k s).dri.leadTimer =
        (if s.params.alightLead = 0 then none else some ⟨s.now, s.now + s.params.alightLead * 1000⟩) := by
  by_cases h0 : s.params.alightLead = 0 <;>
    simp_all [openAt, newDwell, driNewDwell, State.params, timer, startAt]

/-- Settles O43. -/
theorem openLineRequest : Obligations.OpenLineRequest := by
  unfold Obligations.OpenLineRequest
  refine ⟨fun k s hh hl hc hk => ?opened, fun s hh hl => ?wrongState, fun why s hh hl hc => ?present,
    fun s => ⟨openRules s, fun k => atStop_of_stopHere⟩⟩
  case opened =>
    have hhanded : LineStateHanded .closed .inService s (openAt k s) := by
      have h := lineStateHanded_changeLine .inService false s
      rw [hl] at h
      exact h.told (told_newDwell k _) (by decide)
    have htrans : Transferred k s (openAt k s) := by
      have h := transferred_newDwell k (changeLine .inService false s)
      unfold Transferred at h ⊢
      simpa [openAt] using h
    obtain ⟨hphase, hlead⟩ := openAt_dri k s
    refine ⟨_, request_answer (r := .openLine) ⟨hh, rfl⟩ (takeOpen_opened hl hc hk), by simp, ?_, by simp [openAt],
      by simp [openAt], ?_, ?_, ?_, ?_, ?_, ?_, ?_, ?_, ?_, ?_, hhanded.replyTo _ _, ?_, by simp [keepsBut_iff]⟩
    · simp [openAt, newDwell, driNewDwell, changeLine_lsu]
    · simp [openAt, State.params]
    · simp [openAt]
    · simp [openAt]
    · simp [openAt, newDwell, driNewDwell, setTripState_trip]
    · simpa [openAt, changeLine_reservations] using (newDwell_admKept k (changeLine .inService false s)).reservations
    · simp [openAt, newDwell, driNewDwell, setTripState_dri, driOnTrip, changeLine_dri, apply_ite]
    · simp [openAt, newDwell, driNewDwell, setTripState_dri, driOnTrip, changeLine_dri, apply_ite]
    · by_cases h0 : s.params.alightLead = 0 <;> simp_all [openAt, newDwell, State.params]
    · simpa using hphase
    · simpa using hlead
    · exact htrans.at (by simp) (by simp)
  case wrongState =>
    exact request_refused (r := .openLine) takeOpen ⟨hh, rfl⟩ () (by simp [takeOpen, hl, deny, refuse])
  case present =>
    exact request_refused (r := .openLine) takeOpen ⟨hh, rfl⟩ () (takeOpen_present hl hc)

/-! ## CLOSE and inspection (O44) -/

theorem closeLine_told (s : State) : (closeLine s).niu.notices = (changeLine .closed true s).niu.notices :=
  setTripState_notices_offService (by simp) .none

/-- What CLOSE and INSPECTION LEAVE leave and tell (R143, R146, R148). -/
theorem closeLine_leaves (s : State) :
    (closeLine s).lsu = { s.lsu with line := .closed } ∧ (closeLine s).trc.state = .none ∧
      (closeLine s).trc.slot0 = .empty ∧ (closeLine s).trc.slot1 = .empty ∧
      LineStateHanded s.lsu.line .closed s (closeLine s) ∧ WindowsHanded s (closeLine s) ∧
      KeepsBut [.psu, .clc, .brs, .trc, .dri, .adm, .lsu, .notices] s (closeLine s) := by
  refine ⟨by simp [closeLine, changeLine_lsu], by simp [closeLine], by simp [closeLine], by simp [closeLine], ?_, ?_, ?_⟩
  · exact (lineStateHanded_changeLine .closed true s).told (K := []) (.of_same (closeLine_told s)) (by simp)
  · exact windowsHanded_outOfService (by simp) (by simp [closeLine]) (closeLine_told s)
  · simp [keepsBut_iff, closeLine]

theorem trustedStop_changeLine (new : LineState) (slots : Bool) (s : State) :
    trustedStop (changeLine new slots s) = trustedStop s := by
  have hpos : pos (changeLine new slots s) = pos s := pos_congr (by simp) (by simp)
  simp [trustedStop, stopHere, hpos, State.params]

theorem enterInspection_eq (s : State) :
    enterInspection s =
      match trustedStop s with
      | some k => newDwell k (changeLine .inspection true s)
      | none => setTripState .stoppedOnLine (changeLine .inspection true s) := by
  rw [← trustedStop_changeLine .inspection true s]
  rfl

theorem changeLine_inspection_effMode (s : State) : (changeLine .inspection true s).trc.effMode = .inspection := by
  have hmode : ∀ u : State, u.lsu.line = .inspection → (evaluateMode u).trc.effMode = .inspection := by
    intro u hu
    unfold evaluateMode
    dsimp only
    split
    next h => simpa [effectiveMode, hu] using h.symm
    next => simp [effectiveMode, hu]
  simpa [changeLine, emptySlots] using hmode (noteWindows s (s.onLsu fun l => { l with line := .inspection })) (by simp)

theorem enterInspection_notices (s : State) :
    (enterInspection s).niu.notices = (changeLine .inspection true s).niu.notices := by
  rw [enterInspection_eq]
  split
  · exact newDwell_notices_offService (by simp) _
  · exact setTripState_notices_offService (by simp) _

/-- What INSPECTION ENTER leaves of the trip and the reservations (R147). -/
theorem enterInspection_leaves (s : State) :
    (enterInspection s).lsu = { s.lsu with line := .inspection } ∧ (enterInspection s).trc.state = restState s ∧
      (enterInspection s).trc.effMode = .inspection ∧ (enterInspection s).trc.slot0 = .empty ∧
      (enterInspection s).trc.slot1 = .empty ∧ (enterInspection s).adm.reservations = [] ∧
      (∀ k, restState s = .dwell k → Transferred k s (enterInspection s)) := by
  have heff := changeLine_inspection_effMode s
  have hres := changeLine_reservations .inspection true s
  rw [enterInspection_eq]
  cases h : trustedStop s with
  | some k =>
    refine ⟨by simp [newDwell, driNewDwell, changeLine_lsu], by simp [restState, h], by simpa using heff, by simp, by simp,
      ?_, fun j hj => ?_⟩
    · simpa [hres] using (newDwell_admKept k (changeLine .inspection true s)).reservations
    · have hj : k = j := by simpa [restState, h] using hj
      subst hj
      have htrans := transferred_newDwell k (changeLine .inspection true s)
      unfold Transferred at htrans ⊢
      simpa using htrans
  | none =>
    refine ⟨by simp [changeLine_lsu], by simp [restState, h], by simpa using heff, by simp, by simp, ?_, fun j hj => ?_⟩
    · simpa [hres] using (setTripState_admKept .stoppedOnLine (changeLine .inspection true s)).reservations
    · simp [restState, h] at hj

/-- Settles O44. -/
theorem closeAndInspection : Obligations.CloseAndInspection := by
  unfold Obligations.CloseAndInspection
  refine ⟨fun s hh hl hfl hr => ?close, fun s hh hl hfl => ?leave, fun s hh hl hc hready => ?enter, fun s hh => ?refused⟩
  case close =>
    obtain ⟨hlsu, hstate, h0, h1, hline, hwin, hkeeps⟩ := closeLine_leaves s
    rw [hl] at hline
    have ha : takeClose () s = ⟨closeLine s, .ok, .nothing⟩ := by simp [takeClose, hl, hfl, hr, accept]
    exact ⟨_, request_answer (r := .closeLine) ⟨hh, rfl⟩ ha, by simp, by simpa using hlsu, by simpa using hstate,
      by simpa using h0, by simpa using h1, hline.replyTo _ _, hwin.replyTo _ _, by simpa using hkeeps⟩
  case leave =>
    obtain ⟨hlsu, hstate, h0, h1, hline, -, hkeeps⟩ := closeLine_leaves s
    rw [hl] at hline
    have ha : takeInspectionLeave () s = ⟨closeLine s, .ok, .nothing⟩ := by simp [takeInspectionLeave, hl, hfl, accept]
    exact ⟨_, request_answer (r := .inspectionLeave) ⟨hh, rfl⟩ ha, by simp, by simpa using hlsu, by simpa using hstate,
      by simpa using h0, by simpa using h1, hline.replyTo _ _, by simpa using hkeeps⟩
  case enter =>
    obtain ⟨hlsu, hstate, heff, h0, h1, hres, htrans⟩ := enterInspection_leaves s
    have hline := (lineStateHanded_changeLine .inspection true s).told (K := [])
      (.of_same (enterInspection_notices s)) (by simp)
    have hwin : WindowsHanded s (enterInspection s) :=
      windowsHanded_outOfService (new := .inspection) (slots := true) (by simp) (by rw [hlsu, changeLine_lsu])
        (enterInspection_notices s)
    have ha : takeInspectionEnter () s = ⟨enterInspection s, .ok, .tripState (restState s)⟩ := by
      have hfl : ¬ (s.lsu.line = .inService ∧ inFlight s.trc.state = true) := fun ⟨hs, hf⟩ => by simp [hready hs] at hf
      have hr : ¬ (s.lsu.line = .inService ∧ s.adm.reservations.isEmpty = false) := fun ⟨hs, hf⟩ => by
        simp [hready hs] at hf
      simp only [takeInspectionEnter, hl, hc, hfl, hr, accept, hstate, if_false, Bool.true_eq_false]
    exact ⟨_, request_answer (r := .inspectionEnter) ⟨hh, rfl⟩ ha, by simp, by simpa using hlsu, by simpa using hstate,
      by simpa using heff, by simpa using h0, by simpa using h1, by simpa using hres, hline.replyTo _ _, hwin.replyTo _ _,
      fun k hk => (htrans k hk).at (by simp) (by simp), by simp [keepsBut_iff]⟩
  case refused =>
    refine ⟨fun hl => ?_, fun hl => ?_, fun hl => ?_, fun hl hc => ?_, fun hl hf => ?_, fun hl hf hr => ?_, fun hl hf => ?_,
      fun hl hc hf => ?_, fun hl hc hf hr => ?_⟩
    · exact request_refused (r := .closeLine) takeClose ⟨hh, rfl⟩ () (by simp [takeClose, hl, deny, refuse])
    · exact request_refused (r := .inspectionLeave) takeInspectionLeave ⟨hh, rfl⟩ ()
        (by simp [takeInspectionLeave, hl, deny, refuse])
    · exact request_refused (r := .inspectionEnter) takeInspectionEnter ⟨hh, rfl⟩ ()
        (by simp [takeInspectionEnter, hl, deny, refuse])
    · exact request_refused (r := .inspectionEnter) takeInspectionEnter ⟨hh, rfl⟩ ()
        (by simp [takeInspectionEnter, hl, hc, present, refuse])
    · exact request_refused (r := .closeLine) takeClose ⟨hh, rfl⟩ () (by simp [takeClose, hl, hf, deny, refuse])
    · exact request_refused (r := .closeLine) takeClose ⟨hh, rfl⟩ () (by simp [takeClose, hl, hf, hr, refuse])
    · exact request_refused (r := .inspectionLeave) takeInspectionLeave ⟨hh, rfl⟩ ()
        (by simp [takeInspectionLeave, hl, hf, deny, refuse])
    · exact request_refused (r := .inspectionEnter) takeInspectionEnter ⟨hh, rfl⟩ ()
        (by simp [takeInspectionEnter, hl, hc, hf, deny, refuse])
    · exact request_refused (r := .inspectionEnter) takeInspectionEnter ⟨hh, rfl⟩ ()
        (by simp [takeInspectionEnter, hl, hc, hf, hr, refuse])

end Sys2Proof.Machine
end

section
/-! The brake timers and feedbacks (O24, O25): a brake that does not apply, a silent drive, a silent car, and a feedback
that changes. -/

namespace Sys2Proof.Machine

variable {s t u v w : State} {b : Brake} {c : Cause} {d : Detail}

/-! ## What a rise of the stage leaves of the brakes -/

section
variable {P : Brs → Prop}

theorem setTripState_brs_keeps (hout : ∀ u : State, P u.brs → P (updateOutputs u).brs)
    (htimers : ∀ (b : Brs) r w, P b → P { b with refreshTimer := r, releaseWait := w }) (new : TripState) (h : P s.brs) :
    P (setTripState new s).brs := by
  rw [setTripState_brs]
  exact hout _ (htimers _ _ _ (by simpa [trcOnTrip] using h))

/-- What setting the outputs again keeps of the brakes, the trip's answer to a rise keeps. -/
theorem tripOnRise_brs_keeps (hout : ∀ u : State, P u.brs → P (updateOutputs u).brs)
    (htimers : ∀ (b : Brs) r w, P b → P { b with refreshTimer := r, releaseWait := w }) (h : P s.brs) :
    P (tripOnRise s).brs := by
  have habort : P (pendingsUnderStage (abortTrip .brake s)).brs := by
    rw [(pendingsUnderStage_frame _).2.2.2.2.1, abortTrip_brs]
    exact setTripState_brs_keeps hout htimers _ h
  unfold tripOnRise
  split
  next => exact habort
  next => exact habort
  next => exact habort
  next => exact setTripState_brs_keeps hout htimers _ h
  next => exact setTripState_brs_keeps hout htimers _ h
  next => exact setTripState_brs_keeps hout htimers _ h
  next => exact h

/-- What setting the outputs again keeps of the brakes holds after a rise, where it holds of the raised stage. -/
theorem raiseCause_brs_keeps (hout : ∀ u : State, P u.brs → P (updateOutputs u).brs)
    (htimers : ∀ (b : Brs) r w, P b → P { b with refreshTimer := r, releaseWait := w }) (hc : hasCause s c = false)
    (hr : s.brs.stage.rank < c.stage.rank) (h : P (causeTimed c d s).brs) : P (raiseCause c d s).brs := by
  have hbrs : (risen c d s).brs = (updateOutputs (causeTimed c d s)).brs := by simp [risen]
  rw [raiseCause_rise hc hr]
  refine tripOnRise_brs_keeps hout htimers ?_
  rw [hbrs]
  exact hout _ h

end

/-- A stage stands, and the hold-off of brake `b` is off: its apply timer is then left alone (R72). -/
def TimerLeft (b : Brake) (tm : Option Timer) (r : Brs) : Prop :=
  r.stage ≠ .none ∧ r.holdoff b = false ∧ r.apply b = tm

theorem TimerLeft.updateOutputs {tm : Option Timer} (h : TimerLeft b tm s.brs) : TimerLeft b tm (updateOutputs s).brs := by
  obtain ⟨hstage, hoff, happly⟩ := h
  have hw := wantedOutputs_staged hstage
  refine ⟨by simpa using hstage, ?_, ?_⟩
  · cases b <;> simp_all [Brs.holdoff]
  · cases b <;> simp_all [Brs.holdoff, Brs.apply, Machine.updateOutputs, applyTimer]

/-- The apply timer of a brake whose hold-off is off is not touched where a cause is raised (R62, R72). -/
theorem raiseCause_apply (h : s.brs.holdoff b = false) (c : Cause) (d : Detail) :
    (raiseCause c d s).brs.apply b = s.brs.apply b := by
  by_cases hc : hasCause s c = true
  · simp [raiseCause, hc]
  · have hc : hasCause s c = false := by simpa using hc
    by_cases hr : s.brs.stage.rank < c.stage.rank
    · have htimed : TimerLeft b (s.brs.apply b) (causeTimed c d s).brs := by
        refine ⟨?_, ?_, ?_⟩
        · simpa [causeTimed, addCause, hr] using stage_ne_none_of_rise hr
        · cases b <;> simpa [causeTimed, addCause, Brs.holdoff] using h
        · cases b <;> simp [causeTimed, addCause, Brs.apply]
      exact (raiseCause_brs_keeps (P := TimerLeft b (s.brs.apply b)) (fun u hu => hu.updateOutputs)
        (fun r _ _ hr => by cases b <;> exact hr) hc hr htimed).2.2
    · rw [raiseCause_flat hc hr]
      cases b <;> simp [addCause, Brs.apply]

/-- The feedback of brake `b` shows APPLIED and its apply timer is stopped (R72). -/
def ShowsApplied (b : Brake) (r : Brs) : Prop := r.fb b = .applied ∧ r.apply b = none

theorem ShowsApplied.updateOutputs (h : ShowsApplied b s.brs) : ShowsApplied b (updateOutputs s).brs := by
  obtain ⟨hfb, happly⟩ := h
  cases b <;> simp_all [ShowsApplied, Brs.fb, Brs.apply, Machine.updateOutputs, applyTimer]

theorem ShowsApplied.raiseCause (h : ShowsApplied b s.brs) (c : Cause) (d : Detail) :
    ShowsApplied b (raiseCause c d s).brs := by
  by_cases hc : hasCause s c = true
  · simpa [Machine.raiseCause, hc] using h
  · have hc : hasCause s c = false := by simpa using hc
    have hadd : ShowsApplied b (addCause c d s.brs) := by cases b <;> exact h
    by_cases hr : s.brs.stage.rank < c.stage.rank
    · have htimed : ShowsApplied b (causeTimed c d s).brs := by
        unfold causeTimed
        rw [State.onBrs_brs, (causeAdded_frame c d s).2.2.2.2.1]
        cases b <;> exact hadd
      exact raiseCause_brs_keeps (P := ShowsApplied b) (fun u hu => hu.updateOutputs)
        (fun r _ _ hr => by cases b <;> exact hr) hc hr htimed
    · rw [raiseCause_flat hc hr]
      simpa using hadd

/-- The drive refresh timer stays stopped where a cause is raised. -/
theorem raiseCause_refreshTimer (h : s.brs.refreshTimer = none) (c : Cause) (d : Detail) :
    (raiseCause c d s).brs.refreshTimer = none := by
  have hset (new : TripState) (hnew : new ≠ .release) {u : State} (hu : u.brs.refreshTimer = none) :
      (setTripState new u).brs.refreshTimer = none := by
    simp [hnew, hu]
  by_cases hc : hasCause s c = true
  · simpa [Machine.raiseCause, hc] using h
  · have hc : hasCause s c = false := by simpa using hc
    by_cases hr : s.brs.stage.rank < c.stage.rank
    · have hrisen : (risen c d s).brs.refreshTimer = none := by simpa [risen, causeTimed, addCause] using h
      have habort : (pendingsUnderStage (abortTrip .brake (risen c d s))).brs.refreshTimer = none := by
        rw [(pendingsUnderStage_frame _).2.2.2.2.1, abortTrip_brs]
        rcases abortState_cases (risen c d s) with hs | ⟨k, -, hs⟩ <;> exact hset _ (by simp [hs]) hrisen
      rw [raiseCause_rise hc hr]
      unfold tripOnRise
      split
      next => exact habort
      next => exact habort
      next => exact habort
      next => exact hset _ (by simp) hrisen
      next => exact hset _ (by simp) hrisen
      next => exact hset _ (by simp) hrisen
      next => exact hrisen
    · rw [raiseCause_flat hc hr]
      simpa [addCause] using h

theorem raiseCause_drivePermit (h : s.brs.drivePermit = false) (c : Cause) (d : Detail) :
    (raiseCause c d s).brs.drivePermit = false := by
  by_cases hc : hasCause s c = true
  · simpa [Machine.raiseCause, hc] using h
  · have hc : hasCause s c = false := by simpa using hc
    by_cases hr : s.brs.stage.rank < c.stage.rank
    · exact (raiseCause_outputs hc hr d).1
    · rw [raiseCause_flat hc hr]
      simpa [addCause] using h

/-! ## A report made stale (R39, R64, R70) -/

/-- The record of a car whose report is stale no longer stands as fresh, and the outputs are set again. -/
def staled (c : Car) (s : State) : State := updateOutputs (s.onCru fun r => r.set c { r.get c with fresh := false })

theorem makeStale_eq (c : Car) (s : State) :
    makeStale c s =
      if isPowered s.trc.state then raiseCause .carSilent (.silentCar c (reportAge s c)) (staled c s) else staled c s := by
  simp [makeStale, staled]

theorem allLocked_staled (c : Car) (s : State) :
    allLocked (s.onCru fun r => r.set c { r.get c with fresh := false }) = false := by
  rw [Bool.eq_false_iff, Ne, allLocked_iff]
  cases c <;> simp [isFresh]

theorem staled_drivePermit (c : Car) (s : State) : (staled c s).brs.drivePermit = false := by
  rw [staled, updateOutputs_drivePermit, wantedOutputs, allLocked_staled]
  unfold outputsWith
  split <;> try split
  all_goals rfl

/-- Where the outputs stood as R64 gives them, a stale report takes the drive permit alone. -/
theorem staled_stands (c : Car) (h : OutputInv s) : (staled c s).brs = { s.brs with drivePermit := false } := by
  obtain ⟨hsb, heb, -, -⟩ := h
  have hsb' : (outputsWith false s).sbHoldoff = s.brs.sbHoldoff := by
    rw [hsb, wantedOutputs, outputsWith_sbHoldoff (allLocked s)]
  have heb' : (outputsWith false s).ebHoldoff = s.brs.ebHoldoff := by
    rw [heb, wantedOutputs, outputsWith_ebHoldoff (allLocked s)]
  have hdp' : (outputsWith false s).drivePermit = false := by
    rw [outputsWith_drivePermit, Bool.false_and]
  have hw : wantedOutputs (s.onCru fun r => r.set c { r.get c with fresh := false }) = outputsWith false s := by
    rw [wantedOutputs, allLocked_staled]
    exact outputsWith_eq false rfl rfl rfl
  simp only [staled, updateOutputs, State.onBrs_brs, hw, hsb', heb', hdp', State.onCru_brs, applyTimer_same]

theorem makeStale_record (c : Car) (s : State) :
    (makeStale c s).cru = s.cru.set c { s.cru.get c with fresh := false } ∧ (makeStale c s).brs.drivePermit = false := by
  rw [makeStale_eq]
  split
  · exact ⟨by simp [staled], raiseCause_drivePermit (staled_drivePermit c s) _ _⟩
  · exact ⟨by simp [staled], staled_drivePermit c s⟩

/-! ## The timed causes (O24) -/

theorem timedEvent_of_isTimedEvent {i : Instr} (h : isTimedEvent i = true) (s : State) :
    ∃ f, exec i s = timedEvent i f s := by
  cases i with
  | driveRefreshTimerExpiry => exact ⟨_, (rfl : execDriveRefreshTimerExpiry s = timedEvent _ _ s)⟩
  | releaseWaitExpiry => exact ⟨_, (rfl : execReleaseWaitExpiry s = timedEvent _ _ s)⟩
  | applyTimerExpiry b => exact ⟨_, (rfl : execApplyTimerExpiry b s = timedEvent _ _ s)⟩
  | minDwellExpiry => exact ⟨_, (rfl : execMinDwellExpiry s = timedEvent _ _ s)⟩
  | settleTimerExpiry => exact ⟨_, (rfl : execSettleTimerExpiry s = timedEvent _ _ s)⟩
  | leadTimerExpiry => exact ⟨_, (rfl : execLeadTimerExpiry s = timedEvent _ _ s)⟩
  | doorCloseTimerExpiry => exact ⟨_, (rfl : execDoorCloseTimerExpiry s = timedEvent _ _ s)⟩
  | lapse l => exact ⟨_, (rfl : execLapse l s = timedEvent _ _ s)⟩
  | carReportStale c => exact ⟨_, (rfl : execCarReportStale c s = timedEvent _ _ s)⟩
  | speedSample => exact ⟨_, (rfl : execSpeedSample s = timedEvent _ _ s)⟩
  | _ => simp [isTimedEvent] at h

theorem execApplyTimerExpiry_run {tm : Timer} (hreset : s.pins.resetLow = false) (htm : s.brs.apply b = some tm)
    (ho : isOvertaken s (.applyTimerExpiry b) = false) :
    exec (.applyTimerExpiry b) s =
      .next (takenUp (.applyTimerExpiry b) (finish s (notApplied b tm (advanceTo tm.due s)))) :=
  timed_acts (rfl : execApplyTimerExpiry b s = _) hreset ho (by simp [htm])

theorem execCarReportStale_run {c : Car} (hreset : s.pins.resetLow = false) (hf : (s.cru.get c).fresh = true)
    (ho : isOvertaken s (.carReportStale c) = false) :
    exec (.carReportStale c) s =
      .next (takenUp (.carReportStale c)
        (finish s (makeStale c (advanceTo ((s.cru.get c).takenAt + s.params.tCar + 1) s)))) :=
  timed_acts (rfl : execCarReportStale c s = _) hreset ho (by simp [hf])

theorem failCause_stage (b : Brake) : (failCause b).stage = .emergency := by
  cases b <;> rfl

theorem setApply_apply (r : Brs) (tm : Option Timer) (b : Brake) : (r.setApply tm b).apply b = tm := by
  cases b <;> rfl

/-- Settles O24. -/
theorem silenceAndBrakeTimersRaise : Obligations.SilenceAndBrakeTimersRaise := by
  unfold Obligations.SilenceAndBrakeTimersRaise
  refine ⟨fun b tm s hh htm hoff hc ho => ?unapplied, fun tm s hh htm hc ho => ?drive, fun c s hh hf ho => ?car,
    fun b tm s hh htm hc ho => ?unappliedKnown, fun tm s hh htm hc ho => ?driveKnown, fun b s hh htm => ?noApply,
    fun s hh htm => ?noRefresh, fun c s hh hf => ?notFresh, fun i s hh ht ho => ?overtaken⟩
  case unapplied =>
    have hc' : hasCause ((advanceTo tm.due s).onBrs fun r => r.setApply none b) (failCause b) = false := by
      rw [hasCause_congr (s := s) (failCause b) (by cases b <;> simp [Brs.setApply])]
      exact hc
    have hoff' : ((advanceTo tm.due s).onBrs fun r => r.setApply none b).brs.holdoff b = false := by
      cases b <;> simpa [Brs.setApply, Brs.holdoff] using hoff
    refine ⟨_, execApplyTimerExpiry_run hh htm ho, ?_, ?_, ?_, by simp [notApplied], by simp [keepsBut_iff, notApplied]⟩
    · simp only [takenUp_brs, finish_frame]
      rw [notApplied, raiseCause_apply hoff', State.onBrs_brs, setApply_apply]
    · simp only [takenUp_brs, finish_frame]
      rw [notApplied, raiseCause_causes hc']
      cases b <;> simp [Brs.setApply]
    · simp only [takenUp_brs, finish_frame]
      rw [notApplied, raiseCause_stage, failCause_stage]
      have hstage : ((advanceTo tm.due s).onBrs fun r => r.setApply none b).brs.stage = s.brs.stage := by
        cases b <;> simp [Brs.setApply]
      rw [hstage]
      simpa [hc'] using stage_emergency_of_rise s
  case drive =>
    have hc' : hasCause ((advanceTo tm.due s).onBrs fun r => { r with refreshTimer := none }) .driveSilent = false := by
      rw [hasCause_congr (s := s) .driveSilent (by simp)]
      exact hc
    refine ⟨_, driveRefresh_run hh ho htm, ?_, ?_, ?_, by simp [driveSilent], by simp [keepsBut_iff, driveSilent]⟩
    · simp only [takenUp_brs, finish_frame]
      exact raiseCause_refreshTimer (by simp) .driveSilent _
    · simp only [takenUp_brs, finish_frame]
      rw [driveSilent, raiseCause_causes hc']
      simp
    · simp only [takenUp_brs, finish_frame]
      rw [driveSilent, raiseCause_stage, hc', ← stage_service_of_rise]
      simp [Cause.stage]
  case car =>
    obtain ⟨hcru, hdp⟩ := makeStale_record c (advanceTo ((s.cru.get c).takenAt + s.params.tCar + 1) s)
    refine ⟨_, execCarReportStale_run hh hf ho, by simpa using hcru, by simpa using hdp, by simp, fun hp hc => ?_,
      fun hq => ?_, ?_⟩
    · have hc' : hasCause (staled c (advanceTo ((s.cru.get c).takenAt + s.params.tCar + 1) s)) .carSilent = false := by
        rw [hasCause_congr (s := s) .carSilent (by simp [staled])]
        exact hc
      have heq : makeStale c (advanceTo ((s.cru.get c).takenAt + s.params.tCar + 1) s) =
          raiseCause .carSilent _ (staled c (advanceTo ((s.cru.get c).takenAt + s.params.tCar + 1) s)) :=
        (makeStale_eq _ _).trans (if_pos (by simpa using hp))
      simp only [takenUp_brs, takenUp_now, finish_frame]
      rw [heq]
      refine ⟨?_, ?_⟩
      · rw [raiseCause_causes hc']
        simp [staled, reportAge]
      · rw [raiseCause_stage, hc', ← stage_service_of_rise]
        simp [staled, Cause.stage]
    · have heq : makeStale c (advanceTo ((s.cru.get c).takenAt + s.params.tCar + 1) s) =
          staled c (advanceTo ((s.cru.get c).takenAt + s.params.tCar + 1) s) := by
        rw [makeStale_eq]
        rcases hq with hp | hc
        · exact if_neg (by simp [hp])
        · have hc' : hasCause (staled c (advanceTo ((s.cru.get c).takenAt + s.params.tCar + 1) s)) .carSilent = true := by
            rw [hasCause_congr (s := s) .carSilent (by simp [staled])]
            exact hc
          simp [raiseCause, hc']
      have hout : OutputsOnly s.brs (staled c (advanceTo ((s.cru.get c).takenAt + s.params.tCar + 1) s)).brs :=
        updateOutputs_outputsOnly _
      simp only [takenUp_brs, finish_frame, keepsBut_takenUp, keepsBut_finish]
      rw [heq]
      refine ⟨?_, fun hinv => ?_, ?_⟩
      · have hout' := hout
        unfold OutputsOnly at hout'
        rwa [staled_drivePermit] at hout'
      · have hinv' : OutputInv (advanceTo ((s.cru.get c).takenAt + s.params.tCar + 1) s) :=
          hinv.congr rfl rfl rfl rfl rfl rfl (allLocked_mono rfl rfl (Nat.le_max_left _ _))
        exact staled_stands c hinv'
      · simp [keepsBut_iff, staled]
    · simp [keepsBut_iff]
  case unappliedKnown =>
    have hknown : notApplied b tm (advanceTo tm.due s) = (advanceTo tm.due s).onBrs fun r => r.setApply none b := by
      have hc' : hasCause ((advanceTo tm.due s).onBrs fun r => r.setApply none b) (failCause b) = true := by
        rw [hasCause_congr (s := s) (failCause b) (by cases b <;> simp [Brs.setApply])]
        exact hc
      simp [notApplied, raiseCause, hc']
    refine ⟨_, execApplyTimerExpiry_run hh htm ho, ?_⟩
    rw [hknown]
    exact ⟨by simp, by simp, by simp [keepsBut_iff]⟩
  case driveKnown =>
    have hknown : driveSilent (advanceTo tm.due s) = (advanceTo tm.due s).onBrs fun r => { r with refreshTimer := none } := by
      have hc' : hasCause ((advanceTo tm.due s).onBrs fun r => { r with refreshTimer := none }) .driveSilent = true := by
        rw [hasCause_congr (s := s) .driveSilent (by simp)]
        exact hc
      simp [driveSilent, raiseCause, hc']
    refine ⟨_, driveRefresh_run hh ho htm, ?_⟩
    rw [hknown]
    exact ⟨by simp, by simp, by simp [keepsBut_iff]⟩
  case noApply =>
    exact ⟨_, timed_idle (rfl : execApplyTimerExpiry b s = _) hh fun _ => by simp [htm], by simp [KeepsBut.refl]⟩
  case noRefresh =>
    exact ⟨_, timed_idle (rfl : execDriveRefreshTimerExpiry s = _) hh fun _ => by simp [htm], by simp [KeepsBut.refl]⟩
  case notFresh =>
    exact ⟨_, timed_idle (rfl : execCarReportStale c s = _) hh fun _ => by simp [hf], by simp [KeepsBut.refl]⟩
  case overtaken =>
    obtain ⟨f, hf⟩ := timedEvent_of_isTimedEvent ht s
    exact ⟨_, hf.trans (timedEvent_overtaken f hh ho), by simp [KeepsBut.refl], by simp⟩

end Sys2Proof.Machine
end

section
/-! A brake feedback that changes (O25). -/

namespace Sys2Proof.Machine

variable {s t u v w : State} {b : Brake} {level : Feedback}

/-! ## The feedback taken, before the release wait is looked at (R72, R164) -/

/-- The state with the new level and the brake's apply timer stopped or started. -/
def feedbackTaken (b : Brake) (level : Feedback) (s : State) : State :=
  timerAtFeedback b level ((heldInput b level s).onBrs fun r => r.setFb level b)

theorem takeFeedback_eq (b : Brake) (level : Feedback) (s : State) :
    takeFeedback b level (heldInput b level s) =
      if level = .applied ∧ (checkReleased (feedbackTaken b level s)).trc.state = .running then
        raiseCause .brakeDrag (.brake b) (checkReleased (feedbackTaken b level s))
      else checkReleased (feedbackTaken b level s) := rfl

theorem feedbackTaken_frame (b : Brake) (level : Feedback) (s : State) :
    KeepsBut [.now, .pins, .brs] s (feedbackTaken b level s) ∧
      (feedbackTaken b level s).pins = s.pins.setInput (standing s.now level (s.pins.input b)) b ∧
      (feedbackTaken b level s).now = max s.now ((standing s.now level (s.pins.input b)).since + 2) := by
  unfold feedbackTaken timerAtFeedback
  split
  · simp [keepsBut_iff, heldInput, Config.inputHoldMs]
  · split <;> simp [keepsBut_iff, heldInput, Config.inputHoldMs]

section
variable (r : Brs) (tm : Option Timer) (b o : Brake)

@[simp] theorem Brs.fb_setFb_self : (r.setFb level b).fb b = level := by cases b <;> rfl

theorem Brs.fb_setFb_other {o b : Brake} (h : o ≠ b) : (r.setFb level b).fb o = r.fb o := by
  cases b <;> cases o <;> simp_all [Brs.fb, Brs.setFb]

@[simp] theorem Brs.fb_setApply : (r.setApply tm b).fb o = r.fb o := by cases b <;> cases o <;> rfl

@[simp] theorem Brs.apply_setApply_self : (r.setApply tm b).apply b = tm := by cases b <;> rfl

@[simp] theorem Brs.holdoff_setFb : (r.setFb level b).holdoff o = r.holdoff o := by cases b <;> cases o <;> rfl

@[simp] theorem Brs.causes_setFb : (r.setFb level b).causes = r.causes ∧ (r.setFb level b).releaseWait = r.releaseWait := by
  cases b <;> exact ⟨rfl, rfl⟩

@[simp] theorem Brs.causes_setApply :
    (r.setApply tm b).causes = r.causes ∧ (r.setApply tm b).releaseWait = r.releaseWait := by
  cases b <;> exact ⟨rfl, rfl⟩

end

/-- Of the brakes the feedback and the apply timer alone change. -/
theorem feedbackTaken_brs (b : Brake) (level : Feedback) (s : State) :
    (feedbackTaken b level s).brs.fb b = level ∧
      (∀ o, o ≠ b → (feedbackTaken b level s).brs.fb o = s.brs.fb o) ∧
      (feedbackTaken b level s).brs.causes = s.brs.causes ∧
      (feedbackTaken b level s).brs.releaseWait = s.brs.releaseWait ∧
      (level = .applied → (feedbackTaken b level s).brs.apply b = none) ∧
      (level = .released → s.brs.holdoff b = false →
        (feedbackTaken b level s).brs.apply b = timer (feedbackTaken b level s) s.params.brkFbTmo) := by
  have hother (o : Brake) (ho : o ≠ b) : ((heldInput b level s).brs.setFb level b).fb o = s.brs.fb o := by
    rw [Brs.fb_setFb_other _ ho]
    simp [heldInput]
  unfold feedbackTaken timerAtFeedback
  cases level with
  | applied => simpa [heldInput] using hother
  | released =>
    cases hoff : s.brs.holdoff b
    · simpa [heldInput, hoff, timer, startAt, State.params] using hother
    · simpa [heldInput, hoff] using hother

/-! ## The release wait looked at (R71) -/

theorem checkReleased_applied (h : s.brs.fb b = .applied) : checkReleased s = s := by
  unfold checkReleased
  refine if_neg fun ⟨_, _, hs, he⟩ => ?_
  cases b <;> simp_all [Brs.fb]

theorem checkReleased_idle (h : ¬ (s.trc.state = .release ∧ s.brs.releaseWait.isSome = true)) : checkReleased s = s :=
  if_neg fun ⟨hs, hw, _, _⟩ => h ⟨hs, hw⟩

theorem checkReleased_runs (hts : s.trc.state = .release) (hw : s.brs.releaseWait.isSome = true)
    (hfb : ∀ o, s.brs.fb o = .released) : checkReleased s = setTripState .running s := by
  unfold checkReleased
  rw [if_pos ⟨hts, hw, hfb .service, hfb .emergency⟩]
  exact enterRunning_lifted ⟨hfb .service, hfb .emergency⟩

theorem checkReleased_cases (s : State) : checkReleased s = s ∨ checkReleased s = setTripState .running s := by
  by_cases h : s.trc.state = .release ∧ s.brs.releaseWait.isSome = true ∧ s.brs.sbFb = .released ∧ s.brs.ebFb = .released
  · obtain ⟨hts, hw, hs, he⟩ := h
    exact .inr (checkReleased_runs hts hw fun o => by cases o; exacts [hs, he])
  · exact .inl (if_neg h)

theorem checkReleased_fb (o : Brake) : (checkReleased s).brs.fb o = s.brs.fb o := by
  rcases checkReleased_cases s with h | h
  · rw [h]
  · rw [h]
    cases o <;> simp [Brs.fb]

/-- A cause raised leaves the feedbacks. -/
theorem raiseCause_fb (c : Cause) (d : Detail) (o : Brake) : (raiseCause c d s).brs.fb o = s.brs.fb o := by
  by_cases hc : hasCause s c = true
  · simp [raiseCause, hc]
  · have hc : hasCause s c = false := by simpa using hc
    by_cases hr : s.brs.stage.rank < c.stage.rank
    · refine raiseCause_brs_keeps (P := fun r => r.fb o = s.brs.fb o) (fun u hu => ?_) (fun r _ _ hr => ?_) hc hr ?_
      · rw [← hu]
        cases o <;> rfl
      · rw [← hr]
        cases o <;> rfl
      · cases o <;> simp [causeTimed, addCause, Brs.fb]
    · rw [raiseCause_flat hc hr]
      cases o <;> simp [addCause, Brs.fb]

/-! ## O25 -/

theorem execBrakeFeedbackChange_run (hreset : s.pins.resetLow = false) (h : s.brs.fb b ≠ level) :
    exec (.brakeFeedbackChange b level) s = .next (finish s (takeFeedback b level (heldInput b level s))) :=
  event_acts (rfl : execBrakeFeedbackChange b level s = _) hreset (by simp [h])

/-- Settles O25. -/
theorem brakeFeedbackTaken : Obligations.BrakeFeedbackTaken := by
  unfold Obligations.BrakeFeedbackTaken
  refine ⟨fun b level s hh hne => ?changes, fun b level s hh he => ?same, fun b level s => ⟨_, rfl, rfl⟩⟩
  case same =>
    have heq : exec (.brakeFeedbackChange b level) s = .next (finish s s) :=
      event_acts (rfl : execBrakeFeedbackChange b level s = _) hh (if_pos he)
    exact ⟨_, heq, by simp [KeepsBut.refl]⟩
  case changes =>
    obtain ⟨hkeeps, hpins, hnow⟩ := feedbackTaken_frame b level s
    obtain ⟨hfb, hother, hcauses, hwait, happly, hstart⟩ := feedbackTaken_brs b level s
    have hk := hkeeps
    rw [keepsBut_iff] at hk
    simp at hk
    have hfbs (o : Brake) : (takeFeedback b level (heldInput b level s)).brs.fb o = (feedbackTaken b level s).brs.fb o := by
      rw [takeFeedback_eq]
      split
      · rw [raiseCause_fb, checkReleased_fb]
      · rw [checkReleased_fb]
    have hfinish (o : Brake) (v : State) : (finish s v).brs.fb o = v.brs.fb o := by simp
    refine ⟨_, execBrakeFeedbackChange_run hh hne, ?_, fun o ho => ?_, ?_, ?_, fun hl => ?_, fun hl hoff hno => ?_,
      fun hl hts hw hothers => ?_, fun hl hts => ?_, fun hl hts => ?_, ?_⟩
    · rw [hfinish, hfbs, hfb]
    · rw [hfinish, hfbs, hother o ho]
    · simp [heldInput]
    · simp [heldInput, Config.inputHoldMs]
    · have hidle : checkReleased (feedbackTaken b level s) = feedbackTaken b level s :=
        checkReleased_applied (hfb.trans hl)
      have hshows : ShowsApplied b (feedbackTaken b level s).brs := ⟨hfb.trans hl, happly hl⟩
      have hend : ShowsApplied b (takeFeedback b level (heldInput b level s)).brs := by
        rw [takeFeedback_eq, hidle]
        split
        · exact hshows.raiseCause _ _
        · exact hshows
      simpa using hend.2
    · have hidle : checkReleased (feedbackTaken b level s) = feedbackTaken b level s :=
        checkReleased_idle (by simpa [hk, hwait] using hno)
      rw [takeFeedback_eq, if_neg (by simp [hl]), hidle]
      simpa [timer, startAt] using hstart hl hoff
    · have hruns : checkReleased (feedbackTaken b level s) = setTripState .running (feedbackTaken b level s) := by
        refine checkReleased_runs (by simpa [hk] using hts) (by simpa [hwait] using hw) fun o => ?_
        by_cases ho : o = b
        · rw [ho, hfb, hl]
        · rw [hother o ho, hothers o ho]
      rw [takeFeedback_eq, if_neg (by simp [hl]), hruns]
      simp
    · have hidle : checkReleased (feedbackTaken b level s) = feedbackTaken b level s :=
        checkReleased_applied (hfb.trans hl)
      rw [takeFeedback_eq, hidle, if_pos ⟨hl, by simpa [hk] using hts⟩]
      have hraised := hasCause_raiseCause (feedbackTaken b level s) .brakeDrag (.brake b)
      exact (hasCause_congr _ (by simp)).trans hraised
    · have hidle : checkReleased (feedbackTaken b level s) = feedbackTaken b level s :=
        checkReleased_applied (hfb.trans hl)
      rw [takeFeedback_eq, hidle, if_neg fun h => hts (by simpa [hk] using h.2)]
      exact ⟨by simpa using hcauses, by simpa using hkeeps⟩
    · simp [keepsBut_iff, heldInput]

end Sys2Proof.Machine
end

section
/-! O52: the resets and the supply. -/

namespace Sys2Proof.Machine

variable {s t u : State}

/-! ## What each reset leaves -/

/-- Every reset leaves its blocks as their chapters give them, for the store it leaves. -/
theorem afterReset_resetBlocks (s : State) : AfterReset s (resetBlocks s) := by
  refine ⟨rfl, rfl, rfl, rfl, rfl, fun c => ?_, rfl, rfl⟩
  cases c <;> rfl

theorem AfterReset.of_blocks {s u t : State} (h : AfterReset u t) (hpending : u.pending = s.pending)
    (hnow : u.now = s.now) (hpins : u.pins = s.pins) : AfterReset s t := by
  simpa [AfterReset, hpending, hnow, hpins] using h

/-- The marks, the notices and the pins are not among the blocks that every reset leaves alike. -/
theorem AfterReset.congr (h : AfterReset s t) (hpending : u.pending = t.pending) (hnow : u.now = t.now)
    (hcfg : u.cfg = t.cfg) (hdri : u.dri = t.dri) (hlsu : u.lsu = t.lsu) (htrc : u.trc = t.trc) (hcru : u.cru = t.cru)
    (hpsu : u.psu = t.psu) (hbrs : u.brs = t.brs) : AfterReset s u := by
  simpa [AfterReset, State.params, hpending, hnow, hcfg, hdri, hlsu, htrc, hcru, hpsu, hbrs] using h

/-- A reset leaves an input at its level, and takes the dispatcher's line at the level of its input. -/
theorem pinsAtReset_eq (now : Nat) (p : Pins) :
    pinsAtReset now p = { p with dispatchLine := ⟨p.dispatchIn.level, now⟩ } := by
  simp [pinsAtReset, standing]

theorem afterReset_pinReset (s : State) : AfterReset s (pinReset s) :=
  ((afterReset_resetBlocks { s with
      cfg := cfgPowerOn, clc := clcPowerOn, adm := admReset []
      niu := keepIncidents { s.niu.resetCauses with pin := true } s.niu }).of_blocks rfl rfl rfl).congr
    rfl rfl rfl rfl rfl rfl rfl rfl rfl

theorem afterReset_resetPart (s : State) : AfterReset s (resetPart s) :=
  (afterReset_resetBlocks _).of_blocks rfl rfl rfl

/-- The ceiling and its thresholds after RESET PART of a committed store. -/
theorem clcResetPart_committed {cfg : Cfg} (clc : Clc) (h : cfg.committed = true) :
    clcResetPart cfg clc = clcAt cfg.params cfg.params.vcreep := by
  simp [clcResetPart, h]

theorem clcResetPart_uncommitted {cfg : Cfg} (clc : Clc) (h : cfg.committed = false) :
    clcResetPart cfg clc = { clc with vdrv := none, basis := none, d := none } := by
  simp [clcResetPart, h]

theorem mem_allSnapKinds (k : SnapKind) : k ∈ allSnapKinds := by cases k <;> decide

/-! ## The resets as commands -/

/-- Settles O52. -/
theorem resetsAndSupply : Obligations.ResetsAndSupply := by
  unfold Obligations.ResetsAndSupply
  refine ⟨fun s => ?powerOn, fun c s hc => ?pin, fun s hreset hline hstill => ?accepted,
    fun s hreset => ⟨fun hline => ?open_, fun hline hstill => ?moving⟩, fun s => ⟨rfl, rfl, rfl⟩, fun s hlow => ?down⟩
  case powerOn =>
    refine ⟨_, rfl, ?_, rfl, rfl, rfl, rfl, rfl, ?_⟩
    · exact ((afterReset_resetBlocks { s with
        cfg := cfgPowerOn, clc := clcPowerOn, adm := admReset [], niu := niuPowerOn }).of_blocks rfl rfl rfl).congr
          rfl rfl rfl rfl rfl rfl rfl rfl rfl
    · simp [resetCleared, resetBlocks, pinsAtReset_eq]
  case pin =>
    have hexec : exec c s = .next (pinReset s) := by obtain rfl | rfl := hc <;> rfl
    refine ⟨_, hexec, afterReset_pinReset s, rfl, rfl, rfl, rfl, rfl, rfl, rfl, rfl, rfl, ?_⟩
    simp [pinReset, resetCleared, resetBlocks, pinsAtReset_eq]
  case accepted =>
    refine ⟨_, request_answer (r := .resetPart) ⟨hreset, rfl⟩ (takeResetPart_accepted hline hstill),
      by simp, rfl, (afterReset_resetPart s).congr rfl rfl rfl rfl rfl rfl rfl rfl rfl, rfl, ?_, rfl, fun hcom => ?_,
      fun hcom => ?_, fun other => ⟨?_, ?_, fun k => ?_⟩, rfl, rfl, rfl, rfl, rfl, ?_⟩
    · simp [resetPart, resetBlocks, admReset, laneOpReset]
    · exact (clcResetPart_committed s.clc hcom).trans rfl
    · exact clcResetPart_uncommitted s.clc hcom
    · cases other <;> rfl
    · cases other <;> rfl
    · rw [mem_replyTo_fresh]
      refine .inl ?_
      have hall : (resetPart s).lbp.fresh.get other = allSnapKinds := by cases other <;> rfl
      exact hall ▸ mem_allSnapKinds k
    · simp [resetPart, resetBlocks, pinsAtReset_eq]
  case open_ =>
    exact request_refused (r := .resetPart) takeResetPart ⟨hreset, rfl⟩ ()
      (by simp [takeResetPart, hline, deny, refuse])
  case moving =>
    exact request_refused (r := .resetPart) takeResetPart ⟨hreset, rfl⟩ ()
      (by simp [takeResetPart, hline, hstill, deny, refuse])
  case down =>
    have hdown : outputsDown s = true := by simpa [outputsDown] using hlow
    exact ⟨by simp [outputPins, hdown], fun st => by simp [attentionLine, hdown]⟩

end Sys2Proof.Machine
end

section
/-! Causes raised one after another, as the checks of a sample and of a poll raise them: what they add to the cause set,
and what they leave of the trip (R62, R103, R104). -/

namespace Sys2Proof.Machine

variable {s t u : State} {L L' : List Cause} {c : Cause}

/-! ## The trip at a rise of the stage -/

theorem isMoving_abortState (s : State) : isMoving (abortState s) = false := by
  unfold abortState
  split <;> rfl

/-- A trip that moves goes on moving, in BRAKING; one that has not run is aborted to a state that does not move. -/
theorem isMoving_riseState (s : State) : isMoving (riseState s) = isMoving s.trc.state := by
  unfold riseState
  split
  case h_1 hs | h_2 hs | h_3 hs => rw [hs, isMoving_abortState]; rfl
  case h_4 hs | h_5 hs | h_6 hs => rw [hs]; rfl
  case h_7 => rfl

theorem setTripState_heldCount (new : TripState) :
    (setTripState new s).psu.heldCount =
      if isMoving s.trc.state = true ∧ isMoving new = false ∧ s.psu.still = true then s.psu.count
      else s.psu.heldCount := by
  rw [setTripState_psu]
  simp [psuOnTrip]

theorem abortTrip_heldCount (h : isMoving s.trc.state = false) (cause : AbortCause) :
    (abortTrip cause s).psu.heldCount = s.psu.heldCount := by
  unfold abortTrip
  dsimp only
  cases ho : s.trc.trip.origin <;> simp [ho, resumedDwell, zeroMismatch, setTripState_heldCount, h]

theorem setTripState_braking_run (s : State) :
    (setTripState .braking s).trc.trip = s.trc.trip ∧ (setTripState .braking s).clc = s.clc := by
  refine ⟨by simp [setTripState_trip], ?_⟩
  simp [setTripState, clcOnTrip, isMoving]

theorem tripOnRise_heldCount (s : State) : (tripOnRise s).psu.heldCount = s.psu.heldCount := by
  unfold tripOnRise
  split
  case h_1 hs | h_2 hs | h_3 hs => simpa using abortTrip_heldCount (by simp [hs, isMoving]) .brake
  case h_4 | h_5 | h_6 => simp [setTripState_heldCount, isMoving]
  case h_7 => rfl

/-- A trip that moves keeps its record, its basis and its distance at a rise. -/
theorem tripOnRise_run (h : isMoving s.trc.state = true) :
    (tripOnRise s).trc.trip = s.trc.trip ∧ (tripOnRise s).clc = s.clc := by
  unfold tripOnRise
  split
  case h_1 hs | h_2 hs | h_3 hs => simp [hs, isMoving] at h
  case h_4 | h_5 | h_6 => exact setTripState_braking_run s
  case h_7 => exact ⟨rfl, rfl⟩

theorem inFlight_riseState_false (h : inFlight s.trc.state = false) : inFlight (riseState s) = false := by
  unfold riseState
  split <;> simp_all [inFlight]

theorem tripOnRise_mode (s : State) : (tripOnRise s).trc.trip.mode = s.trc.trip.mode := by
  unfold tripOnRise
  split <;> simp [setTripState_trip]

theorem setTripState_d (new : TripState) : (setTripState new s).clc.d = s.clc.d := by
  simp only [setTripState, noteWindows_frame, admOnTrip_frame, driOnTrip_frame, clcOnTrip]
  split <;> simp

theorem tripOnRise_d (s : State) : (tripOnRise s).clc.d = s.clc.d := by
  have habort : (pendingsUnderStage (abortTrip .brake s)).clc.d = s.clc.d := by
    simp only [pendingsUnderStage_frame, abortTrip, freeSlots, State.onTrip_trc]
    split <;> simp [zeroMismatch, resumedDwell, setTripState_d]
  unfold tripOnRise
  split
  case h_1 | h_2 | h_3 => exact habort
  case h_4 | h_5 | h_6 => exact setTripState_d _
  case h_7 => rfl

/-! ## Causes raised -/

/-- The notices that the checks of a sample and of a poll hand. -/
def checkKinds : List NoticeKind := .overspeedWarn :: .passengerAlarm :: (causeKinds ++ riseKinds)

theorem told_raiseCause_checks (c : Cause) (d : Detail) (s : State) : Told checkKinds s (raiseCause c d s) :=
  (told_raiseCause c d s).mono (by simp [checkKinds])

/-- The causes a part of a command raises, all of them in `L`: what joins the set, and what goes on as it was where none
joins it. -/
structure Raises (L : List Cause) (s t : State) : Prop where
  /-- No cause leaves the set. -/
  kept : s.brs.causes ⊆ t.brs.causes
  /-- Causes out of `L` do not join it. -/
  only : ∀ c, c ∉ L → hasCause t c = hasCause s c
  /-- Where one joins, one of `L` is new. -/
  new : t.brs.causes ≠ s.brs.causes → ∃ c ∈ L, hasCause s c = false ∧ hasCause t c = true
  /-- Where none joins, the stage, the trip, the ceiling and the loads stay. -/
  calm : t.brs.causes = s.brs.causes →
    t.brs.stage = s.brs.stage ∧ t.trc = s.trc ∧ t.clc = s.clc ∧ t.adm = s.adm
  /-- Where one joins, a stage stands. -/
  none : t.brs.stage = .none → t.brs.causes = s.brs.causes
  stage : s.brs.stage.rank ≤ t.brs.stage.rank
  inv : StageInv s → StageInv t
  moving : isMoving t.trc.state = isMoving s.trc.state
  run : isMoving s.trc.state = true → t.trc.trip = s.trc.trip ∧ t.clc = s.clc
  dist : t.clc.d = s.clc.d
  held : t.psu.heldCount = s.psu.heldCount
  flight : inFlight s.trc.state = false → inFlight t.trc.state = false
  mode : t.trc.trip.mode = s.trc.trip.mode
  still : t.psu.still = s.psu.still
  /-- The effectiveness monitor goes on while the stage is SERVICE. -/
  watch : s.brs.stage = .service → t.brs.stage = .service → t.brs.effectiveness = s.brs.effectiveness
  /-- None starts at standstill. -/
  ended : s.psu.still = true → s.brs.effectiveness = .none → t.brs.effectiveness = .none
  told : Told checkKinds s t

/-- Parts that raise nothing and leave what a rise could change. -/
theorem Raises.of_same
    (hbrs : t.brs.causes = s.brs.causes ∧ t.brs.stage = s.brs.stage ∧ t.brs.effectiveness = s.brs.effectiveness)
    (htrc : t.trc = s.trc) (hclc : t.clc = s.clc) (hadm : t.adm = s.adm) (hstill : t.psu.still = s.psu.still)
    (hheld : t.psu.heldCount = s.psu.heldCount) (htold : Told checkKinds s t) : Raises L s t where
  kept := by rw [hbrs.1]; exact List.Subset.refl _
  only := fun _ _ => by simp [hasCause, hbrs.1]
  new := fun h => absurd hbrs.1 h
  calm := fun _ => ⟨hbrs.2.1, htrc, hclc, hadm⟩
  none := fun _ => hbrs.1
  stage := by rw [hbrs.2.1]
  inv := by simp [StageInv, hbrs.1, hbrs.2.1]
  moving := by rw [htrc]
  run := fun _ => ⟨by rw [htrc], hclc⟩
  dist := by rw [hclc]
  held := hheld
  flight := by rw [htrc]; exact id
  mode := by rw [htrc]
  still := hstill
  watch := fun _ _ => hbrs.2.2
  ended := fun _ he => hbrs.2.2.trans he
  told := htold

theorem Raises.refl (s : State) : Raises L s s := .of_same ⟨rfl, rfl, rfl⟩ rfl rfl rfl rfl rfl (.refl s)

theorem Raises.mono (h : Raises L s t) (hL : L ⊆ L') : Raises L' s t :=
  { h with
    only := fun c hc => h.only c fun hm => hc (hL hm)
    new := fun hne => by
      obtain ⟨c, hc, hs, ht⟩ := h.new hne
      exact ⟨c, hL hc, hs, ht⟩ }

theorem Raises.has (h : Raises L s t) (hc : hasCause s c = true) : hasCause t c = true := hasCause_of_subset h.kept hc

theorem Raises.trans (h : Raises L s t) (h' : Raises L t u) : Raises L s u := by
  have hfirst (he : u.brs.causes = s.brs.causes) : t.brs.causes = s.brs.causes := by
    by_contra hne
    obtain ⟨c, -, hs, ht⟩ := h.new hne
    have hu : hasCause u c = hasCause s c := by simp [hasCause, he]
    rw [h'.has ht, hs] at hu
    cases hu
  exact
    { kept := fun _ hx => h'.kept (h.kept hx)
      only := fun c hc => (h'.only c hc).trans (h.only c hc)
      new := fun hne => by
        by_cases ht : t.brs.causes = s.brs.causes
        · obtain ⟨c, hc, hs, hu⟩ := h'.new (by rwa [ht])
          exact ⟨c, hc, by simpa [hasCause, ht] using hs, hu⟩
        · obtain ⟨c, hc, hs, hct⟩ := h.new ht
          exact ⟨c, hc, hs, h'.has hct⟩
      calm := fun he => by
        have ht := hfirst he
        obtain ⟨a, b, c, d⟩ := h.calm ht
        obtain ⟨a', b', c', d'⟩ := h'.calm (he.trans ht.symm)
        exact ⟨a'.trans a, b'.trans b, c'.trans c, d'.trans d⟩
      none := fun hn => by
        have hu := h'.none hn
        exact hu.trans (h.none ((h'.calm hu).1.symm.trans hn))
      stage := h.stage.trans h'.stage
      inv := h'.inv ∘ h.inv
      moving := h'.moving.trans h.moving
      run := fun hm => by
        obtain ⟨a, b⟩ := h.run hm
        obtain ⟨a', b'⟩ := h'.run (h.moving.trans hm)
        exact ⟨a'.trans a, b'.trans b⟩
      dist := h'.dist.trans h.dist
      held := h'.held.trans h.held
      flight := h'.flight ∘ h.flight
      mode := h'.mode.trans h.mode
      still := h'.still.trans h.still
      watch := fun hs hu => by
        have ht : t.brs.stage = .service := by
          have hst := h.stage
          have htu := h'.stage
          rw [hs] at hst
          rw [hu] at htu
          cases ht : t.brs.stage <;> simp_all [Stage.rank]
        exact (h'.watch ht hu).trans (h.watch hs ht)
      ended := fun hs he => h'.ended (h.still.trans hs) (h.ended hs he)
      told := h.told.trans h'.told }

theorem Raises.ite {p : Prop} [Decidable p] (ht : p → Raises L s t) (hu : ¬ p → Raises L s u) :
    Raises L s (if p then t else u) := by
  split
  next hp => exact ht hp
  next hp => exact hu hp

/-- Where every cause of `L` stands as it stood, none has joined. -/
theorem Raises.unchanged (h : Raises L s t) (hL : ∀ c ∈ L, hasCause t c = hasCause s c) :
    t.brs.causes = s.brs.causes := by
  by_contra hne
  obtain ⟨c, hc, hs, ht⟩ := h.new hne
  simp [hL c hc, hs] at ht

/-- Every cause calls for a stage (R61). -/
theorem Cause.stage_ne_none (c : Cause) : c.stage ≠ .none := by cases c <;> simp [Cause.stage]

/-- A cause raised (R62). -/
theorem raises_raiseCause (hL : c ∈ L) (d : Detail) (s : State) : Raises L s (raiseCause c d s) := by
  by_cases hhas : hasCause s c = true
  · rw [show raiseCause c d s = s by simp [raiseCause, hhas]]
    exact .refl s
  have hc : hasCause s c = false := by simpa using hhas
  have hcauses := raiseCause_causes hc d
  have hhas' : hasCause (raiseCause c d s) c = true := by simp [hasCause, hcauses]
  have hne : (raiseCause c d s).brs.causes ≠ s.brs.causes := by simp [hcauses]
  have hstage := raiseCause_stage c d s
  refine ⟨causes_subset_raiseCause c d s, fun x hx => ?_, fun _ => ⟨c, hL, hc, hhas'⟩, fun h => absurd h hne,
    fun hn => ?_, ?_, fun hi => ?_, ?_, fun hm => ?_, ?_, ?_, fun hf => ?_, ?_, by simp, fun hs ht => ?_,
    fun hs he => ?_, told_raiseCause_checks c d s⟩
  · have hcx : c ≠ x := fun he => hx (he ▸ hL)
    simp [hasCause, hcauses, hcx]
  · rw [hn] at hstage
    split at hstage
    next => exact absurd hstage.symm c.stage_ne_none
    next hr =>
      refine absurd ⟨hc, ?_⟩ hr
      rw [← hstage]
      have hs := c.stage_ne_none
      cases h : c.stage <;> simp_all [Stage.rank]
  · rw [hstage]
    split
    next hr => exact Nat.le_of_lt hr.2
    next => exact Nat.le_refl _
  · have hadd := stageInv_addCause hi hc d
    have hst : (raiseCause c d s).brs.stage = (s.onBrs (addCause c d)).brs.stage := by simp [hstage, hc, addCause]
    have hca : (raiseCause c d s).brs.causes = (s.onBrs (addCause c d)).brs.causes := by simp [hcauses, addCause]
    unfold StageInv at hadd ⊢
    rwa [hst, hca]
  · by_cases hr : s.brs.stage.rank < c.stage.rank
    · rw [raiseCause_rise hc hr, tripOnRise_state, isMoving_riseState, (risen_frame c d s).2.2.2.2.2.1]
    · simp [raiseCause_flat hc hr]
  · by_cases hr : s.brs.stage.rank < c.stage.rank
    · obtain ⟨htrip, hclc⟩ := tripOnRise_run (s := risen c d s) (by simpa using hm)
      rw [raiseCause_rise hc hr, htrip, hclc]
      simp [risen, causeTimed]
    · simp [raiseCause_flat hc hr]
  · by_cases hr : s.brs.stage.rank < c.stage.rank
    · rw [raiseCause_rise hc hr, tripOnRise_d]
      simp [risen, causeTimed]
    · simp [raiseCause_flat hc hr]
  · by_cases hr : s.brs.stage.rank < c.stage.rank
    · simp [raiseCause_rise hc hr, tripOnRise_heldCount]
    · simp [raiseCause_flat hc hr]
  · by_cases hr : s.brs.stage.rank < c.stage.rank
    · rw [raiseCause_rise hc hr, tripOnRise_state]
      exact inFlight_riseState_false (by simpa using hf)
    · simpa [raiseCause_flat hc hr] using hf
  · by_cases hr : s.brs.stage.rank < c.stage.rank
    · rw [raiseCause_rise hc hr, tripOnRise_mode, (risen_frame c d s).2.2.2.2.2.1]
    · simp [raiseCause_flat hc hr]
  · by_cases hr : s.brs.stage.rank < c.stage.rank
    · rw [ht, if_pos ⟨hc, hr⟩] at hstage
      simp [hs, ← hstage] at hr
    · simp [raiseCause_flat hc hr, addCause]
  · by_cases hr : s.brs.stage.rank < c.stage.rank
    · obtain ⟨-, -, -, hem, hse, -⟩ := raiseCause_rises hc hr d
      cases hcs : c.stage with
      | none => exact absurd hcs c.stage_ne_none
      | service => rw [hse hcs, if_pos hs, he]
      | emergency => exact hem hcs
    · simp [raiseCause_flat hc hr, addCause, he]

/-- A cause raised is in the set, with its detail where it was not there before. -/
theorem raisedWith_raiseCause (c : Cause) (d : Detail) (s : State) : RaisedWith c d s (raiseCause c d s) := by
  by_cases hc : hasCause s c = true
  · exact ⟨by simp [raiseCause, hc], fun h => by simp [h] at hc⟩
  · have hc : hasCause s c = false := by simpa using hc
    have hcauses := raiseCause_causes hc d
    exact ⟨by simp [hasCause, hcauses], fun _ => by simp [hcauses]⟩

/-- A cause raised between others stays raised. -/
theorem RaisedWith.within {d : Detail} {v : State} (h : RaisedWith c d s t) (hb : Raises L u s) (hc : c ∉ L)
    (ha : Raises L' t v) : RaisedWith c d u v := by
  obtain ⟨hhas, hnew⟩ := h
  exact ⟨ha.has hhas, fun hu => ha.kept (hnew ((hb.only c hc).trans hu))⟩

/-- In a set whose stage is what its causes call for, a cause's stage stands. -/
theorem stage_of_hasCause (h : StageInv s) (hc : hasCause s c = true) : c.stage.rank ≤ s.brs.stage.rank := by
  obtain ⟨-, hrank⟩ := h
  rw [hrank]
  unfold hasCause at hc
  generalize s.brs.causes = l at hc
  induction l with
  | nil => simp at hc
  | cons x l ih =>
    simp only [List.any_cons, Bool.or_eq_true, decide_eq_true_eq] at hc
    simp only [List.map_cons, List.foldr_cons]
    rcases hc with rfl | hc
    · exact Nat.le_max_left _ _
    · exact (ih hc).trans (Nat.le_max_right _ _)

/-- An EMERGENCY cause in such a set calls for the stage EMERGENCY. -/
theorem stage_emergency_of_hasCause (h : StageInv s) (he : c.stage = .emergency) (hc : hasCause s c = true) :
    s.brs.stage = .emergency := by
  have hr := stage_of_hasCause h hc
  cases hs : s.brs.stage <;> simp_all [Stage.rank]

end Sys2Proof.Machine
end

section
/-! The terms of the ceiling (R48 to R55) and the least of them. -/

namespace Sys2Proof.Machine

variable {s t u : State}

/-! ## The integer square root (R49) -/

theorem isRoot_unique {x r q : Nat} (hr : IsRoot x r) (hq : IsRoot x q) : r = q := by
  obtain ⟨hr0, hr1⟩ := hr
  obtain ⟨hq0, hq1⟩ := hq
  have hrq : r < q + 1 := Nat.mul_self_lt_mul_self_iff.mp (hr0.trans_lt hq1)
  have hqr : q < r + 1 := Nat.mul_self_lt_mul_self_iff.mp (hq0.trans_lt hr1)
  omega

/-- The search adds one bit at a time, from the highest on. -/
theorem isRoot_isqrtGo {x : Nat} (n r : Nat) (hlo : r * r ≤ x) (hhi : x < (r + 2 ^ n) * (r + 2 ^ n)) :
    IsRoot x (isqrtGo x n r) := by
  induction n generalizing r with
  | zero => exact ⟨hlo, hhi⟩
  | succ n ih =>
    unfold isqrtGo
    have hsum : r + 2 ^ (n + 1) = r + 2 ^ n + 2 ^ n := by rw [Nat.pow_succ]; omega
    split
    next h => exact ih _ h (hsum ▸ hhi)
    next h => exact ih _ hlo (Nat.lt_of_not_le h)

theorem isRoot_isqrt (x : Nat) : IsRoot x (isqrt x) := by
  refine isRoot_isqrtGo _ 0 (Nat.zero_le _) ?_
  have hlog : x < 2 ^ (x.log2 + 1) := Nat.lt_log2_self
  have hpow : 2 ^ (x.log2 + 1) ≤ 2 ^ (x.log2 / 2 + 1 + (x.log2 / 2 + 1)) := Nat.pow_le_pow_right (by decide) (by omega)
  rw [Nat.zero_add, ← Nat.pow_add]
  omega

theorem isRoot_iff (x r : Nat) : IsRoot x r ↔ r = isqrt x :=
  ⟨fun h => isRoot_unique h (isRoot_isqrt x), fun h => h ▸ isRoot_isqrt x⟩

/-! ## The segment at P (R50) -/

/-- In a profile in order the segment found is the last that starts at or below P. -/
theorem segmentFrom_spec (p : Int) (cur : Segment) (l : List Segment) (hcur : (cur.start : Int) ≤ max p 0)
    (hsort : (cur :: l).Pairwise fun t u => t.start < u.start) :
    segmentFrom p cur l ∈ cur :: l ∧ ((segmentFrom p cur l).start : Int) ≤ max p 0 ∧
      ∀ h ∈ cur :: l, (h.start : Int) ≤ max p 0 → h.start ≤ (segmentFrom p cur l).start := by
  induction l generalizing cur with
  | nil => simp [segmentFrom, hcur]
  | cons x l ih =>
    obtain ⟨hx, hrest⟩ := List.pairwise_cons.mp hsort
    unfold segmentFrom
    split
    next h =>
      obtain ⟨hm, hle, hmax⟩ := ih x h hrest
      refine ⟨List.mem_cons_of_mem _ hm, hle, fun y hy hyp => ?_⟩
      rcases List.mem_cons.mp hy with rfl | hy
      · have := hmax x (by simp) h
        have := hx x (by simp)
        omega
      · exact hmax y hy hyp
    next h =>
      refine ⟨by simp, hcur, fun y hy hyp => ?_⟩
      rcases List.mem_cons.mp hy with rfl | hy
      · exact Nat.le_refl _
      · exfalso
        rcases List.mem_cons.mp hy with rfl | hy
        · exact h hyp
        · have := (List.pairwise_cons.mp hrest).1 y hy
          omega

theorem segmentTerm_iff (h : CommitCheck s 2) (x : Nat) :
    SegmentTerm s x ↔ segmentLimit s.cfg.profile (pos s) = some x := by
  obtain ⟨hhead, hsort, -⟩ := h
  unfold SegmentTerm segmentLimit
  cases hp : s.cfg.profile with
  | nil => simp
  | cons g l =>
    rw [hp] at hsort hhead
    have hg : g.start = 0 := by simpa using hhead
    obtain ⟨hm, hle, hmax⟩ := segmentFrom_spec (pos s) g l (by omega) hsort
    simp only [Option.some.injEq]
    constructor
    · rintro ⟨y, hy, rfl, hyle, hymax⟩
      have heq : y.start = (segmentFrom (pos s) g l).start :=
        Nat.le_antisymm (hmax y hy hyle) (hymax _ hm hle)
      have hnodup : ((g :: l).map (·.start)).Nodup :=
        List.pairwise_map.mpr (hsort.imp Nat.ne_of_lt)
      rw [List.inj_on_of_nodup_map hnodup hy hm heq]
    · rintro rfl
      exact ⟨_, hm, rfl, hle, hmax⟩

/-! ## The segments ahead (R51) -/

theorem mem_aheadUp (aEff tpos : Nat) (p : Int) (l : List Segment) (x : Nat) :
    x ∈ aheadUp aEff tpos p l ↔
      ∃ g ∈ l, p < g.start ∧ g.start ≤ tpos ∧
        ∃ r, IsRoot (2 * aEff * ((g.start : Int) - p).toNat) r ∧ x = g.limit + r := by
  simp only [aheadUp, List.mem_map, List.mem_filter, decide_eq_true_eq, isRoot_iff, exists_eq_left, and_assoc]
  refine exists_congr fun g => and_congr_right fun _ => and_congr_right fun hlt => and_congr_right fun _ => ?_
  rw [show ((g.start : Int) - p).natAbs = ((g.start : Int) - p).toNat by omega, eq_comm]

theorem aheadDown_cons (aEff tpos : Nat) (p : Int) (t u : Segment) (rest : List Segment) :
    aheadDown aEff tpos p (t :: u :: rest) =
      if (tpos : Int) ≤ u.start ∧ (u.start : Int) < p then
        (t.limit + isqrt (2 * aEff * ((u.start : Int) - p).natAbs)) :: aheadDown aEff tpos p (u :: rest)
      else aheadDown aEff tpos p (u :: rest) := rfl

theorem mem_aheadDown (aEff tpos : Nat) (p : Int) (l : List Segment) (x : Nat) :
    x ∈ aheadDown aEff tpos p l ↔
      ∃ j g h, l[j]? = some g ∧ l[j + 1]? = some h ∧ (h.start : Int) < p ∧ tpos ≤ h.start ∧
        ∃ r, IsRoot (2 * aEff * (p - h.start).toNat) r ∧ x = g.limit + r := by
  induction l with
  | nil => simp [aheadDown]
  | cons t l ih =>
    cases l with
    | nil =>
      simp only [aheadDown, List.not_mem_nil, false_iff]
      rintro ⟨j, g, h, -, hj, -⟩
      simp at hj
    | cons u rest =>
      have hsplit : (∃ j g h, (t :: u :: rest)[j]? = some g ∧ (t :: u :: rest)[j + 1]? = some h ∧
          (h.start : Int) < p ∧ tpos ≤ h.start ∧
            ∃ r, IsRoot (2 * aEff * (p - h.start).toNat) r ∧ x = g.limit + r) ↔
          ((u.start : Int) < p ∧ tpos ≤ u.start ∧ x = t.limit + isqrt (2 * aEff * (p - u.start).toNat)) ∨
            x ∈ aheadDown aEff tpos p (u :: rest) := by
        rw [ih]
        constructor
        · rintro ⟨j, g, h, hg, hh, hrest⟩
          cases j with
          | zero =>
            simp only [List.getElem?_cons_zero, List.getElem?_cons_succ, Option.some.injEq, zero_add] at hg hh
            subst hg hh
            simpa [isRoot_iff] using Or.inl hrest
          | succ j => exact .inr ⟨j, g, h, by simpa using hg, by simpa using hh, hrest⟩
        · rintro (⟨hlt, hle, rfl⟩ | ⟨j, g, h, hg, hh, hrest⟩)
          · exact ⟨0, t, u, rfl, rfl, hlt, hle, _, isRoot_isqrt _, rfl⟩
          · exact ⟨j + 1, g, h, by simpa using hg, by simpa using hh, hrest⟩
      rw [hsplit, aheadDown_cons]
      split
      next hc =>
        obtain ⟨hle, hlt⟩ := hc
        have hle' : tpos ≤ u.start := by omega
        simp [hle', hlt, show ((u.start : Int) - p).natAbs = (p - u.start).toNat by omega]
      next hc =>
        have hno : ¬ ((u.start : Int) < p ∧ tpos ≤ u.start) := fun ⟨h1, h2⟩ => hc ⟨by omega, h1⟩
        simp only [← and_assoc, hno, false_and, false_or]

theorem aheadTerm_iff (dir : TripDir) (aEff tpos x : Nat) :
    AheadTerm s dir aEff tpos x ↔ x ∈ aheadTerms dir aEff tpos (pos s) s.cfg.profile := by
  cases dir with
  | upA => exact (mem_aheadUp aEff tpos (pos s) s.cfg.profile x).symm
  | downA => exact (mem_aheadDown aEff tpos (pos s) s.cfg.profile x).symm

/-! ## The least of the terms (R54) -/

theorem curveTerm_iff (dir : TripDir) (aEff tpos x : Nat) :
    CurveTerm s dir aEff tpos x ↔ x = brakingCurve s.params.vcreep aEff (distanceToGo dir (pos s) tpos) := by
  cases dir <;> simp [CurveTerm, isRoot_iff, brakingCurve, distanceToGo]

/-- The terms of a ceiling on the PROFILE basis, as the model lists them. -/
theorem ceilingTerm_iff (h : CommitCheck s 2) (mode : Mode) (dir : TripDir) (aEff tpos x : Nat) :
    CeilingTerm s mode dir aEff tpos x ↔
      x ∈ (segmentLimit s.cfg.profile (pos s)).toList ++ aheadTerms dir aEff tpos (pos s) s.cfg.profile ∨
        x = brakingCurve s.params.vcreep aEff (distanceToGo dir (pos s) tpos) ∨
        x = modeCap s.params mode ∨ x = driveLimit s.params s.clc.vdrv := by
  unfold CeilingTerm
  rw [segmentTerm_iff h, aheadTerm_iff, curveTerm_iff, List.mem_append, Option.mem_toList, or_assoc]
  cases mode <;> rfl

theorem foldr_min_le (own : Nat) (l : List Nat) : l.foldr min own ≤ own ∧ ∀ x ∈ l, l.foldr min own ≤ x := by
  induction l with
  | nil => simp
  | cons a l ih =>
    obtain ⟨hown, hl⟩ := ih
    refine ⟨(Nat.min_le_right _ _).trans hown, fun x hx => ?_⟩
    rcases List.mem_cons.mp hx with rfl | hx
    · exact Nat.min_le_left _ _
    · exact (Nat.min_le_right _ _).trans (hl x hx)

theorem foldr_min_mem (own : Nat) (l : List Nat) : l.foldr min own = own ∨ l.foldr min own ∈ l := by
  induction l with
  | nil => simp
  | cons a l ih =>
    rcases Nat.le_total a (l.foldr min own) with h | h
    · exact .inr (by simp [Nat.min_eq_left h])
    · rw [List.foldr_cons, Nat.min_eq_right h]
      exact ih.imp_right (List.mem_cons_of_mem a)

/-- The ceiling on the PROFILE basis is the least of its terms, but at least VCREEP. -/
theorem ceilingProfile_least (h : CommitCheck s 2) (mode : Mode) (dir : TripDir) (aEff tpos : Nat) :
    (∃ x, CeilingTerm s mode dir aEff tpos x ∧
      ceilingProfile s.params s.cfg.profile mode dir aEff tpos s.clc.vdrv (pos s) = max s.params.vcreep x) ∧
    ∀ x, CeilingTerm s mode dir aEff tpos x →
      ceilingProfile s.params s.cfg.profile mode dir aEff tpos s.clc.vdrv (pos s) ≤ max s.params.vcreep x := by
  simp only [ceilingTerm_iff h, ceilingProfile]
  generalize (segmentLimit s.cfg.profile (pos s)).toList ++ aheadTerms dir aEff tpos (pos s) s.cfg.profile = terms
  generalize brakingCurve s.params.vcreep aEff (distanceToGo dir (pos s) tpos) = curve
  generalize modeCap s.params mode = cap
  generalize driveLimit s.params s.clc.vdrv = drv
  obtain ⟨hown, hle⟩ := foldr_min_le (min curve (min cap drv)) terms
  refine ⟨⟨terms.foldr min (min curve (min cap drv)), ?_, rfl⟩, fun x hx => max_le_max (Nat.le_refl _) ?_⟩
  · rcases foldr_min_mem (min curve (min cap drv)) terms with he | hm
    · rw [he]
      omega
    · exact .inl hm
  · rcases hx with hx | hx
    · exact hle x hx
    · omega

end Sys2Proof.Machine
end

section
/-! The steps of a speed sample (R28, R65, R102): what each reads and raises. -/

namespace Sys2Proof.Machine

variable {s t u : State} {L : List Cause}

/-! ## What the checks of a sample raise -/

theorem told_hand_fault (d : NoticeDetail) (cause : IncidentCause) (s : State) :
    Told checkKinds s (hand .fault d [.drv, .con] (capture cause s)) :=
  ((told_capture cause s).mono (by intro k hk; simp_all [checkKinds, causeKinds])).hand
    (by simp [checkKinds, causeKinds]) _ _

theorem raises_takeFurthest (s : State) : Raises L s (takeFurthest s) := by
  apply Raises.of_same <;> simp [Told.of_same]

theorem raises_setArmed (m : Monitor) (v : Bool) (s : State) : Raises L s (setArmed m v s) := by
  apply Raises.of_same <;> simp [Told.of_same]

theorem raises_runMonitor {m : Monitor} (hm : m.cause ∈ L) (s : State) : Raises L s (runMonitor m s) :=
  .ite (fun _ => .ite (fun _ => (raises_setArmed m false s).trans (raises_raiseCause hm _ _)) (fun _ => .refl s))
    (fun _ => raises_setArmed m true s)

theorem raises_expectBeyond (c : Car) (x : Int) (s : State) : Raises L s (expectBeyond c x s) := by
  apply Raises.of_same <;> simp [Told.of_same]

theorem raises_missMarker (hL : .markerMissed ∈ L) (c : Car) (m : Nat) (s : State) :
    Raises L s (missMarker c m s) := by
  have hfault : Raises L s (hand .fault (.fault .markerMissed (.marker c m)) [.drv, .con]
      (capture (.cause .markerMissed) s)) := by
    apply Raises.of_same <;> simp [told_hand_fault]
  exact (Raises.ite (fun _ => raises_raiseCause hL _ s) (fun _ => hfault)).trans (raises_expectBeyond _ _ _)

theorem raises_checkMissed (hL : .markerMissed ∈ L) (c : Car) (s : State) : Raises L s (checkMissed c s) := by
  unfold checkMissed
  split
  · exact .ite (fun _ => raises_missMarker hL c _ s) (fun _ => .refl s)
  · exact .refl s

/-- The causes that the monitors of a sample raise. -/
def monitorCauses : List Cause := [.rollback, .unintendedMotion, .overtravel, .overshoot, .markerMissed]

theorem raises_runMonitors (s : State) : Raises monitorCauses s (runMonitors s) :=
  ((((((raises_takeFurthest s).trans (raises_runMonitor (m := .rollback) (by decide) _)).trans
    (raises_runMonitor (m := .unintended) (by decide) _)).trans
    (raises_runMonitor (m := .overtravel) (by decide) _)).trans
    (raises_runMonitor (m := .overshoot) (by decide) _)).trans
    (raises_checkMissed (by decide) .a _)).trans (raises_checkMissed (by decide) .b _)

theorem raises_checkE (hL : .overspeedEmergency ∈ L) (s : State) : Raises L s (checkE s) :=
  .ite (fun _ => raises_raiseCause hL _ s) (fun _ => .refl s)

theorem raises_overspeedCount (n : Nat) (s : State) : Raises L s (s.onBrs fun b => { b with overspeedCount := n }) :=
  .of_same ⟨rfl, rfl, rfl⟩ rfl rfl rfl rfl rfl (.of_same rfl)

theorem raises_checkS (hL : .overspeedService ∈ L) (s : State) : Raises L s (checkS s) :=
  .ite (fun _ => .ite (fun _ => (raises_overspeedCount _ s).trans (raises_raiseCause hL _ _))
    (fun _ => raises_overspeedCount _ s)) (fun _ => raises_overspeedCount 0 s)

theorem raises_checkEffectiveness (hL : .sbIneffective ∈ L) (s : State) : Raises L s (checkEffectiveness s) := by
  unfold checkEffectiveness
  split
  · exact .refl s
  · exact .ite (fun _ => raises_raiseCause hL _ s) (fun _ => .refl s)

theorem raises_checkWarning (s : State) : Raises L s (checkWarning s) := by
  have hset (v : Bool) : Raises L s (s.onBrs fun b => { b with warnArmed := v }) :=
    .of_same ⟨rfl, rfl, rfl⟩ rfl rfl rfl rfl rfl (.of_same rfl)
  have htold (d : NoticeDetail) (w : State) : Raises L w (hand .overspeedWarn d [.drv] w) := by
    apply Raises.of_same <;> simp [(Told.refl w).hand (K := checkKinds) (k := .overspeedWarn) (by decide)]
  exact .ite (fun _ => (hset false).trans (htold _ _)) (fun _ => .ite (fun _ => hset true) (fun _ => .refl s))

/-- The causes that the brake supervision raises at a sample. -/
def speedCauses : List Cause := [.overspeedEmergency, .overspeedService, .sbIneffective]

theorem raises_sampleBrakes (s : State) : Raises speedCauses s (sampleBrakes s) :=
  (((raises_checkE (by decide) s).trans (raises_checkS (by decide) _)).trans
    (raises_checkEffectiveness (by decide) _)).trans (raises_checkWarning _)

/-! ## The states of a sample, one after another -/

/-- The speeds and the standstill read (R27 to R29). -/
def sampleRead (s : State) : State := updateStill (sampleSpeed (advanceTo s.psu.sampleTimer.due s))

/-- The ceiling formed behind the monitors (R45). -/
def sampleCapped (s : State) : State := sampleCeiling (runMonitors (sampleRead s))

/-- The brake supervision done. -/
def sampleBraked (s : State) : State := sampleBrakes (sampleCapped s)

theorem execSpeedSample_run (hreset : s.pins.resetLow = false) (ho : isOvertaken s .speedSample = false) :
    exec .speedSample s = .next (takenUp .speedSample (finish s (sampleTrip (sampleBraked s)))) :=
  timed_acts (rfl : Machine.execSpeedSample s = _) hreset ho
    (by simp only [sample, sampleBraked, sampleCapped, sampleRead])

end Sys2Proof.Machine
end

section
/-! The ceiling that a sample sets (O50). -/

namespace Sys2Proof.Machine

variable {s t u : State}

/-! ## The position through a sample -/

theorem pos_same (hcfg : t.cfg = s.cfg) (hp : t.psu.pRef = s.psu.pRef) (hc : t.psu.count = s.psu.count)
    (hr : t.psu.countRef = s.psu.countRef) : pos t = pos s := by
  simp [pos, State.params, hcfg, hp, hc, hr]

@[simp] theorem pos_sampleRead (s : State) : pos (sampleRead s) = pos s := by
  apply pos_same <;> simp [sampleRead, advanceTo]

@[simp] theorem pos_runMonitors (s : State) : pos (runMonitors s) = pos s := by apply pos_same <;> simp

@[simp] theorem sampleRead_frame (s : State) :
    (sampleRead s).cfg = s.cfg ∧ (sampleRead s).cru = s.cru ∧ (sampleRead s).clc = s.clc ∧
      (sampleRead s).trc = s.trc ∧ (sampleRead s).dri = s.dri ∧ (sampleRead s).adm = s.adm ∧
      (sampleRead s).lsu = s.lsu ∧ (sampleRead s).lbp = s.lbp ∧ (sampleRead s).niu = s.niu ∧
      (sampleRead s).pins = s.pins ∧ (sampleRead s).now = max s.now s.psu.sampleTimer.due ∧
      (sampleRead s).pending = s.pending ∧ (sampleRead s).psu.count = s.psu.count ∧
      (sampleRead s).psu.pRef = s.psu.pRef ∧ (sampleRead s).psu.countRef = s.psu.countRef ∧
      (sampleRead s).psu.ref = s.psu.ref ∧ (sampleRead s).psu.furthest = s.psu.furthest ∧
      (sampleRead s).psu.mismatch = s.psu.mismatch ∧ (sampleRead s).psu.armed = s.psu.armed ∧
      (sampleRead s).brs.stage = s.brs.stage ∧ (sampleRead s).brs.causes = s.brs.causes ∧
      (sampleRead s).brs.overspeedCount = s.brs.overspeedCount ∧ (sampleRead s).brs.warnArmed = s.brs.warnArmed := by
  simp [sampleRead, advanceTo]

/-! ## The ceiling of a sample (R45 to R58) -/

theorem tripCeiling_congr (hcfg : t.cfg = s.cfg) (hclc : t.clc = s.clc) (htrip : t.trc.trip = s.trc.trip)
    (hpos : pos t = pos s) (dir : TripDir) (tpos : Nat) : tripCeiling t dir tpos = tripCeiling s dir tpos := by
  simp [tripCeiling, State.params, hcfg, hclc, htrip, hpos]

theorem sampleCeiling_moving (hc : s.cfg.committed = true) (hm : isMoving s.trc.state = true) :
    (sampleCeiling s).clc.c = tripCeiling s (s.trc.trip.direction.getD .upA) (s.trc.trip.tpos.getD 0) ∧
      (sampleCeiling s).clc.d =
        some (distanceToGo (s.trc.trip.direction.getD .upA) (pos s) (s.trc.trip.tpos.getD 0)) ∧
      (sampleCeiling s).trc.trip =
        { s.trc.trip with
          peak := some (max (s.trc.trip.peak.getD 0) s.psu.vEval)
          margin := some (leastMargin ((sampleCeiling s).clc.c - s.psu.vEval) s.trc.trip.margin) } := by
  simp [sampleCeiling, hc, hm, recordExtremes, setCeiling]

theorem sampleCeiling_idle (hm : isMoving s.trc.state = false) :
    (sampleCeiling s).clc.d = none ∧ (sampleCeiling s).trc = s.trc ∧
      (s.cfg.committed = true → (sampleCeiling s).clc.c = s.params.vcreep) := by
  unfold sampleCeiling
  split <;> simp_all [setCeiling]

theorem sampleCeiling_uncommitted (hc : s.cfg.committed = false) :
    (sampleCeiling s).clc.c = s.clc.c ∧ (sampleCeiling s).trc = s.trc := by
  simp [sampleCeiling, hc]

theorem sampleCeiling_thresholds (hc : s.cfg.committed = true) :
    (sampleCeiling s).clc.w1 = threshW1 s.params (sampleCeiling s).clc.c ∧
      (sampleCeiling s).clc.s = threshS s.params (sampleCeiling s).clc.c ∧
      (sampleCeiling s).clc.e = threshE s.params (sampleCeiling s).clc.c := by
  unfold sampleCeiling
  rw [if_pos hc]
  split <;> simp [recordExtremes, setCeiling, State.params]

/-- The monitors leave a moving trip's ceiling as it is formed from the state before the sample. -/
theorem tripCeiling_watched (hm : isMoving s.trc.state = true) (dir : TripDir) (tpos : Nat) :
    tripCeiling (runMonitors (sampleRead s)) dir tpos = tripCeiling s dir tpos := by
  obtain ⟨htrip, hclc⟩ := (raises_runMonitors (sampleRead s)).run (by simpa using hm)
  exact tripCeiling_congr (by simp) (by simpa using hclc) (by simpa using htrip) (by simp) dir tpos

/-! ## The end of a sample -/

theorem newDwell_trip (k : Stop) (s : State) : (newDwell k s).trc.trip = s.trc.trip := by
  simp [newDwell, setTripState_trip]

theorem completeTrip_trip (s : State) : (completeTrip s).trc.trip = { s.trc.trip with outcome := .done } := by
  simp [completeTrip, freeSlots, zeroMismatch, newDwell_trip]

theorem completeTrip_d (s : State) : (completeTrip s).clc.d = s.clc.d := by
  simp [completeTrip, freeSlots, zeroMismatch, newDwell, setTripState_d]

theorem sampleTrip_keeps (s : State) :
    (sampleTrip s).clc.d = s.clc.d ∧ (sampleTrip s).trc.trip.peak = s.trc.trip.peak ∧
      (sampleTrip s).trc.trip.margin = s.trc.trip.margin := by
  unfold sampleTrip
  split
  · split
    · split <;> simp [setTripState_d, setTripState_trip]
    · simp
  · split <;> simp [completeTrip_d, completeTrip_trip]
  · simp

/-! ## The ceiling after a sample -/

/-- A sample of a committed store: the ceiling that it leaves. -/
theorem sampleCapped_ceiling (hcom : s.cfg.committed = true) :
    (sampleCapped s).clc.c =
      if isMoving s.trc.state = true then tripCeiling s (s.trc.trip.direction.getD .upA) (s.trc.trip.tpos.getD 0)
      else s.params.vcreep := by
  have hw := raises_runMonitors (sampleRead s)
  have hmoving : isMoving (runMonitors (sampleRead s)).trc.state = isMoving s.trc.state := by simpa using hw.moving
  have hcom' : (runMonitors (sampleRead s)).cfg.committed = true := by simpa using hcom
  unfold sampleCapped
  split
  next hm =>
    obtain ⟨htrip, -⟩ := hw.run (by simpa using hm)
    rw [(sampleCeiling_moving hcom' (hmoving.trans hm)).1, tripCeiling_watched hm, htrip]
    simp
  next hm =>
    rw [(sampleCeiling_idle (hmoving.trans (by simpa using hm))).2.2 hcom']
    simp [State.params]

theorem ceilingProfile_le_cap (p : Params) (profile : List Segment) (mode : Mode) (dir : TripDir) (aEff tpos : Nat)
    (vdrv : Option Nat) (x : Int) :
    ceilingProfile p profile mode dir aEff tpos vdrv x ≤ max p.vcreep (modeCap p mode) :=
  max_le_max (Nat.le_refl _)
    ((foldr_min_le _ _).1.trans ((Nat.min_le_right _ _).trans (Nat.min_le_left _ _)))

/-- The trip's ceiling is within the cap of its mode, where the checks pass. -/
theorem tripCeiling_le_mode (h5 : CommitCheck s 5) {mode : Mode} (hmode : s.trc.trip.mode = some mode)
    (hm : mode ≠ .normal) (dir : TripDir) (tpos : Nat) : tripCeiling s dir tpos ≤ modeCap s.params mode := by
  obtain ⟨hcreep, hinsp, -⟩ := h5
  have hlow : s.params.vcreep ≤ modeCap s.params mode ∧ s.params.vinsp ≤ modeCap s.params mode := by
    cases mode <;> simp_all [modeCap]
    omega
  unfold tripCeiling
  split
  · rw [hmode, Option.getD_some]
    exact (ceilingProfile_le_cap _ _ _ _ _ _ _ _).trans (max_le hlow.1 (Nat.le_refl _))
  · simp only [ceilingCap]
    omega

theorem tripCeiling_profile {mode : Mode} {r : Derating} (hb : s.clc.basis = some .profile)
    (hmode : s.trc.trip.mode = some mode) (hder : s.trc.trip.derating = some r) (dir : TripDir) (tpos : Nat) :
    tripCeiling s dir tpos =
      ceilingProfile s.params s.cfg.profile mode dir r.aEff tpos s.clc.vdrv (pos s) := by
  simp [tripCeiling, hb, hmode, hder]

theorem tripCeiling_cap (hb : s.clc.basis = some .cap) (dir : TripDir) (tpos : Nat) :
    tripCeiling s dir tpos = max s.params.vcreep (min s.params.vinsp (s.clc.vdrv.getD s.params.vmax)) := by
  simp [tripCeiling, hb, ceilingCap, driveLimit]

/-- The least margin and the peak of a moving trip take the sample (R58). -/
theorem sampleCapped_extremes (hcom : s.cfg.committed = true) (hm : isMoving s.trc.state = true) :
    (sampleCapped s).trc.trip.peak = some (max (s.trc.trip.peak.getD 0) (sampleCapped s).psu.vEval) ∧
      (sampleCapped s).trc.trip.margin =
        some (leastMargin ((sampleCapped s).clc.c - (sampleCapped s).psu.vEval) s.trc.trip.margin) := by
  have hw := raises_runMonitors (sampleRead s)
  have hmoving : isMoving (runMonitors (sampleRead s)).trc.state = isMoving s.trc.state := by simpa using hw.moving
  obtain ⟨htrip, -⟩ := hw.run (by simpa using hm)
  obtain ⟨-, -, hext⟩ :=
    sampleCeiling_moving (s := runMonitors (sampleRead s)) (by simpa using hcom) (hmoving.trans hm)
  have hv : (sampleCapped s).psu.vEval = (runMonitors (sampleRead s)).psu.vEval := by simp [sampleCapped]
  rw [hv, sampleCapped, hext, htrip]
  simp

theorem sampleCapped_idle (hm : isMoving s.trc.state = false) : (sampleCapped s).clc.d = none := by
  have hmoving := (raises_runMonitors (sampleRead s)).moving
  exact (sampleCeiling_idle (hmoving.trans (by simpa using hm))).1

theorem sampleCapped_thresholds (hcom : s.cfg.committed = true) :
    (sampleCapped s).clc.w1 = threshW1 s.params (sampleCapped s).clc.c ∧
      (sampleCapped s).clc.s = threshS s.params (sampleCapped s).clc.c ∧
      (sampleCapped s).clc.e = threshE s.params (sampleCapped s).clc.c := by
  simpa [sampleCapped, State.params] using
    sampleCeiling_thresholds (s := runMonitors (sampleRead s)) (by simpa using hcom)

/-- Settles O50. -/
theorem ceilingStaysInBounds : Obligations.CeilingStaysInBounds := by
  unfold Obligations.CeilingStaysInBounds
  intro s t hreset hcom hfail hparam ho hexec
  rw [execSpeedSample_run hreset ho] at hexec
  obtain rfl := Host.Outcome.next.inj hexec
  have hchecks := commitFailure_none_iff.mp hfail
  have h2 := hchecks 2 (by decide) (by decide)
  have h5 := hchecks 5 (by decide) (by decide)
  have hcap := sampleCapped_ceiling hcom
  have hrun : isMoving s.trc.state = true → (sampleBraked s).trc.trip = (sampleCapped s).trc.trip := fun hm =>
    ((raises_sampleBrakes (sampleCapped s)).run (by simpa [sampleCapped, (raises_runMonitors _).moving] using hm)).1
  obtain ⟨hd, hpeak, hmargin⟩ := sampleTrip_keeps (sampleBraked s)
  obtain ⟨hlo, hhi⟩ := Moves.tripCeiling_bounds s (s.trc.trip.direction.getD .upA) (s.trc.trip.tpos.getD 0)
  have hbounds : s.params.vcreep ≤ (sampleCapped s).clc.c ∧
      (sampleCapped s).clc.c ≤ max s.params.vcreep (max s.params.vinsp (max s.params.vred s.params.vmax)) := by
    rw [hcap]
    split <;> omega
  have hmode (mode : Mode) (hne : mode ≠ .normal) (hm : isMoving s.trc.state = true)
      (hmode : s.trc.trip.mode = some mode) : (sampleCapped s).clc.c ≤ modeCap s.params mode := by
    rw [hcap, if_pos hm]
    exact tripCeiling_le_mode h5 hmode hne _ _
  have hthresh := thresholds_of_bounds hparam (commitFailure_eq_none.mp hfail).1 hbounds.1 hbounds.2
  obtain ⟨hw1, hs, he⟩ := sampleCapped_thresholds hcom
  simp only [takenUp_clc, takenUp_trc, takenUp_psu, finish_frame, sampleTrip_frame, hpeak, hmargin, hd]
  simp only [sampleBraked, sampleBrakes_frame, hw1, hs, he] at hrun ⊢
  refine ⟨⟨hbounds.1, ?_, hmode .inspection (by decide), hmode .reduced (by decide)⟩,
    fun mode dir tpos r hm hbasis hmd hdir htpos hder => ?_, fun hm hbasis => ?_, fun hm => ?_, fun hm => ⟨?_, ?_⟩,
    rfl, rfl, rfl, hthresh.2⟩
  · have := hbounds.2
    obtain ⟨h1, h2, h3, -⟩ := h5
    omega
  · rw [hcap, if_pos hm, tripCeiling_profile hbasis hmd hder, hdir, htpos]
    exact ceilingProfile_least h2 mode dir r.aEff tpos
  · rw [hcap, if_pos hm, tripCeiling_cap hbasis]
  · obtain ⟨hp, hmg⟩ := sampleCapped_extremes hcom hm
    rw [hrun hm, hp, hmg]
    exact ⟨rfl, by cases s.trc.trip.margin <;> rfl⟩
  · rw [hcap, if_neg (by simp [hm])]
  · rw [(raises_sampleBrakes _).dist, sampleCapped_idle hm]

end Sys2Proof.Machine
end

section
/-! The overspeed checks of a sample, the effectiveness check and the warning (O49). -/

namespace Sys2Proof.Machine

variable {s t u : State} {c : Cause} {d : Detail}

/-! ## The overspeed count and the warning's mark through the monitors -/

theorem raiseCause_warnArmed (c : Cause) (d : Detail) (s : State) :
    (raiseCause c d s).brs.warnArmed = s.brs.warnArmed := by
  rw [raiseCause_eq]
  split
  · rfl
  · split
    · simp [stageRise_eq, risen, causeTimed, addCause]
    · simp [addCause]

/-- What a sample's monitors leave of the speed checks. -/
def SameCounts (s t : State) : Prop :=
  t.brs.warnArmed = s.brs.warnArmed ∧ t.brs.overspeedCount = s.brs.overspeedCount

theorem SameCounts.trans (h : SameCounts s t) (h' : SameCounts t u) : SameCounts s u :=
  ⟨h'.1.trans h.1, h'.2.trans h.2⟩

theorem sameCounts_raiseCause (c : Cause) (d : Detail) (s : State) : SameCounts s (raiseCause c d s) :=
  ⟨raiseCause_warnArmed c d s, raiseCause_overspeedCount c d s⟩

theorem sameCounts_runMonitor (m : Monitor) (s : State) : SameCounts s (runMonitor m s) := by
  unfold runMonitor
  split
  · split
    · exact sameCounts_raiseCause m.cause _ (setArmed m false s)
    · exact ⟨rfl, rfl⟩
  · exact ⟨rfl, rfl⟩

theorem sameCounts_missMarker (c : Car) (m : Nat) (s : State) : SameCounts s (missMarker c m s) := by
  unfold missMarker
  split
  · exact sameCounts_raiseCause _ _ s
  · simp [SameCounts]

theorem sameCounts_checkMissed (c : Car) (s : State) : SameCounts s (checkMissed c s) := by
  unfold checkMissed
  split
  · dsimp only
    split
    · exact sameCounts_missMarker c _ s
    · exact ⟨rfl, rfl⟩
  · exact ⟨rfl, rfl⟩

theorem sameCounts_runMonitors (s : State) : SameCounts s (runMonitors s) :=
  (((((show SameCounts s (takeFurthest s) by simp [SameCounts]).trans (sameCounts_runMonitor .rollback _)).trans
    (sameCounts_runMonitor .unintended _)).trans (sameCounts_runMonitor .overtravel _)).trans
    (sameCounts_runMonitor .overshoot _)).trans
    ((sameCounts_checkMissed .a _).trans (sameCounts_checkMissed .b _))

/-! ## What the brake supervision finds at a sample -/

theorem sampleCapped_counts (s : State) :
    (sampleCapped s).brs.warnArmed = s.brs.warnArmed ∧ (sampleCapped s).brs.overspeedCount = s.brs.overspeedCount := by
  obtain ⟨hw, hn⟩ := sameCounts_runMonitors (sampleRead s)
  exact ⟨by simpa [sampleCapped] using hw, by simpa [sampleCapped] using hn⟩

theorem hasCause_sampleCapped (hc : c ∉ monitorCauses) : hasCause (sampleCapped s) c = hasCause s c := by
  simpa [hasCause, sampleCapped] using (raises_runMonitors (sampleRead s)).only c hc

theorem stageInv_sampleCapped (h : StageInv s) : StageInv (sampleCapped s) := by
  have hw := (raises_runMonitors (sampleRead s)).inv (by simpa [StageInv] using h)
  simpa [StageInv, sampleCapped] using hw

/-! ## The checks (R66, R67, R75) -/

theorem raisedWith_checkE (h : s.clc.e < s.psu.vEval) :
    RaisedWith .overspeedEmergency (.overspeed s.psu.vEval s.clc.e s.clc.c) s (checkE s) := by
  rw [checkE, if_pos h]
  exact raisedWith_raiseCause _ _ s

theorem raisedWith_checkS (h : s.clc.s < s.psu.vEval) (h1 : s.brs.overspeedCount = 1) :
    RaisedWith .overspeedService (.overspeed s.psu.vEval s.clc.s s.clc.c) s (checkS s) := by
  have hrun : checkS s = raiseCause .overspeedService (.overspeed s.psu.vEval s.clc.s s.clc.c)
      (s.onBrs fun b => { b with overspeedCount := satAdd 2 b.overspeedCount 1 }) := by
    rw [checkS, if_pos h, if_pos h1]
  rw [hrun]
  obtain ⟨hhas, hnew⟩ := raisedWith_raiseCause .overspeedService (.overspeed s.psu.vEval s.clc.s s.clc.c)
    (s.onBrs fun b => { b with overspeedCount := satAdd 2 b.overspeedCount 1 })
  exact ⟨hhas, fun hs => hnew (by simpa [hasCause] using hs)⟩

theorem checkE_counts (s : State) : SameCounts s (checkE s) := by
  unfold checkE
  split
  · exact sameCounts_raiseCause _ _ s
  · exact ⟨rfl, rfl⟩

theorem checkS_counts (s : State) :
    (checkS s).brs.warnArmed = s.brs.warnArmed ∧
      (checkS s).brs.overspeedCount = if s.clc.s < s.psu.vEval then min 2 (s.brs.overspeedCount + 1) else 0 := by
  unfold checkS
  split
  · dsimp only
    split <;> simp [raiseCause_warnArmed, raiseCause_overspeedCount, satAdd]
  · simp

theorem checkEffectiveness_counts (s : State) : SameCounts s (checkEffectiveness s) := by
  unfold checkEffectiveness
  split
  · exact ⟨rfl, rfl⟩
  · dsimp only
    split
    · exact sameCounts_raiseCause _ _ s
    · exact ⟨rfl, rfl⟩

/-- The warning is given once while it is armed, and armed again at or below the ceiling. -/
theorem checkWarning_spec (s : State) :
    (checkWarning s).brs.overspeedCount = s.brs.overspeedCount ∧
    (checkWarning s).brs.effectiveness = s.brs.effectiveness ∧
    (s.brs.warnArmed = true → s.clc.w1 < s.psu.vEval →
      (checkWarning s).brs.warnArmed = false ∧
        isPending ((checkWarning s).niu.notices.get .drv) .overspeedWarn = true) ∧
    (s.brs.warnArmed = false → s.clc.c < s.psu.vEval → (checkWarning s).brs.warnArmed = false) ∧
    (s.psu.vEval ≤ s.clc.c → s.clc.c ≤ s.clc.w1 → (checkWarning s).brs.warnArmed = true) := by
  unfold checkWarning
  refine ⟨?_, ?_, fun ha hw => ?_, fun ha hc => ?_, fun hc hw => ?_⟩
  · split
    · simp
    · split <;> simp
  · split
    · simp
    · split <;> simp
  · simp [ha, hw, isPending_hand]
  · simp [ha, Nat.not_le.mpr hc]
  · rw [if_neg (by omega), if_pos hc]
    rfl

/-! ## The effectiveness monitor at a sample (R74, R75) -/

/-- The still-sample count set. -/
def stillCounted (n : Nat) (s : State) : State := s.onPsu fun u => { u with stillCount := n }

/-- A sample confirms standstill, loses it, or leaves it as it was (R29). -/
theorem updateStill_cases (s : State) : ∃ n,
    (s.psu.still = false ∧ updateStill s = confirmStill (stillCounted n s)) ∨
      (s.psu.still = true ∧ updateStill s = loseStill (stillCounted n s)) ∨ updateStill s = stillCounted n s := by
  unfold updateStill
  split
  · refine ⟨satAdd Config.stillMax s.psu.stillCount 1, ?_⟩
    dsimp only
    split
    next h => exact .inl ⟨h.1, rfl⟩
    next => exact .inr (.inr rfl)
  · refine ⟨0, ?_⟩
    dsimp only
    split
    next h => exact .inr (.inl ⟨h, rfl⟩)
    next => exact .inr (.inr rfl)

theorem updateStill_effectiveness (s : State) : (updateStill s).brs.effectiveness =
    if s.psu.still = false ∧ (updateStill s).psu.still = true then none else s.brs.effectiveness := by
  obtain ⟨n, ⟨hs, h⟩ | ⟨hs, h⟩ | h⟩ := updateStill_cases s
  · simp [h, hs, confirmStill, clearExpected]
  · simp [h, hs, stillCounted]
  · cases hs : s.psu.still <;> simp [h, hs, stillCounted]

/-- The sample that confirms standstill ends the monitor; any other leaves it to the checks. -/
theorem sampleRead_effectiveness (s : State) :
    (sampleRead s).brs.effectiveness =
      if s.psu.still = false ∧ (sampleRead s).psu.still = true then none else s.brs.effectiveness := by
  simpa [sampleRead, advanceTo] using updateStill_effectiveness (sampleSpeed (advanceTo s.psu.sampleTimer.due s))

theorem sampleCapped_brs (s : State) : (sampleCapped s).brs = (runMonitors (sampleRead s)).brs := by
  simp [sampleCapped]

theorem sampleCapped_still (s : State) : (sampleCapped s).psu.still = (sampleRead s).psu.still := by
  simp [sampleCapped]

/-- Under SERVICE an effectiveness monitor that runs goes on while the stage does. -/
theorem sampleCapped_watch (hs : s.brs.stage = .service) (hstill : (sampleRead s).psu.still = false)
    (hk : (sampleCapped s).brs.stage = .service) : (sampleCapped s).brs.effectiveness = s.brs.effectiveness := by
  have hread : (sampleRead s).brs.effectiveness = s.brs.effectiveness := by simp [sampleRead_effectiveness, hstill]
  rw [sampleCapped_brs] at hk ⊢
  exact ((raises_runMonitors (sampleRead s)).watch (by simpa using hs) hk).trans hread

/-- At the sample that confirms standstill none runs. -/
theorem sampleCapped_ended (hs : s.psu.still = false) (hstill : (sampleRead s).psu.still = true) :
    (sampleCapped s).brs.effectiveness = none := by
  rw [sampleCapped_brs]
  exact (raises_runMonitors (sampleRead s)).ended hstill (by simp [sampleRead_effectiveness, hs, hstill])

theorem foldr_max_attained (l : List HeldCause) : (l.map fun x => x.cause.stage.rank).foldr max 0 = 0 ∨
    ∃ x ∈ l, x.cause.stage.rank = (l.map fun x => x.cause.stage.rank).foldr max 0 := by
  induction l with
  | nil => exact .inl rfl
  | cons a l ih =>
    simp only [List.map_cons, List.foldr_cons]
    rcases Nat.le_total a.cause.stage.rank ((l.map fun x => x.cause.stage.rank).foldr max 0) with hle | hle
    · rw [Nat.max_eq_right hle]
      exact ih.imp_right fun ⟨x, hx, he⟩ => ⟨x, List.mem_cons_of_mem a hx, he⟩
    · rw [Nat.max_eq_left hle]
      exact .inr ⟨a, by simp, rfl⟩

theorem Stage.rank_injective {a b : Stage} (h : a.rank = b.rank) : a = b := by
  cases a <;> cases b <;> simp_all [Stage.rank]

/-- A standing stage is called for by one of the causes. -/
theorem exists_cause_of_stage (h : StageInv s) (hs : s.brs.stage ≠ .none) :
    ∃ x ∈ s.brs.causes, x.cause.stage = s.brs.stage := by
  obtain ⟨-, hrank⟩ := h
  rcases foldr_max_attained s.brs.causes with h0 | ⟨x, hx, he⟩
  · exact absurd (Stage.rank_injective (b := .none) (hrank.trans h0)) hs
  · exact ⟨x, hx, Stage.rank_injective (he.trans hrank.symm)⟩

theorem checkEffectiveness_raises {m : Effectiveness} (hm : s.brs.effectiveness = some m)
    (hg : s.params.sbGrace ≤ s.now - m.t0) (hv : effectivenessLimit s.params m.v0 (s.now - m.t0) < s.psu.vEval) :
    checkEffectiveness s =
      raiseCause .sbIneffective
        (.ineffective m.v0 s.psu.vEval (effectivenessLimit s.params m.v0 (s.now - m.t0)) (s.now - m.t0)) s := by
  simp [checkEffectiveness, hm, hg, hv]

/-! ## The end of a sample tells no speed check (R101, R102) -/

theorem told_sampleTrip (s : State) : Told (.tripDone :: windowKinds) s (sampleTrip s) := by
  unfold sampleTrip
  split
  · split
    · exact .ite (fun _ => (told_setTripState _ s).mono (by simp)) (fun _ => .refl s)
    · exact .refl s
  · exact .ite (fun _ => told_completeTrip s) (fun _ => .refl s)
  · exact .refl s

/-- The overspeed checks have been done, the effectiveness check has not. -/
def speedChecked (s : State) : State := checkS (checkE (sampleCapped s))

theorem raises_speedChecked (s : State) : Raises speedCauses (sampleCapped s) (speedChecked s) :=
  (raises_checkE (by decide) _).trans (raises_checkS (by decide) _)

theorem raises_effectivenessChecked (s : State) : Raises speedCauses (speedChecked s) (sampleBraked s) :=
  (raises_checkEffectiveness (by decide) _).trans (raises_checkWarning _)

theorem sampleBraked_eq (s : State) : sampleBraked s = checkWarning (checkEffectiveness (speedChecked s)) := rfl

/-- A brake that does not hold (R75): under SERVICE with the monitor's limit passed the stage is EMERGENCY, and
SB_INEFFECTIVE is in the set unless another EMERGENCY cause came first. -/
theorem sampleBraked_ineffective {m : Effectiveness} (hinv : StageInv s) (hm : s.brs.effectiveness = some m)
    (hs : s.brs.stage = .service) (hstill : (sampleRead s).psu.still = false)
    (hg : s.params.sbGrace ≤ (sampleBraked s).now - m.t0)
    (hv : effectivenessLimit s.params m.v0 ((sampleBraked s).now - m.t0) < (sampleBraked s).psu.vEval) :
    (sampleBraked s).brs.stage = .emergency ∧
      ((∀ h ∈ (sampleBraked s).brs.causes, h.cause ≠ .sbIneffective → h.cause.stage = .service) →
        ⟨.sbIneffective, .ineffective m.v0 (sampleBraked s).psu.vEval
          (effectivenessLimit s.params m.v0 ((sampleBraked s).now - m.t0)) ((sampleBraked s).now - m.t0)⟩ ∈
            (sampleBraked s).brs.causes) := by
  have hcapped := raises_runMonitors (sampleRead s)
  have hspeed := raises_speedChecked s
  have heff := raises_effectivenessChecked s
  have hkinv := stageInv_sampleCapped hinv
  have hcinv := hspeed.inv hkinv
  have hkstage : Stage.service.rank ≤ (sampleCapped s).brs.stage.rank := by
    have := hcapped.stage
    simp only [sampleRead_frame, hs] at this
    rwa [sampleCapped_brs]
  have hno : hasCause (sampleCapped s) .sbIneffective = false := by
    rw [hasCause_sampleCapped (by decide), Bool.eq_false_iff]
    intro hc
    simpa [hs, Stage.rank, Cause.stage] using stage_of_hasCause hinv hc
  have hno' : hasCause (speedChecked s) .sbIneffective = false := by
    rw [← hno]
    exact ((raises_checkE (L := [.overspeedEmergency, .overspeedService]) (by decide) _).trans
      (raises_checkS (by decide) _)).only _ (by decide)
  have hkeeps : (speedChecked s).now = (sampleBraked s).now ∧
      (speedChecked s).psu.vEval = (sampleBraked s).psu.vEval ∧
      (speedChecked s).params = s.params := by
    simp [sampleBraked_eq, speedChecked, sampleCapped, State.params]
  obtain ⟨hnow, hev, hparams⟩ := hkeeps
  have hrank := hkstage.trans hspeed.stage
  cases hst : (speedChecked s).brs.stage with
  | none => simp [hst, Stage.rank] at hrank
  | service =>
    have hkst : (sampleCapped s).brs.stage = .service := by
      have := hspeed.stage
      rw [hst] at this
      cases hk : (sampleCapped s).brs.stage <;> simp_all [Stage.rank]
    have hmon := (hspeed.watch hkst hst).trans ((sampleCapped_watch hs hstill hkst).trans hm)
    have hraise := checkEffectiveness_raises hmon (by rwa [hparams, hnow]) (by rwa [hparams, hnow, hev])
    rw [hparams, hnow, hev] at hraise
    obtain ⟨hhas, hmem⟩ := raisedWith_raiseCause .sbIneffective (.ineffective m.v0 (sampleBraked s).psu.vEval
      (effectivenessLimit s.params m.v0 ((sampleBraked s).now - m.t0)) ((sampleBraked s).now - m.t0)) (speedChecked s)
    rw [← hraise] at hhas hmem
    have hwarn := raises_checkWarning (L := speedCauses) (checkEffectiveness (speedChecked s))
    exact ⟨stage_emergency_of_hasCause (heff.inv hcinv) (by rfl) (hwarn.has hhas), fun _ => hwarn.kept (hmem hno')⟩
  | emergency =>
    refine ⟨?_, fun hall => ?_⟩
    · have := heff.stage
      rw [hst] at this
      cases hb : (sampleBraked s).brs.stage <;> simp_all [Stage.rank]
    · obtain ⟨x, hx, he⟩ := exists_cause_of_stage hcinv (by simp [hst])
      have hne : x.cause ≠ .sbIneffective := by
        intro hxc
        simp only [hasCause, List.any_eq_false, decide_eq_true_eq] at hno'
        exact hno' x hx hxc
      have := hall x (heff.kept hx) hne
      simp [this, hst] at he

/-- A cause that the speed checks raise at a sample, as from before the sample. -/
theorem RaisedWith.from_capped (h : RaisedWith c d (sampleCapped s) t) (hc : c ∉ monitorCauses) : RaisedWith c d s t :=
  ⟨h.1, fun hs => h.2 ((hasCause_sampleCapped hc).trans hs)⟩

/-- What the overspeed checks and the warning leave (R66, R67). -/
theorem sampleBraked_speed (s : State) :
    ((sampleCapped s).clc.e < (sampleCapped s).psu.vEval →
      RaisedWith .overspeedEmergency
        (.overspeed (sampleCapped s).psu.vEval (sampleCapped s).clc.e (sampleCapped s).clc.c) s (sampleBraked s)) ∧
    ((sampleCapped s).clc.s < (sampleCapped s).psu.vEval → s.brs.overspeedCount = 1 →
      RaisedWith .overspeedService
        (.overspeed (sampleCapped s).psu.vEval (sampleCapped s).clc.s (sampleCapped s).clc.c) s (sampleBraked s)) ∧
    (sampleBraked s).brs.overspeedCount =
      if (sampleCapped s).clc.s < (sampleCapped s).psu.vEval then min 2 (s.brs.overspeedCount + 1) else 0 := by
  have heff := raises_effectivenessChecked s
  have hcount : (checkE (sampleCapped s)).brs.overspeedCount = s.brs.overspeedCount :=
    (checkE_counts _).2.trans (sampleCapped_counts s).2
  refine ⟨fun h => ?_, fun h h1 => ?_, ?_⟩
  · have hrest := (raises_checkS (L := speedCauses) (by decide) (checkE (sampleCapped s))).trans heff
    exact ((raisedWith_checkE h).within (.refl (L := []) _) (by simp) hrest).from_capped (by decide)
  · have hraised := raisedWith_checkS (s := checkE (sampleCapped s)) (by simpa using h) (hcount.trans h1)
    have hfirst := raises_checkE (L := [.overspeedEmergency]) (by decide) (sampleCapped s)
    simpa using (hraised.within hfirst (by decide) heff).from_capped (by decide)
  · rw [sampleBraked_eq, (checkWarning_spec _).1, (checkEffectiveness_counts _).2, speedChecked,
      (checkS_counts _).2, hcount]
    simp

/-- What the warning leaves of its mark, and tells the drive (R67). -/
theorem sampleBraked_warning (s : State) :
    (s.brs.warnArmed = true → (sampleCapped s).clc.w1 < (sampleCapped s).psu.vEval →
      (sampleBraked s).brs.warnArmed = false ∧
        isPending ((sampleBraked s).niu.notices.get .drv) .overspeedWarn = true) ∧
    (s.brs.warnArmed = false → (sampleCapped s).clc.c < (sampleCapped s).psu.vEval →
      (sampleBraked s).brs.warnArmed = false) ∧
    ((sampleCapped s).psu.vEval ≤ (sampleCapped s).clc.c → (sampleCapped s).clc.c ≤ (sampleCapped s).clc.w1 →
      (sampleBraked s).brs.warnArmed = true) := by
  have harmed : (checkEffectiveness (speedChecked s)).brs.warnArmed = s.brs.warnArmed :=
    (checkEffectiveness_counts _).1.trans
      ((checkS_counts _).1.trans ((checkE_counts _).1.trans (sampleCapped_counts s).1))
  obtain ⟨-, -, hspec⟩ := checkWarning_spec (checkEffectiveness (speedChecked s))
  rw [harmed, ← sampleBraked_eq] at hspec
  simpa [speedChecked] using hspec

/-- Settles O49. -/
theorem overspeedAtOnce : Obligations.OverspeedAtOnce := by
  unfold Obligations.OverspeedAtOnce
  intro s t hinv hreset ho hexec
  rw [execSpeedSample_run hreset ho] at hexec
  obtain rfl := Host.Outcome.next.inj hexec
  have hwarned : isPending ((sampleBraked s).niu.notices.get .drv) .overspeedWarn = true →
      isPending ((sampleTrip (sampleBraked s)).niu.notices.get .drv) .overspeedWarn = true :=
    (told_sampleTrip (sampleBraked s) .drv).stays _
  have hbinv : StageInv (sampleBraked s) := (raises_sampleBrakes _).inv (stageInv_sampleCapped hinv)
  obtain ⟨hem, hser, hcount⟩ := sampleBraked_speed s
  obtain ⟨hw1, hw2, hw3⟩ := sampleBraked_warning s
  simp only [RaisedWith, hasCause, takenUp_brs, takenUp_clc, takenUp_psu, takenUp_niu, takenUp_now, finish_frame,
    isPending_finish, sampleTrip_frame] at hem hser ⊢
  have hv : (sampleBraked s).psu.vEval = (sampleCapped s).psu.vEval := by simp [sampleBraked]
  have hclc : (sampleBraked s).clc.c = (sampleCapped s).clc.c ∧ (sampleBraked s).clc.w1 = (sampleCapped s).clc.w1 ∧
      (sampleBraked s).clc.s = (sampleCapped s).clc.s ∧ (sampleBraked s).clc.e = (sampleCapped s).clc.e := by
    simp [sampleBraked]
  have hstill : (sampleBraked s).psu.still = (sampleRead s).psu.still := by simp [sampleBraked, sampleCapped]
  obtain ⟨hc, hc1, hcs, hce⟩ := hclc
  refine ⟨fun h => ?_, fun ha h => ?_, fun ha h => hw2 ha ?_, fun h h' => hw3 ?_ ?_, ?_, fun h h1 => ?_, fun h => ?_,
    fun m hm hs hmoving hg hlim => ?_, fun h h' => ?_⟩
  · rw [hv, hce] at h
    exact ⟨(hem h).1, stage_emergency_of_hasCause (c := .overspeedEmergency) hbinv rfl (hem h).1⟩
  · rw [hv, hc1] at h
    exact ⟨(hw1 ha h).1, hwarned (hw1 ha h).2⟩
  · rwa [hv, hc] at h
  · rwa [hv, hc] at h
  · rwa [hc, hc1] at h'
  · rw [hcount, hv, hcs]
  · rw [hv, hcs] at *
    rw [hc]
    exact hser h h1
  · rw [hv, hce] at *
    rw [hc]
    exact hem h
  · exact sampleBraked_ineffective hinv hm hs (hstill.symm.trans hmoving) hg hlim
  · exact (raises_sampleBrakes _).ended ((sampleCapped_still s).trans (hstill.symm.trans h'))
      (sampleCapped_ended h (hstill.symm.trans h'))

end Sys2Proof.Machine
end

section
/-! What a speed sample reads (O48): speeds, directions, standstill and the held count. -/

namespace Sys2Proof.Machine

variable {s t u : State}

/-! ## The speeds and the standstill (R27 to R29) -/

theorem dirOf_eq_none (a b : Count) : dirOf (countDiff a b) = none ↔ a = b := by
  have hzero : countDiff a b = 0 ↔ a = b := by
    rw [countDiff, ← BitVec.toInt_zero, BitVec.toInt_inj]
    exact sub_eq_zero
  rw [← hzero]
  unfold dirOf
  split
  · simp; omega
  · split <;> simp <;> omega

theorem sampleSpeed_travelDir (s : State) :
    (sampleSpeed s).psu.travelDir =
      if s.psu.count = s.psu.countPrev then s.psu.travelDir else (sampleSpeed s).psu.ropeDir := by
  rw [sampleSpeed_ropeDir]
  simp only [← dirOf_eq_none]
  simp only [sampleSpeed]
  split <;> simp

theorem updateStill_heldCount (s : State) :
    (updateStill s).psu.heldCount =
      if s.psu.still = false ∧ (updateStill s).psu.still = true then s.psu.count else s.psu.heldCount := by
  obtain ⟨n, ⟨hs, h⟩ | ⟨hs, h⟩ | h⟩ := updateStill_cases s
  · simp [h, hs, confirmStill, clearExpected, stillCounted]
  · simp [h, hs, stillCounted]
  · cases hs : s.psu.still <;> simp [h, hs, stillCounted]

/-- What the encoder and the reports give at a sample. -/
theorem sampleRead_speeds (s : State) :
    (sampleRead s).psu.sampleTimer = ⟨(sampleRead s).now, (sampleRead s).now + s.params.ts⟩ ∧
    (sampleRead s).psu.countPrev = s.psu.count ∧
    (sampleRead s).psu.vRope =
      min 4095 ((s.psu.count - s.psu.countPrev).toInt.natAbs * s.params.kEnc * 1000 /
        (65536 * (s.psu.sampleTimer.due - s.psu.sampleTimer.start))) ∧
    (sampleRead s).psu.vEval =
      max (sampleRead s).psu.vRope
        (max (if isFresh (advanceTo s.psu.sampleTimer.due s) .a then s.cru.a.poll.speed else 0)
          (if isFresh (advanceTo s.psu.sampleTimer.due s) .b then s.cru.b.poll.speed else 0)) ∧
    (sampleRead s).psu.ropeDir = dirOf (s.psu.count - s.psu.countPrev).toInt ∧
    (sampleRead s).psu.travelDir =
      (if s.psu.count = s.psu.countPrev then s.psu.travelDir else (sampleRead s).psu.ropeDir) := by
  have hmax : Config.speedMax = 4095 := rfl
  refine ⟨?_, ?_, ?_, ?_, ?_, ?_⟩
  · simp [sampleRead, startAt, State.params, advanceTo]
  · simp [sampleRead, advanceTo]
  · simp [sampleRead, ropeSpeed, countDiff, State.params, advanceTo, hmax]
  · simp only [sampleRead, updateStill_frame, sampleSpeed_vEval]
    rfl
  · simp [sampleRead, countDiff, advanceTo]
  · simp [sampleRead, sampleSpeed_travelDir, advanceTo]

/-- The standstill after a sample and the count held at it. -/
theorem sampleRead_still (s : State) :
    (sampleRead s).psu.stillCount =
      (if (sampleRead s).psu.vEval ≤ s.params.vstill then min 50 (s.psu.stillCount + 1) else 0) ∧
    (sampleRead s).psu.still =
      (decide ((sampleRead s).psu.vEval ≤ s.params.vstill) &&
        (s.psu.still || decide (s.params.nStill ≤ (sampleRead s).psu.stillCount))) ∧
    (sampleRead s).psu.heldCount =
      if s.psu.still = false ∧ (sampleRead s).psu.still = true then s.psu.count else s.psu.heldCount := by
  have hmax : Config.stillMax = 50 := rfl
  have hcount : (sampleRead s).psu.stillCount =
      (if (sampleRead s).psu.vEval ≤ s.params.vstill then min 50 (s.psu.stillCount + 1) else 0) := by
    simp [sampleRead, satAdd, hmax, State.params, advanceTo]
  refine ⟨hcount, ?_, ?_⟩
  · have hstill : (sampleRead s).psu.still =
        (decide ((sampleRead s).psu.vEval ≤ s.params.vstill) &&
          (s.psu.still || decide (s.params.nStill ≤ min 50 (s.psu.stillCount + 1)))) := by
      simp [sampleRead, satAdd, hmax, State.params, advanceTo]
    rw [hstill, hcount]
    by_cases hv : (sampleRead s).psu.vEval ≤ s.params.vstill <;> simp [hv]
  · simpa [sampleRead, advanceTo] using updateStill_heldCount (sampleSpeed (advanceTo s.psu.sampleTimer.due s))

/-! ## The rest of the sample -/

/-- What the monitors, the ceiling and the brakes leave of a sample's reading. -/
theorem sampleBraked_frame (s : State) :
    (sampleBraked s).cfg = s.cfg ∧ (sampleBraked s).now = (sampleRead s).now ∧
      (sampleBraked s).psu.count = s.psu.count ∧ (sampleBraked s).psu.countPrev = (sampleRead s).psu.countPrev ∧
      (sampleBraked s).psu.sampleTimer = (sampleRead s).psu.sampleTimer ∧
      (sampleBraked s).psu.vRope = (sampleRead s).psu.vRope ∧ (sampleBraked s).psu.vEval = (sampleRead s).psu.vEval ∧
      (sampleBraked s).psu.ropeDir = (sampleRead s).psu.ropeDir ∧
      (sampleBraked s).psu.travelDir = (sampleRead s).psu.travelDir ∧
      (sampleBraked s).psu.stillCount = (sampleRead s).psu.stillCount ∧
      (sampleBraked s).psu.still = (sampleRead s).psu.still ∧ (sampleBraked s).psu.ref = s.psu.ref ∧
      (sampleBraked s).psu.armed = (runMonitors (sampleRead s)).psu.armed ∧
      (sampleBraked s).psu.expected = (runMonitors (sampleRead s)).psu.expected ∧
      (sampleBraked s).clc.c = (sampleCapped s).clc.c := by
  simp [sampleBraked, sampleCapped]

theorem pos_sampleBraked (s : State) : pos (sampleBraked s) = pos s := by
  apply pos_same <;> simp [sampleBraked, sampleCapped]

theorem isMoving_sampleBraked (s : State) : isMoving (sampleBraked s).trc.state = isMoving s.trc.state := by
  have hw := (raises_runMonitors (sampleRead s)).moving
  have hb := (raises_sampleBrakes (sampleCapped s)).moving
  simpa [sampleBraked, sampleCapped, hw] using hb

theorem sampleBraked_heldCount (s : State) : (sampleBraked s).psu.heldCount = (sampleRead s).psu.heldCount := by
  have hw := (raises_runMonitors (sampleRead s)).held
  have hb := (raises_sampleBrakes (sampleCapped s)).held
  simpa [sampleBraked, sampleCapped, hw] using hb

theorem newDwell_heldCount (k : Stop) (hm : isMoving s.trc.state = true) :
    (newDwell k s).psu.heldCount = if s.psu.still = true then s.psu.count else s.psu.heldCount := by
  have hd : isMoving (.dwell k) = false := rfl
  simp [newDwell, setTripState_heldCount, hm, hd]

/-- The count is held where the sample ends a trip at standstill. -/
theorem sampleTrip_heldCount (s : State) :
    (sampleTrip s).psu.heldCount =
      if s.psu.still = true ∧ isMoving s.trc.state = true ∧ isMoving (sampleTrip s).trc.state = false then s.psu.count
      else s.psu.heldCount := by
  unfold sampleTrip
  split
  next hs =>
    split
    · split
      · simp [setTripState_heldCount, isMoving]
      · simp [hs, isMoving]
    · simp [hs, isMoving]
  next hs =>
    split
    next h =>
      have hcomplete : (completeTrip s).psu.heldCount = s.psu.count := by
        simp [completeTrip, freeSlots, zeroMismatch, newDwell_heldCount, hs, isMoving, h.1]
      have hstate : isMoving (completeTrip s).trc.state = false := by simp [completeTrip, freeSlots, isMoving]
      rw [hcomplete, hstate]
      simp [hs, isMoving, h.1]
    next => simp [hs, isMoving]
  next => simp

/-- The distance to the target that a moving trip's sample leaves (R45). -/
theorem sampleTrip_distance {dir : TripDir} {tpos : Nat} (hcom : s.cfg.committed = true)
    (hm : isMoving s.trc.state = true) (hdir : s.trc.trip.direction = some dir) (htpos : s.trc.trip.tpos = some tpos) :
    (sampleBraked s).clc.d = some (distanceToGo dir (pos s) tpos) := by
  have hw := raises_runMonitors (sampleRead s)
  obtain ⟨htrip, -⟩ := hw.run (by simpa using hm)
  have hmoving : isMoving (runMonitors (sampleRead s)).trc.state = true := by simpa [hw.moving] using hm
  obtain ⟨-, hd, -⟩ := sampleCeiling_moving (s := runMonitors (sampleRead s)) (by simpa using hcom) hmoving
  rw [sampleBraked, (raises_sampleBrakes _).dist, sampleCapped, hd, htrip]
  simp [hdir, htpos]

end Sys2Proof.Machine
end

section
/-! The motion monitors and the missed-marker checks of a sample (O48). -/

namespace Sys2Proof.Machine

variable {s t u v w : State} {L L' : List Cause} {c : Cause}

/-! ## One monitor (R30) -/

theorem Armed.get_set (a : Armed) (x : Bool) (m n : Monitor) : (a.set x m).get n = if n = m then x else a.get n := by
  cases m <;> cases n <;> rfl

/-- A monitor is armed exactly where its condition does not hold. -/
theorem runMonitor_armed (m n : Monitor) (s : State) :
    (runMonitor m s).psu.armed.get n = if n = m then !monitorHolds s m else s.psu.armed.get n := by
  unfold runMonitor
  split
  next h =>
    split
    · simp [setArmed, Armed.get_set, h]
    next ha =>
      by_cases hn : n = m
      · subst hn
        simpa [h] using ha
      · simp [hn]
  next h =>
    simp [setArmed, Armed.get_set, h]

theorem runMonitor_raisedWith {m : Monitor} (hh : monitorHolds s m = true) (ha : s.psu.armed.get m = true) :
    RaisedWith m.cause (.motion (pos s) s.psu.vEval s.trc.state) s (runMonitor m s) := by
  have hrun : runMonitor m s = raiseCause m.cause (.motion (pos s) s.psu.vEval s.trc.state) (setArmed m false s) := by
    rw [runMonitor, if_pos hh, if_pos ha]
  rw [hrun]
  obtain ⟨hhas, hnew⟩ :=
    raisedWith_raiseCause m.cause (.motion (pos s) s.psu.vEval s.trc.state) (setArmed m false s)
  exact ⟨hhas, fun hs => hnew (by simpa [hasCause] using hs)⟩

theorem monitored_runMonitor {m : Monitor} {holds : Prop} (hh : monitorHolds s m = true ↔ holds) :
    Monitored m.cause [] (s.psu.armed.get m) ((runMonitor m s).psu.armed.get m) holds s (runMonitor m s) := by
  refine ⟨fun h => ⟨by simp [runMonitor_armed, hh.mpr h], fun ha => ?_⟩, fun h => ?_⟩
  · obtain ⟨hhas, hnew⟩ := runMonitor_raisedWith (hh.mpr h) ha
    exact ⟨hhas, fun hs => ⟨_, hnew hs, s.trc.state, by simp, fun _ => rfl⟩⟩
  · simp [runMonitor_armed, Bool.eq_false_iff.mpr fun hm => h (hh.mp hm)]

/-- A monitor between other checks of the sample: those before it may change the trip state by the causes they raise. -/
theorem Monitored.within {was is : Bool} {holds : Prop} (h : Monitored c [] was is holds v w) (hb : Raises L s v)
    (hc : c ∉ L) (hvw : v.brs.causes ⊆ w.brs.causes) (hkept : w.brs.causes ⊆ t.brs.causes)
    (hpos : pos v = pos s) (hev : t.psu.vEval = w.psu.vEval) :
    Monitored c L was is holds s t := by
  obtain ⟨hh, hn⟩ := h
  refine ⟨fun hp => ?_, hn⟩
  obtain ⟨his, hwas⟩ := hh hp
  refine ⟨his, fun ha => ?_⟩
  obtain ⟨hhas, hnew⟩ := hwas ha
  refine ⟨hasCause_of_subset hkept hhas, fun hs => ?_⟩
  obtain ⟨x, hx, ts, rfl, hts⟩ := hnew ((hb.only c hc).trans hs)
  refine ⟨_, hkept hx, ts, by rw [hpos, hev], fun hall => ?_⟩
  have hsame : v.brs.causes = s.brs.causes := hb.unchanged fun e he => by
    cases hv : hasCause v e with
    | true => rw [← hall e he, hasCause_of_subset (List.Subset.trans hvw hkept) hv]
    | false =>
      cases hse : hasCause s e with
      | true => exact absurd (hb.has hse) (by simp [hv])
      | false => rfl
  rw [hts (by simp), (hb.calm hsame).2.1]

/-- The monitor's conditions and its record are those of the state before the sample's reading. -/
theorem Monitored.from_read {before : List Cause} {was is : Bool} {holds : Prop}
    (h : Monitored c before was is holds (sampleRead s) t) : Monitored c before was is holds s t := by
  simpa [Monitored, hasCause] using h

/-! ## The monitors one after another (R28) -/

/-- Behind the furthest count and the rollback monitor. -/
def rollbackRun (s : State) : State := runMonitor .rollback (takeFurthest s)

/-- Behind the unintended-motion monitor. -/
def unintendedRun (s : State) : State := runMonitor .unintended (rollbackRun s)

/-- Behind the overtravel monitor. -/
def overtravelRun (s : State) : State := runMonitor .overtravel (unintendedRun s)

/-- Behind the overshoot monitor. -/
def overshootRun (s : State) : State := runMonitor .overshoot (overtravelRun s)

theorem runMonitors_eq (s : State) : runMonitors s = checkMissed .b (checkMissed .a (overshootRun s)) := rfl

theorem raises_rollbackRun (s : State) : Raises [.rollback] s (rollbackRun s) :=
  (raises_takeFurthest s).trans (raises_runMonitor (by decide) _)

theorem raises_unintendedRun (s : State) : Raises [.rollback, .unintendedMotion] s (unintendedRun s) :=
  ((raises_rollbackRun s).mono (by simp)).trans (raises_runMonitor (by decide) _)

theorem raises_overtravelRun (s : State) : Raises [.rollback, .unintendedMotion, .overtravel] s (overtravelRun s) :=
  ((raises_unintendedRun s).mono (by simp)).trans (raises_runMonitor (by decide) _)

theorem raises_overshootRun (s : State) :
    Raises [.rollback, .unintendedMotion, .overtravel, .overshoot] s (overshootRun s) :=
  ((raises_overtravelRun s).mono (by simp)).trans (raises_runMonitor (by decide) _)

theorem raises_afterOvershoot (s : State) : Raises [.markerMissed] (overshootRun s) (runMonitors s) :=
  (raises_checkMissed (by decide) .a _).trans (raises_checkMissed (by decide) .b _)

theorem raises_afterOvertravel (s : State) : Raises monitorCauses (overtravelRun s) (runMonitors s) :=
  (raises_runMonitor (m := .overshoot) (by decide) _).trans ((raises_afterOvershoot s).mono (by decide))

theorem raises_afterUnintended (s : State) : Raises monitorCauses (unintendedRun s) (runMonitors s) :=
  (raises_runMonitor (m := .overtravel) (by decide) _).trans (raises_afterOvertravel s)

theorem raises_afterRollback (s : State) : Raises monitorCauses (rollbackRun s) (runMonitors s) :=
  (raises_runMonitor (m := .unintended) (by decide) _).trans (raises_afterUnintended s)

@[simp] theorem checkMissed_armed (c : Car) (s : State) : (checkMissed c s).psu.armed = s.psu.armed := by simp

/-- Which monitors a sample leaves armed. -/
theorem runMonitors_armed (s : State) :
    (runMonitors s).psu.armed.rollback = (!monitorHolds (takeFurthest s) .rollback) ∧
      (runMonitors s).psu.armed.unintended = (!monitorHolds (rollbackRun s) .unintended) ∧
      (runMonitors s).psu.armed.overtravel = (!monitorHolds (unintendedRun s) .overtravel) ∧
      (runMonitors s).psu.armed.overshoot = (!monitorHolds (overtravelRun s) .overshoot) := by
  have hget (n : Monitor) : (runMonitors s).psu.armed.get n = (overshootRun s).psu.armed.get n := by
    rw [runMonitors_eq, checkMissed_armed, checkMissed_armed]
  refine ⟨?_, ?_, ?_, ?_⟩
  · exact (hget .rollback).trans (by simp [overshootRun, overtravelRun, unintendedRun, rollbackRun, runMonitor_armed])
  · exact (hget .unintended).trans (by simp [overshootRun, overtravelRun, unintendedRun, runMonitor_armed])
  · exact (hget .overtravel).trans (by simp [overshootRun, overtravelRun, runMonitor_armed])
  · exact (hget .overshoot).trans (by simp [overshootRun, runMonitor_armed])

/-- `t` stands behind the monitors of a sample of `s`, and what came after them keeps what they found. -/
structure AfterMonitors (s t : State) : Prop where
  causes   : (runMonitors (sampleRead s)).brs.causes ⊆ t.brs.causes
  vEval    : t.psu.vEval = (sampleRead s).psu.vEval
  armed    : t.psu.armed = (runMonitors (sampleRead s)).psu.armed
  expected : t.psu.expected = (runMonitors (sampleRead s)).psu.expected
  pending  : ∀ st k, isPending ((runMonitors (sampleRead s)).niu.notices.get st) k = true →
    isPending (t.niu.notices.get st) k = true

/-- A monitor of the sample, run in the state `v` behind those before it. -/
theorem AfterMonitors.monitored {m : Monitor} {holds : Prop} (h : AfterMonitors s t) (hb : Raises L (sampleRead s) v)
    (hc : m.cause ∉ L) (ha : Raises L' (runMonitor m v) (runMonitors (sampleRead s))) (hpos : pos v = pos s)
    (hwas : v.psu.armed.get m = s.psu.armed.get m) (hev : v.psu.vEval = (sampleRead s).psu.vEval)
    (his : (runMonitors (sampleRead s)).psu.armed.get m = !monitorHolds v m) (hh : monitorHolds v m = true ↔ holds) :
    Monitored m.cause L (s.psu.armed.get m) (t.psu.armed.get m) holds s t := by
  have hrun := monitored_runMonitor hh
  rw [runMonitor_armed, if_pos rfl, ← his, ← h.armed, hwas] at hrun
  refine (hrun.within hb hc ?_ (List.Subset.trans ha.kept h.causes) (by simpa using hpos) ?_).from_read
  · exact (raises_runMonitor (L := [m.cause]) (by simp) v).kept
  · simp [h.vEval, hev]

/-- The furthest count of a trip that may not fall back, with the present one taken (R31). -/
theorem countDistance_further (dir : TripDir) (furthest : Count) :
    countDistance s (furtherCount dir furthest s.psu.count) s.psu.count = fallenBack s dir furthest := by
  have hself : countDiff s.psu.count s.psu.count = 0 := by simp [countDiff]
  cases dir with
  | upA =>
    by_cases h : 0 < countDiff s.psu.count furthest
    · have hahead : 0 < (s.psu.count - furthest).toInt := h
      simp only [furtherCount, h, if_true, countDistance, hself, fallenBack, hahead, decide_true]
      simp
    · have hahead : ¬ 0 < (s.psu.count - furthest).toInt := h
      simp only [furtherCount, h, if_false, countDistance, fallenBack, hahead, decide_false, Bool.false_eq_true]
      rfl
  | downA =>
    by_cases h : countDiff s.psu.count furthest < 0
    · have hahead : (s.psu.count - furthest).toInt < 0 := h
      simp only [furtherCount, h, if_true, countDistance, hself, fallenBack, hahead, decide_true]
      simp
    · have hahead : ¬ (s.psu.count - furthest).toInt < 0 := h
      simp only [furtherCount, h, if_false, countDistance, fallenBack, hahead, decide_false, Bool.false_eq_true]
      rfl

theorem monitorHolds_rollback {dir : TripDir} {furthest : Count} (hdir : s.trc.trip.direction = some dir)
    (hf : s.psu.furthest = some furthest) :
    monitorHolds (takeFurthest s) .rollback = true ↔
      isPowered s.trc.state = true ∧ s.params.rollbackTol < fallenBack s dir furthest := by
  rw [← countDistance_further]
  by_cases hp : isPowered s.trc.state = true <;>
    simp [monitorHolds, takeFurthest, hp, hdir, hf, countDistance, State.params]

theorem monitorHolds_unpowered (h : isPowered s.trc.state = false) :
    monitorHolds (takeFurthest s) .rollback = false := by
  simp [monitorHolds, h]

theorem fallenBack_sampleRead (dir : TripDir) (furthest : Count) :
    fallenBack (sampleRead s) dir furthest = fallenBack s dir furthest := by
  simp [fallenBack, State.params]

theorem isPowered_of_isMoving_false {ts : TripState} (h : isMoving ts = false) : isPowered ts = false := by
  cases ts <;> simp_all [isMoving, isPowered]

/-- R31. -/
theorem AfterMonitors.rollback (h : AfterMonitors s t) {dir : TripDir} {furthest : Count}
    (hdir : s.trc.trip.direction = some dir) (hf : s.psu.furthest = some furthest) :
    Monitored .rollback [] s.psu.armed.rollback t.psu.armed.rollback
      (isPowered s.trc.state = true ∧ s.params.rollbackTol < fallenBack s dir furthest) s t := by
  refine h.monitored (m := .rollback) (raises_takeFurthest _) (by simp) (raises_afterRollback _) ?_ (by simp [Armed.get])
    (by simp) (runMonitors_armed _).1 ?_
  · exact (pos_same (by simp) (by simp) (by simp) (by simp)).trans (pos_sampleRead s)
  · rw [monitorHolds_rollback (dir := dir) (furthest := furthest) (by simpa using hdir) (by simpa using hf),
      fallenBack_sampleRead]
    simp [State.params]

/-- R32: while the trip does not move. -/
theorem AfterMonitors.unintended (h : AfterMonitors s t) (hm : isMoving s.trc.state = false)
    (hheld : t.psu.heldCount = (sampleRead s).psu.heldCount) :
    Monitored .unintendedMotion [] s.psu.armed.unintended t.psu.armed.unintended
      (s.params.creepTol < drifted s t.psu.heldCount) s t := by
  have hroll : rollbackRun (sampleRead s) = setArmed .rollback true (takeFurthest (sampleRead s)) := by
    rw [rollbackRun, runMonitor, if_neg]
    simp [monitorHolds_unpowered (s := sampleRead s) (isPowered_of_isMoving_false (by simpa using hm))]
  have hquiet : Raises [] (sampleRead s) (rollbackRun (sampleRead s)) := by
    rw [hroll]
    exact (raises_takeFurthest _).trans (raises_setArmed _ _ _)
  refine h.monitored (m := .unintended) hquiet (by simp) (raises_afterUnintended _) ?_ ?_ (by simp [rollbackRun])
    (runMonitors_armed _).2.1 ?_
  · exact (pos_same (by simp [rollbackRun]) (by simp [rollbackRun]) (by simp [rollbackRun])
      (by simp [rollbackRun])).trans (pos_sampleRead s)
  · simp [rollbackRun, runMonitor_armed]
  · have hcount : (rollbackRun (sampleRead s)).psu.count = s.psu.count := by simp [rollbackRun]
    have hpar : (rollbackRun (sampleRead s)).params = s.params := by simp [rollbackRun, State.params]
    simp [monitorHolds, hquiet.moving, hm, drifted, countDistance, countDiff, hquiet.held, hheld, hcount, hpar]

theorem AfterMonitors.unintended_moving (h : AfterMonitors s t) (hm : isMoving s.trc.state = true) :
    t.psu.armed.unintended = true := by
  rw [h.armed, (runMonitors_armed _).2.1]
  simp [monitorHolds, (raises_rollbackRun (sampleRead s)).moving, hm]

/-- R33. -/
theorem AfterMonitors.overtravel (h : AfterMonitors s t) :
    Monitored .overtravel [.rollback, .unintendedMotion] s.psu.armed.overtravel t.psu.armed.overtravel
      (s.psu.ref = .referenced ∧
        (pos s < -(s.params.ovtTol : Int) ∨ (s.params.trackLen + s.params.ovtTol : Int) < pos s)) s t := by
  have hpos : pos (unintendedRun (sampleRead s)) = pos s :=
    (pos_same (by simp [rollbackRun, unintendedRun]) (by simp [rollbackRun, unintendedRun])
      (by simp [rollbackRun, unintendedRun]) (by simp [rollbackRun, unintendedRun])).trans (pos_sampleRead s)
  refine h.monitored (m := .overtravel) (raises_unintendedRun _) (by decide) (raises_afterOvertravel _) hpos ?_
    (by simp [rollbackRun, unintendedRun]) (runMonitors_armed _).2.2.1 ?_
  · simp [rollbackRun, unintendedRun, runMonitor_armed]
  · have href : (unintendedRun (sampleRead s)).psu.ref = s.psu.ref := by simp [rollbackRun, unintendedRun]
    have hpar : (unintendedRun (sampleRead s)).params = s.params := by simp [rollbackRun, unintendedRun, State.params]
    simp [monitorHolds, hpos, href, hpar]

/-- R34. -/
theorem AfterMonitors.overshoot (h : AfterMonitors s t) (hdir : s.trc.trip.direction ≠ none)
    (htpos : s.trc.trip.tpos ≠ none) :
    Monitored .overshoot [.rollback, .unintendedMotion, .overtravel] s.psu.armed.overshoot t.psu.armed.overshoot
      (s.psu.ref = .referenced ∧ isMoving s.trc.state = true ∧ Overshot s) s t := by
  have hraises := raises_overtravelRun (sampleRead s)
  have hpos : pos (overtravelRun (sampleRead s)) = pos s :=
    (pos_same (by simp [rollbackRun, unintendedRun, overtravelRun]) (by simp [rollbackRun, unintendedRun, overtravelRun])
      (by simp [rollbackRun, unintendedRun, overtravelRun])
      (by simp [rollbackRun, unintendedRun, overtravelRun])).trans (pos_sampleRead s)
  refine h.monitored (m := .overshoot) hraises (by decide) (raises_afterOvershoot _) hpos ?_
    (by simp [rollbackRun, unintendedRun, overtravelRun]) (runMonitors_armed _).2.2.2 ?_
  · simp [rollbackRun, unintendedRun, overtravelRun, runMonitor_armed]
  · have href : (overtravelRun (sampleRead s)).psu.ref = s.psu.ref := by
      simp [rollbackRun, unintendedRun, overtravelRun]
    have hpar : (overtravelRun (sampleRead s)).params = s.params := by
      simp [rollbackRun, unintendedRun, overtravelRun, State.params]
    have hmoving : isMoving (overtravelRun (sampleRead s)).trc.state = isMoving s.trc.state := by simp [hraises.moving]
    by_cases hm : isMoving s.trc.state = true
    · have htrip : (overtravelRun (sampleRead s)).trc.trip = s.trc.trip := by
        simpa using (hraises.run (by simpa using hm)).1
      obtain ⟨dir, hdir⟩ := Option.ne_none_iff_exists'.mp hdir
      obtain ⟨tpos, htpos⟩ := Option.ne_none_iff_exists'.mp htpos
      cases dir <;> simp [monitorHolds, pastTarget, Overshot, hpos, href, hpar, hmoving, htrip, hm, hdir, htpos]
    · simp [monitorHolds, hmoving, hm]

end Sys2Proof.Machine
end

section
/-! The missed-marker checks of a sample (O48), and the markers expected. -/

namespace Sys2Proof.Machine

variable {s t u v w : State} {L L' : List Cause} {c : Car} {dir : TripDir}

/-! ## The marker beyond a position (R25) -/

theorem isBeyond_asymm {x y : Int} (h : isBeyond dir x y = true) : isBeyond dir y x = false := by
  cases dir <;> simp_all [isBeyond] <;> omega

theorem not_isBeyond_trans {x y z : Int} (h : isBeyond dir x y = false) (h' : isBeyond dir y z = false) :
    isBeyond dir x z = false := by
  cases dir <;> simp_all [isBeyond] <;> omega

theorem not_isBeyond_self (x : Int) : isBeyond dir x x = false := by cases dir <;> simp [isBeyond]

/-- The nearer of two markers is beyond neither. -/
theorem nearerMarker_spec (best : Option Nat) (a : Nat) : ∃ n, nearerMarker s c dir best a = some n ∧
    (n = a ∨ best = some n) ∧ isBeyond dir (expectedPos s c n) (expectedPos s c a) = false ∧
      ∀ b, best = some b → isBeyond dir (expectedPos s c n) (expectedPos s c b) = false := by
  unfold nearerMarker
  cases best with
  | none => exact ⟨a, rfl, .inl rfl, not_isBeyond_self _, by simp⟩
  | some b =>
    dsimp only
    split
    next h =>
      refine ⟨a, rfl, .inl rfl, not_isBeyond_self _, fun b' hb => ?_⟩
      obtain rfl := Option.some.inj hb
      exact isBeyond_asymm h
    next h =>
      refine ⟨b, rfl, .inr rfl, by simpa using h, fun b' hb => ?_⟩
      obtain rfl := Option.some.inj hb
      exact not_isBeyond_self _

/-- The fold over a list of markers keeps the nearest. -/
theorem foldl_nearerMarker (l : List Nat) (best : Option Nat) :
    (l.foldl (nearerMarker s c dir) best = none → l = [] ∧ best = none) ∧
      ∀ m, l.foldl (nearerMarker s c dir) best = some m →
        (m ∈ l ∨ best = some m) ∧ (∀ o ∈ l, isBeyond dir (expectedPos s c m) (expectedPos s c o) = false) ∧
          ∀ b, best = some b → isBeyond dir (expectedPos s c m) (expectedPos s c b) = false := by
  induction l generalizing best with
  | nil =>
    refine ⟨fun h => ⟨rfl, h⟩, fun m hm => ?_⟩
    obtain rfl : best = some m := hm
    refine ⟨.inr rfl, by simp, fun b hb => ?_⟩
    obtain rfl := Option.some.inj hb
    exact not_isBeyond_self _
  | cons a l ih =>
    obtain ⟨n, hn, hfrom, hna, hnb⟩ := nearerMarker_spec (s := s) (c := c) (dir := dir) best a
    obtain ⟨hnone, hsome⟩ := ih (some n)
    simp only [List.foldl_cons, hn]
    refine ⟨fun h => absurd (hnone h).2 (by simp), fun m hm => ?_⟩
    obtain ⟨hmem, hl, hbest⟩ := hsome m hm
    have hmn := hbest n rfl
    refine ⟨?_, fun o ho => ?_, fun b hb => not_isBeyond_trans hmn (hnb b hb)⟩
    · rcases hmem with hm | hm
      · exact .inl (List.mem_cons_of_mem a hm)
      · obtain rfl := Option.some.inj hm
        rcases hfrom with rfl | hb
        · exact .inl List.mem_cons_self
        · exact .inr hb
    · rcases List.mem_cons.mp ho with rfl | ho
      · exact not_isBeyond_trans hmn hna
      · exact hl o ho

/-- The marker found is the one expected beyond `x` (R25). -/
theorem expectedBeyond_nextMarker (s : State) (c : Car) (dir : TripDir) (x : Int) :
    ExpectedBeyond s c dir x (nextMarker s c dir x) := by
  unfold ExpectedBeyond nextMarker
  obtain ⟨hnone, hsome⟩ := foldl_nearerMarker (s := s) (c := c) (dir := dir)
    ((List.range s.cfg.markers.length).filter fun m => isBeyond dir (expectedPos s c m) x) none
  split
  next h =>
    intro m hm
    have hmem := List.filter_eq_nil_iff.mp (hnone h).1 m (List.mem_range.mpr hm)
    simpa using hmem
  next m h =>
    obtain ⟨hmem, hl, -⟩ := hsome m h
    obtain ⟨hlt, hb⟩ := List.mem_filter.mp (hmem.resolve_right (by simp))
    exact ⟨List.mem_range.mp hlt, hb, fun o ho hob => hl o (List.mem_filter.mpr ⟨List.mem_range.mpr ho, hob⟩)⟩

/-- Only the markers and the track's length decide which is expected. -/
theorem ExpectedBeyond.congr {x : Int} {e : Option Nat} (h : ExpectedBeyond s c dir x e) (hcfg : t.cfg = s.cfg) :
    ExpectedBeyond t c dir x e := by
  have hpos : expectedPos t c = expectedPos s c := by
    funext m
    cases c <;> simp [expectedPos, State.params, hcfg]
  unfold ExpectedBeyond at h ⊢
  rwa [hpos, hcfg]

theorem expectedPos_congr (hcfg : t.cfg = s.cfg) (c : Car) (m : Nat) : expectedPos t c m = expectedPos s c m := by
  cases c <;> simp [expectedPos, State.params, hcfg]

theorem expectBeyond_expected (htravel : s.psu.travelDir = some dir) (c : Car) (x : Int) :
    ExpectedBeyond s c dir x ((expectBeyond c x s).psu.expected.get c) := by
  simpa [expectBeyond, htravel] using expectedBeyond_nextMarker s c dir x

theorem expectBeyond_other {o : Car} (h : o ≠ c) (x : Int) :
    (expectBeyond c x s).psu.expected.get o = s.psu.expected.get o := by
  cases c <;> cases o <;> simp_all [expectBeyond, PerCar.set, PerCar.get]

/-! ## A marker missed (R26) -/

theorem missMarker_other {o : Car} (h : o ≠ c) (m : Nat) :
    (missMarker c m s).psu.expected.get o = s.psu.expected.get o := by
  rw [missMarker, expectBeyond_other h]
  split <;> simp

theorem checkMissed_other {o : Car} (h : o ≠ c) : (checkMissed c s).psu.expected.get o = s.psu.expected.get o := by
  unfold checkMissed
  split
  · dsimp only
    split
    · exact missMarker_other h _
    · rfl
  · rfl

/-- What a missed marker leaves: the next one expected, and the cause or the fault. -/
theorem missMarker_spec (htravel : s.psu.travelDir = some dir) (c : Car) (e : Nat) :
    ExpectedBeyond s c dir (expectedPos s c e) ((missMarker c e s).psu.expected.get c) ∧
      (trackedTrip s = true → RaisedWith .markerMissed (.marker c e) s (missMarker c e s)) ∧
      (trackedTrip s = false → isPending ((missMarker c e s).niu.notices.get .drv) .fault = true ∧
        isPending ((missMarker c e s).niu.notices.get .con) .fault = true) := by
  by_cases ht : trackedTrip s = true
  · have hrun : missMarker c e s =
        expectBeyond c (expectedPos s c e) (raiseCause .markerMissed (.marker c e) s) := by
      simp [missMarker, ht]
    rw [hrun]
    refine ⟨?_, fun _ => ?_, fun hf => by simp [ht] at hf⟩
    · exact (expectBeyond_expected (by simpa using htravel) c _).congr (by simp)
    · simpa [RaisedWith, hasCause] using raisedWith_raiseCause .markerMissed (.marker c e) s
  · have hrun : missMarker c e s = expectBeyond c (expectedPos s c e)
        (hand .fault (.fault .markerMissed (.marker c e)) [.drv, .con] (capture (.cause .markerMissed) s)) := by
      simp [missMarker, ht]
    rw [hrun]
    refine ⟨?_, fun h => absurd h ht, fun _ => ⟨?_, ?_⟩⟩
    · exact (expectBeyond_expected (by simpa using htravel) c _).congr (by simp)
    · simp [expectBeyond, isPending_hand]
    · simp [expectBeyond, isPending_hand]

/-! ## The check of a sample -/

/-- Whether car `c`, with marker `e` expected, has gone past it (R26). -/
def PastExpected (s : State) (c : Car) (dir : TripDir) (e : Nat) : Prop :=
  isBeyond dir (pos s) (expectedPos s c e) = true ∧ s.params.mkMiss < (pos s - expectedPos s c e).natAbs

theorem checkMissed_cases {e : Nat} (href : s.psu.ref = .referenced) (hstill : s.psu.still = false)
    (htravel : s.psu.travelDir = some dir) (hexp : s.psu.expected.get c = some e) :
    (PastExpected s c dir e → checkMissed c s = missMarker c e s) ∧
      (¬ PastExpected s c dir e → checkMissed c s = s) := by
  have hrun : checkMissed c s = if s.psu.ref = .referenced ∧ s.psu.still = false ∧
      isBeyond dir (pos s) (expectedPos s c e) = true ∧ s.params.mkMiss < (pos s - expectedPos s c e).natAbs then
        missMarker c e s else s := by
    unfold checkMissed
    rw [hexp, htravel]
  rw [hrun]
  exact ⟨fun h => if_pos ⟨href, hstill, h⟩, fun h => if_neg fun hp => h hp.2.2⟩

/-- A trip behind the monitors is tracked as it was before them, unless one of them aborted it. -/
theorem Raises.tracked (h : Raises L s t) :
    (isMoving s.trc.state = true → s.trc.trip.mode = some .normal ∨ s.trc.trip.mode = some .reduced →
      trackedTrip t = true) ∧
    (inFlight s.trc.state = false ∨ s.trc.trip.mode = some .inspection → trackedTrip t = false) := by
  refine ⟨fun hm hmode => ?_, fun hno => ?_⟩
  · have hmoving : isMoving t.trc.state = true := h.moving.trans hm
    have hfl : inFlight t.trc.state = true := by
      cases hs : t.trc.state <;> simp_all [isMoving, inFlight]
    simp [trackedTrip, hfl, h.mode, hmode]
  · rcases hno with hf | hmode
    · simp [trackedTrip, h.flight hf]
    · simp [trackedTrip, h.mode, hmode]

/-- The check of a car at a sample, run in the state `v` behind the monitors. -/
theorem AfterMonitors.missChecked (h : AfterMonitors s t) {e : Nat} (hb : Raises L (sampleRead s) v)
    (ha : Raises L' (checkMissed c v) (runMonitors (sampleRead s))) (hcfg : v.cfg = s.cfg) (hpos : pos v = pos s)
    (href : v.psu.ref = .referenced) (hstill : v.psu.still = false) (htravel : v.psu.travelDir = some dir)
    (hexp : v.psu.expected.get c = some e)
    (hlast : (runMonitors (sampleRead s)).psu.expected.get c = (checkMissed c v).psu.expected.get c) :
    MissChecked c e dir s t := by
  obtain ⟨hpast, hnot⟩ := checkMissed_cases href hstill htravel hexp
  obtain ⟨htracked, huntracked⟩ := hb.tracked
  have hcond : PastExpected v c dir e ↔
      isBeyond dir (pos s) (expectedPos s c e) = true ∧ s.params.mkMiss < (pos s - expectedPos s c e).natAbs := by
    simp [PastExpected, hpos, expectedPos_congr hcfg, State.params, hcfg]
  have hfinal : t.psu.expected.get c = (checkMissed c v).psu.expected.get c := by rw [h.expected, hlast]
  refine ⟨fun hp => ?_, fun hn => ?_⟩
  · have hrun := hpast (hcond.mpr hp)
    obtain ⟨hnext, hraised, htold⟩ := missMarker_spec htravel c e
    rw [hfinal, hrun]
    rw [hrun] at ha
    refine ⟨?_, fun hm hmode => ?_, fun hno => ?_⟩
    · rw [← expectedPos_congr hcfg]
      exact hnext.congr hcfg.symm
    · have htr := htracked (by simpa using hm) (by simpa using hmode)
      exact hasCause_of_subset (List.Subset.trans ha.kept h.causes) (hraised htr).1
    · have hun := huntracked (by simpa using hno)
      obtain ⟨hdrv, hcon⟩ := htold hun
      exact ⟨h.pending _ _ ((ha.told .drv).stays _ hdrv), h.pending _ _ ((ha.told .con).stays _ hcon)⟩
  · rw [hfinal, hnot fun hp => hn (hcond.mp hp), hexp]

theorem sampleSpeed_expected (h : turns s.psu.travelDir (dirOf (countDiff s.psu.count s.psu.countPrev)) = false) :
    (sampleSpeed s).psu.expected = s.psu.expected := by
  simp [sampleSpeed, h]

/-- The expected markers of a sample that finds the line moving on in its direction stand as they stood (R25). -/
theorem sampleRead_expected (hs : s.psu.still = false) (hstill : (sampleRead s).psu.still = false)
    (htravel : s.psu.travelDir = some dir) (hkept : (sampleRead s).psu.travelDir = some dir) :
    (sampleRead s).psu.expected = s.psu.expected := by
  have hspeed : (sampleSpeed (advanceTo s.psu.sampleTimer.due s)).psu.expected = s.psu.expected := by
    apply sampleSpeed_expected
    obtain ⟨-, -, -, -, hrope, htr⟩ := sampleRead_speeds s
    rw [hkept, hrope] at htr
    change turns s.psu.travelDir (dirOf (countDiff s.psu.count s.psu.countPrev)) = false
    rw [htravel]
    split at htr
    next he => simp [turns, (dirOf_eq_none _ _).mpr he]
    next =>
      have hdir : dirOf (countDiff s.psu.count s.psu.countPrev) = some dir := htr.symm
      simp [turns, hdir]
  have hup : ∀ v : State, v.psu.still = false → (updateStill v).psu.still = false →
      (updateStill v).psu.expected = v.psu.expected := by
    intro v hv hu
    obtain ⟨n, ⟨-, hc⟩ | ⟨hl, -⟩ | hr⟩ := updateStill_cases v
    · simp [hc, confirmStill, clearExpected] at hu
    · simp [hv] at hl
    · simp [hr, stillCounted]
  exact (hup _ (by simpa [advanceTo] using hs) hstill).trans hspeed

/-- R26, for both cars. -/
theorem AfterMonitors.missed (h : AfterMonitors s t) (href : s.psu.ref = .referenced) (hs : s.psu.still = false)
    (hstill : (sampleRead s).psu.still = false) (htravel : s.psu.travelDir = some dir)
    (hkept : (sampleRead s).psu.travelDir = some dir) {e : Nat} (hexp : s.psu.expected.get c = some e) :
    MissChecked c e dir s t := by
  have hread := sampleRead_expected hs hstill htravel hkept
  have hb := raises_overshootRun (sampleRead s)
  have hframe : (overshootRun (sampleRead s)).cfg = s.cfg ∧ pos (overshootRun (sampleRead s)) = pos s ∧
      (overshootRun (sampleRead s)).psu.ref = s.psu.ref ∧
      (overshootRun (sampleRead s)).psu.still = (sampleRead s).psu.still ∧
      (overshootRun (sampleRead s)).psu.travelDir = (sampleRead s).psu.travelDir ∧
      (overshootRun (sampleRead s)).psu.expected = (sampleRead s).psu.expected := by
    have hfr : ∀ v : State, v.psu.pRef = s.psu.pRef ∧ v.psu.count = s.psu.count ∧ v.psu.countRef = s.psu.countRef →
        v.cfg = s.cfg → pos v = pos s := fun v hv hcfg => pos_same hcfg hv.1 hv.2.1 hv.2.2
    refine ⟨?_, hfr _ ⟨?_, ?_, ?_⟩ ?_, ?_, ?_, ?_, ?_⟩ <;>
      simp [overshootRun, overtravelRun, unintendedRun, rollbackRun]
  obtain ⟨hcfg, hpos, hr, hst, htr, hex⟩ := hframe
  cases c with
  | a =>
    refine h.missChecked hb (raises_checkMissed (L := [.markerMissed]) (by decide) .b _) hcfg hpos (hr.trans href)
      (hst.trans hstill) (htr.trans hkept) (by rw [hex, hread, hexp]) ?_
    rw [runMonitors_eq, checkMissed_other (by decide)]
  | b =>
    refine h.missChecked (v := checkMissed .a (overshootRun (sampleRead s)))
      ((hb.mono (L' := monitorCauses) (by decide)).trans (raises_checkMissed (by decide) .a _)) (.refl (L := []) _)
      ?_ ?_ ?_ ?_ ?_ ?_ rfl
    · simpa using hcfg
    · exact (pos_same (by simp) (by simp) (by simp) (by simp)).trans hpos
    · simpa using hr.trans href
    · simpa using hst.trans hstill
    · simpa using htr.trans hkept
    · rw [checkMissed_other (by decide), hex, hread, hexp]

end Sys2Proof.Machine
end

section
/-! The trip at a speed sample (R101, R102), and the sample as a whole (O48). -/

namespace Sys2Proof.Machine

variable {s t u : State}

/-! ## A sample that raises no stage -/

/-- Where no stage stands after a sample, no cause was raised at it: the trip is as it was but for its extremes. -/
theorem sampleBraked_calm (h : (sampleBraked s).brs.stage = .none) :
    (sampleBraked s).trc = (sampleCapped s).trc ∧ (sampleCapped s).trc.state = s.trc.state ∧
      (sampleCapped s).trc.slot0 = s.trc.slot0 ∧ (sampleCapped s).trc.slot1 = s.trc.slot1 ∧
      (sampleBraked s).adm = s.adm ∧ (sampleBraked s).clc = (sampleCapped s).clc ∧
      (runMonitors (sampleRead s)).trc = s.trc ∧ (runMonitors (sampleRead s)).clc = s.clc := by
  have hb := raises_sampleBrakes (sampleCapped s)
  obtain ⟨hst, htrc, hclc, hadm⟩ := hb.calm (hb.none h)
  have hw := raises_runMonitors (sampleRead s)
  have hwst : (runMonitors (sampleRead s)).brs.stage = .none := by
    rw [← sampleCapped_brs, ← hst]
    exact h
  obtain ⟨-, hwtrc, hwclc, hwadm⟩ := hw.calm (hw.none hwst)
  refine ⟨htrc, ?_, ?_, ?_, hadm.trans ?_, hclc, ?_, ?_⟩
  · simp [sampleCapped, hwtrc]
  · simp [sampleCapped, hwtrc]
  · simp [sampleCapped, hwtrc]
  · simp [sampleCapped, hwadm]
  · simp [hwtrc]
  · simp [hwclc]

/-- The record of a trip at a sample without a stage: its extremes alone change. -/
theorem sampleBraked_trip (h : (sampleBraked s).brs.stage = .none) :
    (sampleBraked s).trc.trip.tpos = s.trc.trip.tpos ∧ (sampleBraked s).trc.trip.destination = s.trc.trip.destination ∧
      (sampleBraked s).trc.trip.number = s.trc.trip.number ∧ (sampleBraked s).trc.trip.owner = s.trc.trip.owner := by
  obtain ⟨htrc, -, -, -, -, -, hw, -⟩ := sampleBraked_calm h
  have htpos : (sampleCeiling (runMonitors (sampleRead s))).trc.trip.tpos =
      (runMonitors (sampleRead s)).trc.trip.tpos := by
    by_cases hm : (runMonitors (sampleRead s)).cfg.committed = true ∧
        isMoving (runMonitors (sampleRead s)).trc.state = true
    · rw [(sampleCeiling_moving hm.1 hm.2).2.2]
    · by_cases hc : (runMonitors (sampleRead s)).cfg.committed = true
      · rw [(sampleCeiling_idle (Bool.eq_false_iff.mpr fun h => hm ⟨hc, h⟩)).2.1]
      · rw [(sampleCeiling_uncommitted (by simpa using hc)).2]
  rw [htrc]
  simp [sampleCapped, htpos, hw]

/-- The notices of a sample before its trip moves on. -/
theorem told_sampleBraked (s : State) : Told checkKinds s (sampleBraked s) :=
  (((Told.of_same (by simp)).trans (raises_runMonitors (sampleRead s)).told).trans
    (Told.of_same (by simp [sampleCapped]))).trans (raises_sampleBrakes (sampleCapped s)).told

/-! ## RUNNING and ARRIVING (R101, R102) -/

theorem sampleTrip_running {d : Nat} (hs : s.trc.state = .running) (hd : s.clc.d = some d) :
    (sampleTrip s).trc.state = if d ≤ s.params.stopZone then .arriving else .running := by
  simp only [sampleTrip, hs, hd]
  split <;> simp [hs]

theorem sampleTrip_arrives (hs : s.trc.state = .arriving) (hstill : s.psu.still = true) (harr : arrived s = true) :
    sampleTrip s = completeTrip s := by
  simp [sampleTrip, hs, hstill, harr]

theorem sampleTrip_stays (hs : s.trc.state = .arriving) (h : ¬ (s.psu.still = true ∧ arrived s = true)) :
    sampleTrip s = s := by
  simp only [sampleTrip, hs]
  rw [if_neg h]

theorem arrived_iff {tpos : Nat} (htpos : s.trc.trip.tpos = some tpos) :
    arrived s = true ↔ s.psu.ref ≠ .unreferenced ∧ (pos s - tpos).natAbs ≤ s.params.alignTol := by
  simp [arrived, htpos]

/-- The trip marked DONE. -/
def doneMarked (s : State) : State := s.onTrip fun t => { t with outcome := .done }

theorem completeTrip_eq {k : Stop} (hk : s.trc.trip.destination = some k) :
    completeTrip s =
      tripEnded .tripDone (.done s.trc.trip.number s.trc.trip.destination s.trc.trip.peak) false
        (newDwell k (doneMarked s)) := by
  have htrip := newDwell_trip k (doneMarked s)
  simp [completeTrip, tripEnded, freeSlots, doneMarked, hk, newDwell_trip]

/-- What a completed trip leaves (R102). -/
theorem completeTrip_spec {k : Stop} (hk : s.trc.trip.destination = some k) :
    (completeTrip s).trc.state = .dwell k ∧ (completeTrip s).trc.trip.outcome = .done ∧
      (completeTrip s).trc.elapsed = false ∧
      (completeTrip s).trc.minDwell = some ⟨s.now, s.now + s.params.minDwell * 1000⟩ ∧
      (completeTrip s).trc.slot0 = freed false s.trc.slot0 ∧ (completeTrip s).trc.slot1 = freed false s.trc.slot1 ∧
      Transferred k s (completeTrip s) ∧
      HandedOwner .tripDone (.done s.trc.trip.number s.trc.trip.destination s.trc.trip.peak) s (completeTrip s) := by
  rw [completeTrip_eq hk]
  refine ⟨?_, ?_, ?_, ?_, ?_, ?_, ?_, ?_⟩
  · simp [tripEnded, freeSlots]
  · simp [tripEnded, freeSlots, newDwell_trip, doneMarked]
  · simp [tripEnded, freeSlots]
  · simp [tripEnded, freeSlots, doneMarked, State.params]
  · simp [tripEnded, freeSlots, doneMarked]
  · simp [tripEnded, freeSlots, doneMarked]
  · exact (transferred_newDwell k (doneMarked s)).at (by simp [tripEnded, freeSlots]) (by simp [tripEnded, freeSlots])
  · have htold : Told windowKinds s (newDwell k (doneMarked s)) :=
      (Told.of_same (by simp [doneMarked])).trans (told_newDwell k _)
    exact handedOwner_tripEnded htold (by simp [newDwell_trip, doneMarked]) (by decide)

/-! ## The whole sample -/

/-- What a sample leaves once its trip has moved on. -/
def sampled (s : State) : State := takenUp .speedSample (finish s (sampleTrip (sampleBraked s)))

theorem afterMonitors_sampled (s : State) : AfterMonitors s (sampled s) where
  causes := by
    have hb := (raises_sampleBrakes (sampleCapped s)).kept
    rw [sampleCapped_brs] at hb
    simpa [sampled, sampleBraked] using hb
  vEval := by simp [sampled, sampleBraked_frame]
  armed := by simp [sampled, sampleBraked_frame]
  expected := by simp [sampled, sampleBraked_frame]
  pending := fun st k hp => by
    have hcap : isPending ((sampleCapped s).niu.notices.get st) k = true := by simpa [sampleCapped] using hp
    have hb := ((raises_sampleBrakes (sampleCapped s)).told st).stays k hcap
    have ht := (told_sampleTrip (sampleBraked s) st).stays k hb
    simpa [sampled, isPending_finish] using ht

/-- The speeds, the standstill and the held count of a sample (R27 to R29). -/
theorem sampled_psu (s : State) :
    (sampled s).psu.heldCount =
        (if (sampled s).psu.still = true ∧
            (s.psu.still = false ∨ (isMoving s.trc.state = true ∧ isMoving (sampled s).trc.state = false)) then
          s.psu.count
        else s.psu.heldCount) ∧
      (sampled s).now = (sampleRead s).now ∧ (sampled s).psu.sampleTimer = (sampleRead s).psu.sampleTimer ∧
      (sampled s).psu.count = s.psu.count ∧ (sampled s).psu.countPrev = (sampleRead s).psu.countPrev ∧
      (sampled s).psu.vRope = (sampleRead s).psu.vRope ∧ (sampled s).psu.vEval = (sampleRead s).psu.vEval ∧
      (sampled s).psu.ropeDir = (sampleRead s).psu.ropeDir ∧ (sampled s).psu.travelDir = (sampleRead s).psu.travelDir ∧
      (sampled s).psu.stillCount = (sampleRead s).psu.stillCount ∧ (sampled s).psu.still = (sampleRead s).psu.still := by
  obtain ⟨-, -, hheld⟩ := sampleRead_still s
  refine ⟨?_, ?_⟩
  · simp only [sampled, takenUp_psu, takenUp_trc, finish_frame, sampleTrip_heldCount, sampleTrip_frame,
      sampleBraked_frame, isMoving_sampleBraked, sampleBraked_heldCount, hheld]
    by_cases h1 : (sampleRead s).psu.still = true <;> by_cases h2 : s.psu.still = true <;> simp [h1, h2]
  · simp [sampled, sampleBraked_frame]

/-- The trip that ARRIVING completes at standstill, as from before the sample (R102). -/
theorem sampled_arrival {k : Stop} {tpos : Nat} (hs : s.trc.state = .arriving)
    (hk : s.trc.trip.destination = some k) (htpos : s.trc.trip.tpos = some tpos)
    (hnone : (sampled s).brs.stage = .none) :
    ((sampled s).psu.still = true ∧ s.psu.ref ≠ .unreferenced ∧ (pos s - tpos).natAbs ≤ s.params.alignTol →
      (sampled s).trc.state = .dwell k ∧ (sampled s).trc.trip.outcome = .done ∧ (sampled s).trc.elapsed = false ∧
        (sampled s).trc.minDwell = some ⟨(sampled s).now, (sampled s).now + s.params.minDwell * 1000⟩ ∧
        (sampled s).trc.slot0 = freed false s.trc.slot0 ∧ (sampled s).trc.slot1 = freed false s.trc.slot1 ∧
        (sampled s).psu.mismatch = ⟨0, 0⟩ ∧ Transferred k s (sampled s) ∧
        HandedOwner .tripDone (.done s.trc.trip.number s.trc.trip.destination (sampled s).trc.trip.peak) s
          (sampled s)) ∧
    (¬ ((sampled s).psu.still = true ∧ s.psu.ref ≠ .unreferenced ∧ (pos s - tpos).natAbs ≤ s.params.alignTol) →
      (sampled s).trc.state = .arriving) := by
  have hbn : (sampleBraked s).brs.stage = .none := by simpa [sampled] using hnone
  obtain ⟨htrc, hstate, hs0, hs1, hadm, -⟩ := sampleBraked_calm hbn
  obtain ⟨hbt, hbk, hbnum, hbo⟩ := sampleBraked_trip hbn
  have hbs : (sampleBraked s).trc.state = .arriving := by rw [htrc, hstate, hs]
  have hcond : ((sampleBraked s).psu.still = true ∧ arrived (sampleBraked s) = true) ↔
      ((sampled s).psu.still = true ∧ s.psu.ref ≠ .unreferenced ∧ (pos s - tpos).natAbs ≤ s.params.alignTol) := by
    rw [arrived_iff (hbt.trans htpos), pos_sampleBraked]
    simp [sampled, sampleBraked_frame, State.params]
  refine ⟨fun hc => ?_, fun hc => ?_⟩
  · obtain ⟨hstill, harr⟩ := hcond.mpr hc
    have hrun := sampleTrip_arrives hbs hstill harr
    obtain ⟨hst, hout, hel, hmd, h0, h1, htr, hown⟩ := completeTrip_spec (s := sampleBraked s) (hbk.trans hk)
    have hnow : (sampled s).now = (sampleBraked s).now := by simp [sampled]
    have hpar : (sampleBraked s).params = s.params := by simp [State.params, sampleBraked_frame]
    have hpeak : (sampled s).trc.trip.peak = (sampleBraked s).trc.trip.peak := by
      simp [sampled, hrun, completeTrip_trip]
    rw [hnow, hpeak]
    simp only [sampled, takenUp_trc, takenUp_psu, finish_frame, handedOwner_takenUp, hrun]
    refine ⟨hst, hout, hel, by rw [hmd, hpar], by rw [h0, htrc, hs0], by rw [h1, htrc, hs1], by simp, ?_, ?_⟩
    · have htransferred : Transferred k s (completeTrip (sampleBraked s)) := by
        unfold Transferred at htr ⊢
        rwa [hadm, htrc, hstate] at htr
      exact htransferred.at (by simp) (by simp)
    · rw [← hbnum, ← hbk]
      exact hown.after (told_sampleBraked s) hbo (by decide)
  · have hrun := sampleTrip_stays hbs fun h => hc (hcond.mp h)
    simp [sampled, hrun, hbs]

/-- Settles O48. -/
theorem speedSampleReads : Obligations.SpeedSampleReads := by
  unfold Obligations.SpeedSampleReads
  intro s hreset ho
  refine ⟨sampled s, execSpeedSample_run hreset ho, ?_⟩
  obtain ⟨hheld, hnow, htimer, hcount, hprev, hrope, heval, hrdir, htdir, hsc, hst⟩ := sampled_psu s
  obtain ⟨htm, hcp, hvr, hve, hrd, htd⟩ := sampleRead_speeds s
  obtain ⟨hstc, hstl, -⟩ := sampleRead_still s
  have hafter := afterMonitors_sampled s
  have hclc : (sampled s).clc.c = (sampleCapped s).clc.c ∧ (sampled s).clc.d = (sampleBraked s).clc.d := by
    simp [sampled, sampleBraked_frame, (sampleTrip_keeps _).1]
  refine ⟨?_, ?_, hcount, hprev.trans hcp, hrope.trans hvr, ?_, hrdir.trans hrd, ?_, hheld, ?_, ?_, fun hcom hm => ?_,
    fun hcom => ?_, fun dir tpos hcom hm hdir htpos _ => ?_, ?_, fun dir furthest hdir hf => hafter.rollback hdir hf,
    fun hm => hafter.unintended hm ?_, fun hm => hafter.unintended_moving hm, hafter.overtravel,
    fun hdir htpos => hafter.overshoot hdir htpos, fun c e dir href hs hstill htr htk hexp => ?_,
    fun hs hcom hdir htpos hnone => ?_, fun k tpos hs hk htpos hnone => sampled_arrival hs hk htpos hnone⟩
  · rw [hnow]
    simp
  · rw [htimer, htm, hnow]
  · rw [heval, hrope, hve]
  · rw [htdir, htd, hrdir]
  · rw [hsc, hstc, heval]
  · rw [hst, hstl, hsc, heval]
  · rw [hclc.1, sampleCapped_ceiling hcom, if_neg (by simp [hm])]
  · have hun := sampleCeiling_uncommitted (s := runMonitors (sampleRead s)) (by simpa using hcom)
    rw [hclc.1, sampleCapped, hun.1]
    simp
  · rw [hclc.2, sampleTrip_distance hcom hm hdir htpos]
    cases dir <;> rfl
  · simp [sampled, keepsBut_iff, sampleBraked, sampleCapped]
  · simp [sampled, sampleTrip_heldCount, isMoving_sampleBraked, hm, sampleBraked_heldCount]
  · exact hafter.missed href hs (hst.symm.trans hstill) htr (htdir.symm.trans htk) hexp
  · have hbn : (sampleBraked s).brs.stage = .none := by simpa [sampled] using hnone
    obtain ⟨htrc, hstate, -⟩ := sampleBraked_calm hbn
    obtain ⟨dir, hdir⟩ := Option.ne_none_iff_exists'.mp hdir
    obtain ⟨tpos, htpos⟩ := Option.ne_none_iff_exists'.mp htpos
    have hd := sampleTrip_distance hcom (by simp [hs, isMoving]) hdir htpos
    refine ⟨_, hclc.2.trans hd, ?_⟩
    have hrun := sampleTrip_running (by rw [htrc, hstate, hs]) hd
    have hstop : (sampleBraked s).params.stopZone = s.params.stopZone := by simp [State.params, sampleBraked_frame]
    rw [hstop] at hrun
    simpa [sampled] using hrun

end Sys2Proof.Machine
end

section
/-! The steps of a car poll (R38): what each leaves of the trip and the mismatch counts, and what it keeps of the causes
and the notices (O51). -/

namespace Sys2Proof.Machine

variable {s t u : State} {L : List Cause} {c : Car} {p : Poll}

/-! ## The mismatch counts while a trip is in flight (R35, R103) -/

/-- From `s` to `t` no trip starts; one in flight keeps the mismatch counts, and one that ends leaves them 0. -/
structure FlightCounts (s t : State) : Prop where
  grounded : inFlight s.trc.state = false → inFlight t.trc.state = false ∧ t.psu.mismatch = s.psu.mismatch
  flying   : inFlight s.trc.state = true → inFlight t.trc.state = true → t.psu.mismatch = s.psu.mismatch
  ended    : inFlight s.trc.state = true → inFlight t.trc.state = false → t.psu.mismatch = ⟨0, 0⟩

theorem FlightCounts.of_same (hs : t.trc.state = s.trc.state) (hm : t.psu.mismatch = s.psu.mismatch) :
    FlightCounts s t where
  grounded := fun h => ⟨hs ▸ h, hm⟩
  flying := fun _ _ => hm
  ended := fun h h' => absurd (hs ▸ h') (by simp [h])

theorem FlightCounts.refl (s : State) : FlightCounts s s := .of_same rfl rfl

theorem FlightCounts.trans (h : FlightCounts s t) (h' : FlightCounts t u) : FlightCounts s u where
  grounded := fun hs => by
    obtain ⟨ht, hm⟩ := h.grounded hs
    obtain ⟨hu, hm'⟩ := h'.grounded ht
    exact ⟨hu, hm'.trans hm⟩
  flying := fun hs hu => by
    cases ht : inFlight t.trc.state with
    | true => exact (h'.flying ht hu).trans (h.flying hs ht)
    | false => exact absurd (h'.grounded ht).1 (by simp [hu])
  ended := fun hs hu => by
    cases ht : inFlight t.trc.state with
    | true => exact h'.ended ht hu
    | false => exact (h'.grounded ht).2.trans (h.ended hs ht)

theorem FlightCounts.ite {q : Prop} [Decidable q] (ht : q → FlightCounts s t) (hu : ¬ q → FlightCounts s u) :
    FlightCounts s (if q then t else u) := by
  split
  next hq => exact ht hq
  next hq => exact hu hq

theorem flightCounts_tripOnRise (s : State) : FlightCounts s (tripOnRise s) := by
  have habort (hs : inFlight s.trc.state = true) : FlightCounts s (pendingsUnderStage (abortTrip .brake s)) :=
    ⟨fun h => by simp [hs] at h, fun _ h => by simp [inFlight_abortState] at h, fun _ _ => by simp⟩
  have hbraking (hs : inFlight s.trc.state = true) : FlightCounts s (setTripState .braking s) :=
    ⟨fun h => by simp [hs] at h, fun _ _ => by simp, fun _ h => by simp [inFlight] at h⟩
  unfold tripOnRise
  split
  case h_1 hs | h_2 hs | h_3 hs => exact habort (by rw [hs]; rfl)
  case h_4 hs | h_5 hs | h_6 hs => exact hbraking (by rw [hs]; rfl)
  case h_7 => exact .refl s

theorem flightCounts_raiseCause (x : Cause) (d : Detail) (s : State) : FlightCounts s (raiseCause x d s) := by
  rw [raiseCause_eq]
  refine .ite (fun _ => .refl s) fun _ => .ite (fun _ => ?_) fun _ => .of_same (by simp) (by simp)
  rw [stageRise_eq]
  exact (FlightCounts.of_same (by simp) (by simp)).trans (flightCounts_tripOnRise _)

theorem Onward.flightCounts (h : Onward s t) (hs : inFlight s.trc.state = true) : FlightCounts s t where
  grounded := fun h' => by simp [hs] at h'
  flying := fun _ _ => by rw [h.psu]
  ended := fun _ h' => by simp [h.flight] at h'

/-! ## Causes and notices kept -/

/-- Causes and pending notices of `s` stand in `t`. -/
structure Carried (s t : State) : Prop where
  causes  : s.brs.causes ⊆ t.brs.causes
  pending : ∀ st k, isPending (s.niu.notices.get st) k = true → isPending (t.niu.notices.get st) k = true

theorem Carried.of_same (hc : t.brs.causes = s.brs.causes) (hn : t.niu.notices = s.niu.notices) : Carried s t :=
  ⟨by rw [hc]; exact List.Subset.refl _, fun _ _ h => by rwa [hn]⟩

theorem Carried.refl (s : State) : Carried s s := .of_same rfl rfl

theorem Carried.trans (h : Carried s t) (h' : Carried t u) : Carried s u :=
  ⟨List.Subset.trans h.causes h'.causes, fun st k hk => h'.pending st k (h.pending st k hk)⟩

theorem Raises.carried (h : Raises L s t) : Carried s t := ⟨h.kept, fun st k hk => (h.told st).stays k hk⟩

theorem Onward.carried (h : Onward s t) : Carried s t :=
  ⟨by rw [h.causes.1]; exact List.Subset.refl _, fun st k hk => (h.told st).stays k hk⟩

theorem Carried.raisedWith {x : Cause} {d : Detail} (h : Carried t u) (hr : RaisedWith x d s t) : RaisedWith x d s u :=
  ⟨hasCause_of_subset h.causes hr.1, fun hs => h.causes (hr.2 hs)⟩

/-! ## The record and the mismatch check (R35, R38) -/

/-- The record replaced, and the outputs set again with it. -/
def reported (c : Car) (p : Poll) (s : State) : State := updateOutputs (storePoll c p s)

@[simp] theorem reported_frame (c : Car) (p : Poll) (s : State) :
    (reported c p s).cfg = s.cfg ∧ (reported c p s).psu = s.psu ∧ (reported c p s).clc = s.clc ∧
      (reported c p s).trc = s.trc ∧ (reported c p s).dri = s.dri ∧ (reported c p s).adm = s.adm ∧
      (reported c p s).lsu = s.lsu ∧ (reported c p s).lbp = s.lbp ∧ (reported c p s).niu = s.niu ∧
      (reported c p s).pins = s.pins ∧ (reported c p s).now = s.now ∧ (reported c p s).pending = s.pending ∧
      (reported c p s).brs.stage = s.brs.stage ∧ (reported c p s).brs.causes = s.brs.causes ∧
      (reported c p s).brs.sbFb = s.brs.sbFb ∧ (reported c p s).brs.ebFb = s.brs.ebFb ∧
      (reported c p s).cru =
        s.cru.set c { poll := p, fresh := true, takenAt := s.now, latch := (s.cru.get c).latch } := by
  simp [reported, storePoll]

theorem raises_reported (c : Car) (p : Poll) (s : State) : Raises L s (reported c p s) := by
  apply Raises.of_same <;> simp [Told.of_same]
  simp [reported, storePoll]

/-- The count of a car's disagreeing polls set. -/
def mismatchCounted (c : Car) (n : Nat) (s : State) : State :=
  s.onPsu fun u => { u with mismatch := u.mismatch.set c n }

/-- The count after a poll (R35). -/
def mismatchAfter (s : State) (c : Car) (p : Poll) : Nat :=
  if disagrees s c p then min 3 (s.psu.mismatch.get c + 1) else 0

theorem disagrees_iff : disagrees s c p = true ↔ Disagrees s c p := by
  simp [disagrees, Disagrees]

/-- In flight a poll is counted, and the third in a row that disagrees raises SPEED_MISMATCH. -/
theorem checkMismatch_flying (hf : inFlight s.trc.state = true) (c : Car) (p : Poll) :
    checkMismatch c p s =
      if disagrees s c p = true ∧ s.psu.mismatch.get c = 2 then
        raiseCause .speedMismatch (.mismatch c p.speed s.psu.vRope) (mismatchCounted c (mismatchAfter s c p) s)
      else mismatchCounted c (mismatchAfter s c p) s := by
  have hmax : Config.mismatchMax = 3 := rfl
  unfold checkMismatch
  rw [if_pos hf]
  by_cases hd : disagrees s c p = true
  · simp only [hd, if_true, true_and, mismatchAfter]
    rfl
  · simp only [hd, if_false, false_and, mismatchAfter, Bool.false_eq_true]
    rfl

theorem checkMismatch_grounded (hf : inFlight s.trc.state = false) (c : Car) (p : Poll) : checkMismatch c p s = s := by
  simp [checkMismatch, hf]

theorem raises_mismatchCounted (c : Car) (n : Nat) (s : State) : Raises L s (mismatchCounted c n s) :=
  .of_same ⟨rfl, rfl, rfl⟩ rfl rfl rfl rfl rfl (.of_same rfl)

theorem raises_checkMismatch (hL : .speedMismatch ∈ L) (c : Car) (p : Poll) (s : State) :
    Raises L s (checkMismatch c p s) := by
  cases hf : inFlight s.trc.state with
  | false => rw [checkMismatch_grounded hf]; exact .refl s
  | true =>
    rw [checkMismatch_flying hf]
    exact .ite (fun _ => (raises_mismatchCounted _ _ s).trans (raises_raiseCause hL _ _))
      (fun _ => raises_mismatchCounted _ _ s)

end Sys2Proof.Machine
end

section
/-! A marker pass reported by a poll (R22 to R25). -/

namespace Sys2Proof.Machine

variable {s t u v : State} {L : List Cause} {c : Car} {p : Poll} {m : Nat}

/-! ## What a pass raises -/

theorem raises_setPos (x : Int) (s : State) : Raises L s (setPos x s) := by
  apply Raises.of_same <;> simp [Told.of_same]

theorem raises_setRef (r : RefState) (s : State) : Raises L s (setRef r s) := by
  apply Raises.of_same <;> simp [Told.of_same]

theorem raises_setAfresh (s : State) : Raises L s (setAfresh s) :=
  (raises_expectBeyond _ _ s).trans (raises_expectBeyond _ _ _)

theorem raises_becomeReferenced (s : State) : Raises L s (becomeReferenced s) := by
  have href := raises_setRef (L := L) .referenced s
  exact .ite (fun _ => href) (fun _ => href.trans (raises_setAfresh _))

/-- The causes that a marker pass raises. -/
def passCauses : List Cause := [.position, .markerMissed]

theorem raises_passExpected (c : Car) (m : Nat) (s : State) : Raises passCauses s (passExpected c m s) := by
  unfold passExpected
  split
  · split
    · exact raises_expectBeyond _ _ s
    · exact .ite (fun _ => (raises_missMarker (by decide) _ _ s).trans (raises_expectBeyond _ _ _)) (fun _ => .refl s)
  · exact .refl s

theorem raises_markerPass (c : Car) (m : Nat) (s : State) : Raises passCauses s (markerPass c m s) := by
  have hset (x : Int) (v : State) : Raises passCauses v (setPos x v) := raises_setPos x v
  have hprov (x : Int) (v : State) : Raises passCauses v (setRef (.provisional m c) (setPos x v)) :=
    (hset x v).trans (raises_setRef _ _)
  unfold markerPass
  dsimp only
  split
  · exact hprov _ s
  · exact .ite (fun _ => hset _ s) (fun _ => .ite (fun _ => (hset _ s).trans (raises_becomeReferenced _))
      (fun _ => hprov _ s))
  · exact .ite (fun _ => (hset _ s).trans (raises_passExpected _ _ _))
      (fun _ => (raises_raiseCause (by decide) _ s).trans (hprov _ _))

theorem flightCounts_missMarker (c : Car) (m : Nat) (s : State) : FlightCounts s (missMarker c m s) := by
  refine .trans (t := if trackedTrip s then raiseCause .markerMissed (.marker c m) s
      else hand .fault (.fault .markerMissed (.marker c m)) [.drv, .con] (capture (.cause .markerMissed) s))
    (.ite (fun _ => flightCounts_raiseCause _ _ s) (fun _ => .of_same (by simp) (by simp))) ?_
  exact .of_same rfl rfl

theorem flightCounts_passExpected (c : Car) (m : Nat) (s : State) : FlightCounts s (passExpected c m s) := by
  unfold passExpected
  split
  next e _ _ _ =>
    split
    · exact .of_same (by simp) (by simp)
    · exact .ite (fun _ => (flightCounts_missMarker c e s).trans (.of_same (by simp) (by simp))) (fun _ => .refl s)
  next => exact .refl s

theorem flightCounts_markerPass (c : Car) (m : Nat) (s : State) : FlightCounts s (markerPass c m s) := by
  have hset (x : Int) (v : State) : FlightCounts v (setPos x v) := .of_same (by simp) (by simp)
  have hprov (x : Int) (v : State) : FlightCounts v (setRef (.provisional m c) (setPos x v)) :=
    .of_same (by simp) (by simp)
  unfold markerPass
  dsimp only
  split
  · exact hprov _ s
  · exact .ite (fun _ => hset _ s) (fun _ => .ite (fun _ => .of_same (by simp) (by simp)) (fun _ => hprov _ s))
  · exact .ite (fun _ => (hset _ s).trans (flightCounts_passExpected _ _ _))
      (fun _ => (flightCounts_raiseCause _ _ s).trans (hprov _ _))

/-! ## The expected markers at a pass (R25) -/

theorem passExpected_other {o : Car} (h : o ≠ c) (m : Nat) :
    (passExpected c m s).psu.expected.get o = s.psu.expected.get o := by
  unfold passExpected
  split
  · split
    · exact expectBeyond_other h _
    · split
      · rw [expectBeyond_other h, missMarker_other h]
      · rfl
  · rfl

/-- A pass of marker `m` with `e` expected, by where the one lies from the other. -/
theorem passExpected_cases {e : Nat} {dir : TripDir} (he : s.psu.expected.get c = some e)
    (hd : s.psu.travelDir = some dir) :
    (m = e → passExpected c m s = expectBeyond c (expectedPos s c m) s) ∧
      (m ≠ e → isBeyond dir (expectedPos s c m) (expectedPos s c e) = true →
        passExpected c m s = expectBeyond c (expectedPos s c m) (missMarker c e s)) ∧
      (m ≠ e → isBeyond dir (expectedPos s c m) (expectedPos s c e) = false → passExpected c m s = s) := by
  have hrun : passExpected c m s =
      if m = e then expectBeyond c (expectedPos s c m) s
      else if isBeyond dir (expectedPos s c m) (expectedPos s c e) = true then
        expectBeyond c (expectedPos s c m) (missMarker c e s) else s := by
    unfold passExpected
    rw [he, hd]
  rw [hrun]
  exact ⟨fun h => if_pos h, fun h hb => by rw [if_neg h, if_pos hb],
    fun h hb => by rw [if_neg h, if_neg (by simp [hb])]⟩

theorem passAdvances_passExpected (c : Car) (m : Nat) (s : State) : PassAdvances c m s (passExpected c m s) := by
  refine ⟨fun o ho => passExpected_other ho m, fun e dir he hd => ?_, fun hno => ?_⟩
  · obtain ⟨hsame, hmiss, hstay⟩ := passExpected_cases (m := m) he hd
    refine ⟨fun h => ?_, fun hne hb => by rw [hstay hne hb, he], fun hne hb => ?_⟩
    · by_cases hme : m = e
      · rw [hsame hme]
        exact expectBeyond_expected hd c _
      · rw [hmiss hme (h.resolve_left hme)]
        exact (expectBeyond_expected (by simpa using hd) c _).congr (by simp)
    · obtain ⟨-, hraised, hfault⟩ := missMarker_spec hd c e
      obtain ⟨htracked, huntracked⟩ := (Raises.refl (L := []) s).tracked
      rw [hmiss hne hb]
      refine ⟨fun hm hmode => ?_, fun hfree => ?_⟩
      · simpa [RaisedWith, hasCause] using hraised (htracked hm hmode)
      · simpa [expectBeyond] using hfault (huntracked hfree)
  · have hstays : passExpected c m s = s := by
      unfold passExpected
      split
      next he hd => simp [he, hd] at hno
      next => rfl
    rw [hstays]

/-- A pass as from before an earlier check of the poll, and with the later ones done. -/
theorem PassAdvances.within {w : State} (h : PassAdvances c m v w) (hb : Raises L s v) (hL : .markerMissed ∉ L)
    (hcfg : v.cfg = s.cfg) (hexp : v.psu.expected = s.psu.expected) (htravel : v.psu.travelDir = s.psu.travelDir)
    (ha : Carried w t) (hlast : t.psu.expected = w.psu.expected) : PassAdvances c m s t := by
  have hpos : expectedPos v c = expectedPos s c := by funext o; exact expectedPos_congr hcfg c o
  obtain ⟨hother, hcar, hnone⟩ := h
  rw [hexp, htravel, ← hlast] at hnone
  refine ⟨fun o ho => ?_, fun e dir he hd => ?_, hnone⟩
  · rw [hlast, hother o ho, hexp]
  · obtain ⟨hnext, hstay, hmiss⟩ := hcar e dir (by rw [hexp, he]) (by rw [htravel, hd])
    rw [hpos] at hnext hstay hmiss
    refine ⟨fun hc => ?_, fun hne hb' => by rw [hlast]; exact hstay hne hb', fun hne hb' => ?_⟩
    · rw [hlast]
      exact (hnext hc).congr hcfg.symm
    · obtain ⟨hraised, hfault⟩ := hmiss hne hb'
      refine ⟨fun hm hmode => ?_, fun hfree => ?_⟩
      · obtain ⟨hhas, hnew⟩ := ha.raisedWith (hraised (hb.moving.trans hm) (by rwa [hb.mode]))
        exact ⟨hhas, fun hs => hnew ((hb.only _ hL).trans hs)⟩
      · obtain ⟨hdrv, hcon⟩ := hfault (hfree.imp hb.flight fun hm => hb.mode.trans hm)
        exact ⟨ha.pending _ _ hdrv, ha.pending _ _ hcon⟩

/-! ## The position and the reference at a pass (R22, R23) -/

theorem setAfresh_expected {dir : TripDir} (hd : s.psu.travelDir = some dir) (o : Car) :
    ExpectedBeyond s o dir (pos s) ((setAfresh s).psu.expected.get o) := by
  unfold setAfresh
  cases o with
  | a =>
    rw [expectBeyond_other (by decide)]
    exact expectBeyond_expected hd .a _
  | b => exact (expectBeyond_expected (by simpa using hd) .b _).congr (by simp)

theorem becomeReferenced_spec (s : State) :
    (becomeReferenced s).psu.ref = .referenced ∧
      (s.psu.still = false → ∀ o dir, s.psu.travelDir = some dir →
        ExpectedBeyond s o dir (pos (becomeReferenced s)) ((becomeReferenced s).psu.expected.get o)) := by
  have hpos : pos (becomeReferenced s) = pos (setRef .referenced s) := by apply pos_same <;> simp
  have href : (setRef .referenced s).psu.ref = .referenced := rfl
  refine ⟨?_, fun hs o dir hd => ?_⟩
  · unfold becomeReferenced
    dsimp only
    split <;> simp [href]
  · rw [hpos]
    have hrun : becomeReferenced s = setAfresh (setRef .referenced s) := by
      unfold becomeReferenced
      dsimp only
      rw [if_neg (by simp [hs])]
    rw [hrun]
    exact (setAfresh_expected (by simpa using hd) o).congr (by simp)

/-- What a pass leaves of the position, the reference and the expected markers, as it finds the state. -/
theorem markerPassed_markerPass (c : Car) (m : Nat) (s : State) : MarkerPassed c m s (markerPass c m s) := by
  unfold MarkerPassed markerPass deviation
  dsimp only
  cases href : s.psu.ref with
  | unreferenced => simp [setRef, setPos, clearExpected]
  | provisional anchor car =>
    dsimp only
    by_cases hsame : anchor = m ∧ car = c
    · simp [hsame, setPos, href]
    · simp only [hsame, if_false]
      by_cases hnear : (pos s - expectedPos s c m).natAbs ≤ s.params.mkTol
      · obtain ⟨hr, hexp⟩ := becomeReferenced_spec (setPos (expectedPos s c m) s)
        simp only [hnear, decide_true, if_true]
        refine ⟨by simp [setPos], by simp [setPos], by simp, hr, fun hs o dir hd => ?_⟩
        exact (hexp (by simpa using hs) o dir (by simpa using hd)).congr (by simp)
      · simp [hnear, setRef, setPos, clearExpected]
  | referenced =>
    dsimp only
    by_cases hnear : (pos s - expectedPos s c m).natAbs ≤ s.params.mkTol
    · simp only [hnear, decide_true, if_true]
      refine ⟨by simp [setPos], by simp [setPos], by simp, by simp [href], ?_⟩
      exact (passAdvances_passExpected c m _).within (raises_setPos (L := []) _ s) (by simp) (by simp) (by simp)
        (by simp) (.refl _) rfl
    · simp only [hnear, decide_false, if_false, Bool.false_eq_true]
      refine ⟨by simp [setPos], by simp [setPos], by simp, by simp [setRef, clearExpected],
        by simp [setRef, clearExpected], ?_⟩
      simpa [RaisedWith, hasCause] using
        raisedWith_raiseCause .position (.position c m (pos s) (expectedPos s c m)) s

/-- A pass as from before an earlier check of the poll, and with the later ones done. -/
theorem MarkerPassed.within {w : State} (h : MarkerPassed c m v w) (hb : Raises L s v) (hL : ∀ x ∈ passCauses, x ∉ L)
    (hcfg : v.cfg = s.cfg)
    (hpsu : v.psu.pRef = s.psu.pRef ∧ v.psu.count = s.psu.count ∧ v.psu.countRef = s.psu.countRef ∧
      v.psu.ref = s.psu.ref ∧ v.psu.expected = s.psu.expected ∧ v.psu.travelDir = s.psu.travelDir)
    (ha : Carried w t) (htcfg : t.cfg = w.cfg)
    (hlast : t.psu.pRef = w.psu.pRef ∧ t.psu.countRef = w.psu.countRef ∧
      t.psu.count = w.psu.count ∧ t.psu.ref = w.psu.ref ∧ t.psu.expected = w.psu.expected) : MarkerPassed c m s t := by
  obtain ⟨hp, hc, hcr, hr, he, htr⟩ := hpsu
  obtain ⟨hp', hcr', hc', hr', he'⟩ := hlast
  have hpos : pos v = pos s := pos_same hcfg hp hc hcr
  have hpos' : pos t = pos w := pos_same htcfg hp' hc' hcr'
  have hmk : v.params.mkTol = s.params.mkTol := by rw [State.params, State.params, hcfg]
  unfold MarkerPassed at h ⊢
  rw [expectedPos_congr hcfg, hc, hr, he, hpos, hmk, hb.still] at h
  rw [hp', hcr', hc', hr', he', hpos']
  obtain ⟨h1, h2, h3, hmatch⟩ := h
  refine ⟨h1, h2, h3, ?_⟩
  cases href : s.psu.ref with
  | unreferenced => simpa [href] using hmatch
  | provisional anchor car =>
    rw [href] at hmatch
    dsimp only at hmatch ⊢
    split at hmatch
    next hs => rwa [if_pos hs]
    next hs =>
      rw [if_neg hs]
      split at hmatch
      next hn =>
        rw [if_pos hn]
        exact ⟨hmatch.1, fun hst o dir hd => (hmatch.2 hst o dir (htr.trans hd)).congr hcfg.symm⟩
      next hn => rwa [if_neg hn]
  | referenced =>
    rw [href] at hmatch
    dsimp only at hmatch ⊢
    split at hmatch
    next hn =>
      rw [if_pos hn]
      exact ⟨hmatch.1, hmatch.2.within hb (hL _ (by decide)) hcfg he htr ha he'⟩
    next hn =>
      rw [if_neg hn]
      obtain ⟨ha1, ha2, hraised⟩ := hmatch
      obtain ⟨hhas, hnew⟩ := ha.raisedWith hraised
      exact ⟨ha1, ha2, hhas, fun hs => hnew ((hb.only _ (hL _ (by decide))).trans hs)⟩

end Sys2Proof.Machine
end

section
/-! The doors, the stop requests and the alarm of a poll (R38, R40, R76, R98, R114), and the poll as a whole. -/

namespace Sys2Proof.Machine

variable {s t u v : State} {L : List Cause} {c : Car} {p : Poll}

/-! ## The doors (R98, R114) -/

theorem raises_doorCheckSide (hL : .doorOpen ∈ L) (c : Car) (d : Side) (s : State) :
    Raises L s (doorCheckSide c d s) :=
  .ite (fun _ => .refl s) (fun _ => raises_raiseCause hL _ s)

theorem raises_doorCheck (hL : .doorOpen ∈ L) (c : Car) (s : State) : Raises L s (doorCheck c s) :=
  .ite (fun _ => (raises_doorCheckSide hL c .left s).trans (raises_doorCheckSide hL c .right _)) (fun _ => .refl s)

theorem flightCounts_doorCheck (c : Car) (s : State) : FlightCounts s (doorCheck c s) := by
  have hside (d : Side) (v : State) : FlightCounts v (doorCheckSide c d v) :=
    .ite (fun _ => .refl v) (fun _ => flightCounts_raiseCause _ _ v)
  exact .ite (fun _ => (hside .left s).trans (hside .right _)) (fun _ => .refl s)

/-- The doors of a poll are checked while the line is powered, else they may end the wait of DOORS. -/
theorem pollDoors_cases (c : Car) (s : State) :
    (isPowered s.trc.state = true ∧ pollDoors c s = doorCheck c s) ∨
      (s.trc.state = .doors ∧ allLocked s = true ∧ pollDoors c s = enterSettle s) ∨ pollDoors c s = s := by
  unfold pollDoors
  split
  next h => exact .inl ⟨h, rfl⟩
  next h =>
    unfold checkDoors
    split
    next hd => exact .inr (.inl ⟨hd.1, hd.2, rfl⟩)
    next => exact .inr (.inr rfl)

theorem carried_pollDoors (c : Car) (s : State) : Carried s (pollDoors c s) := by
  rcases pollDoors_cases c s with ⟨-, h⟩ | ⟨-, hl, h⟩ | h
  · rw [h]; exact (raises_doorCheck (L := [.doorOpen]) (by decide) c s).carried
  · rw [h]; exact (onward_enterSettle hl).carried
  · rw [h]; exact .refl s

theorem flightCounts_pollDoors (c : Car) (s : State) : FlightCounts s (pollDoors c s) := by
  rcases pollDoors_cases c s with ⟨-, h⟩ | ⟨hs, hl, h⟩ | h
  · rw [h]; exact flightCounts_doorCheck c s
  · rw [h]; exact (onward_enterSettle hl).flightCounts (by rw [hs]; rfl)
  · rw [h]; exact .refl s

/-- A side not LOCKED of a fresh report, the left one first. -/
theorem doorCheck_raised (hf : isFresh s c = true) :
    ((s.cru.get c).poll.left ≠ .locked →
      RaisedWith .doorOpen (.door c .left (s.cru.get c).poll.left) s (doorCheck c s)) ∧
    ((s.cru.get c).poll.left = .locked → (s.cru.get c).poll.right ≠ .locked →
      RaisedWith .doorOpen (.door c .right (s.cru.get c).poll.right) s (doorCheck c s)) := by
  unfold doorCheck
  rw [if_pos hf]
  refine ⟨fun hl => ?_, fun hl hr => ?_⟩
  · have hleft : doorCheckSide c .left s = raiseCause .doorOpen (.door c .left (s.cru.get c).poll.left) s := if_neg hl
    rw [hleft]
    exact (raises_doorCheckSide (L := [.doorOpen]) (by decide) c .right _).carried.raisedWith
      (raisedWith_raiseCause _ _ s)
  · have hleft : doorCheckSide c .left s = s := if_pos hl
    have hright : doorCheckSide c .right s = raiseCause .doorOpen (.door c .right (s.cru.get c).poll.right) s :=
      if_neg hr
    rw [hleft, hright]
    exact raisedWith_raiseCause _ _ s

/-! ## The stop request and the alarm (R40, R76) -/

theorem raises_pollStop (c : Car) (p : Poll) (s : State) : Raises [.stopRequest, .estopRequest] s (pollStop c p s) := by
  unfold pollStop
  split
  · exact .refl s
  · exact raises_raiseCause (by decide) _ s
  · exact raises_raiseCause (by decide) _ s

theorem flightCounts_pollStop (c : Car) (p : Poll) (s : State) : FlightCounts s (pollStop c p s) := by
  unfold pollStop
  split
  · exact .refl s
  · exact flightCounts_raiseCause _ _ s
  · exact flightCounts_raiseCause _ _ s

theorem pollStop_raised (c : Car) (p : Poll) (s : State) :
    (p.stopReq = .stop → hasCause (pollStop c p s) .stopRequest = true) ∧
      (p.stopReq = .estop → hasCause (pollStop c p s) .estopRequest = true) := by
  unfold pollStop
  constructor <;>
    · intro h
      simp only [h]
      exact (raisedWith_raiseCause _ _ s).1

theorem pollStop_none (h : p.stopReq = .none) (c : Car) (s : State) : pollStop c p s = s := by simp [pollStop, h]

/-- A new alarm: the latch and its mirror set, the incident captured, the masters told. -/
def alarmed (c : Car) (s : State) : State :=
  hand .passengerAlarm (.car c) [.drv, .con] (capture (.passengerAlarm c) (setLatch c true s))

theorem pollAlarm_eq (c : Car) (p : Poll) (s : State) :
    pollAlarm c p s = if p.alarm = true ∧ (s.cru.get c).latch = false then alarmed c s else s := rfl

theorem told_alarmed (c : Car) (s : State) : Told checkKinds s (alarmed c s) :=
  (((Told.of_same (by simp)).trans (told_capture _ (setLatch c true s))).mono
    (by intro k hk; simp_all [checkKinds, causeKinds])).hand (by simp [checkKinds]) _ _

theorem carried_pollAlarm (c : Car) (p : Poll) (s : State) : Carried s (pollAlarm c p s) := by
  rw [pollAlarm_eq]
  split
  · exact ⟨by simp [alarmed], fun st k hk => (told_alarmed c s st).stays k hk⟩
  · exact .refl s

theorem pollAlarm_cru (c : Car) (p : Poll) (s : State) :
    (pollAlarm c p s).cru = s.cru.set c { s.cru.get c with latch := (s.cru.get c).latch || p.alarm } := by
  rw [pollAlarm_eq]
  split
  next h => cases c <;> simp [alarmed, setLatch, h.1, PerCar.set]
  next h =>
    have hlatch : ((s.cru.get c).latch || p.alarm) = (s.cru.get c).latch := by
      cases ha : p.alarm <;> cases hl : (s.cru.get c).latch <;> simp_all
    rw [hlatch]
    cases c <;> rfl

theorem pollAlarm_aboard (c o : Car) (p : Poll) (s : State) :
    ((pollAlarm c p s).adm.loads.get o).aboard = (s.adm.loads.get o).aboard := by
  rw [pollAlarm_eq]
  split
  · cases c <;> cases o <;> simp [alarmed, setLatch, PerCar.get, PerCar.set]
  · rfl

/-- What a new alarm tells and marks. -/
theorem alarmed_spec (c : Car) (s : State) :
    ((alarmed c s).adm.loads.get c).alarmMirror = true ∧
      isPending ((alarmed c s).niu.notices.get .drv) .passengerAlarm = true ∧
      isPending ((alarmed c s).niu.notices.get .con) .passengerAlarm = true := by
  simp [alarmed, setLatch, isPending_hand]

/-- The incident of a new alarm in a list with room, out of flight (R171). -/
theorem alarmed_incident (hroom : s.niu.incidents.length < 16) (hf : inFlight s.trc.state = false) (c : Car) :
    (alarmed c s).niu.incidents =
        s.niu.incidents ++
          [{ seq := s.niu.seq, cause := .passengerAlarm c, stage := s.brs.stage
             tripNumber := s.trc.trip.number, tripState := s.trc.state, p := pos s, v := s.psu.vEval, c := s.clc.c
             aboardA := s.adm.loads.a.aboard, aboardB := s.adm.loads.b.aboard, read := false, acked := false }] ∧
      (alarmed c s).niu.seq = (s.niu.seq + 1) % 65536 ∧
      isPending ((alarmed c s).niu.notices.get .con) .incidentCaptured = true := by
  have hmax : Config.incidentMax = 16 := rfl
  have hwrap : Config.wrap16 = 65536 := rfl
  have hplace : capture (.passengerAlarm c) (setLatch c true s) =
      placeIncident (.passengerAlarm c) s.niu.incidents (setLatch c true s) := by
    simp [capture, hmax, hroom]
  have hmoving : ¬ (s.trc.state = .settle ∨ isMoving s.trc.state = true) := by
    cases hs : s.trc.state <;> simp_all [inFlight, isMoving]
  have hab : incidentAboard (setLatch c true s) = ⟨s.adm.loads.a.aboard, s.adm.loads.b.aboard⟩ := by
    unfold incidentAboard
    rw [if_neg (by simpa using hmoving)]
    cases c <;> simp [setLatch, PerCar.set, PerCar.get]
  have hpos : pos (setLatch c true s) = pos s := by apply pos_same <;> simp
  refine ⟨?_, ?_, ?_⟩
  · simp [alarmed, hplace, placeIncident, incidentOf, hab, hpos]
  · simp [alarmed, hplace, placeIncident, hwrap]
  · have hcap : isPending ((placeIncident (.passengerAlarm c) s.niu.incidents (setLatch c true s)).niu.notices.get .con)
        .incidentCaptured = true := by simp [placeIncident, isPending_hand]
    rw [alarmed, hplace]
    exact ((Told.refl (K := [.passengerAlarm]) _).hand (by simp) _ _ .con).stays _ hcap

end Sys2Proof.Machine
end

section
/-! The car poll as a request (O51). -/

namespace Sys2Proof.Machine

variable {s t u v : State} {c : Car} {p : Poll} {st : Station}

/-! ## The states of a poll, one after another -/

/-- The record taken and compared with the rope. -/
def pollMatched (c : Car) (p : Poll) (s : State) : State := checkMismatch c p (reported c p s)

/-- The marker pass taken. -/
def pollMarked (c : Car) (p : Poll) (s : State) : State := pollMarker c p (pollMatched c p s)

theorem takePoll_eq (c : Car) (p : Poll) (s : State) :
    takePoll c p s = pollAlarm c p (pollStop c p (pollDoors c (pollMarked c p s))) := rfl

theorem raises_pollMatched (c : Car) (p : Poll) (s : State) : Raises [.speedMismatch] s (pollMatched c p s) :=
  (raises_reported c p s).trans (raises_checkMismatch (by decide) c p _)

/-- What comes after the marker pass keeps the causes and the notices. -/
theorem carried_afterMarked (c : Car) (p : Poll) (s : State) : Carried (pollMarked c p s) (takePoll c p s) :=
  ((carried_pollDoors c _).trans (raises_pollStop c p _).carried).trans (carried_pollAlarm c p _)

theorem carried_pollMarker (c : Car) (p : Poll) (s : State) : Carried s (pollMarker c p s) := by
  unfold pollMarker
  split
  · exact (raises_markerPass c _ s).carried
  · exact .refl s

theorem carried_afterMatched (c : Car) (p : Poll) (s : State) : Carried (pollMatched c p s) (takePoll c p s) :=
  (carried_pollMarker c p _).trans (carried_afterMarked c p s)

theorem flightCounts_afterMatched (c : Car) (p : Poll) (s : State) :
    FlightCounts (pollMatched c p s) (takePoll c p s) := by
  have hmark : FlightCounts (pollMatched c p s) (pollMarked c p s) := by
    unfold pollMarked pollMarker
    split
    · exact flightCounts_markerPass c _ _
    · exact .refl _
  have halarm (w : State) : FlightCounts w (pollAlarm c p w) := .of_same (by simp) (by simp)
  exact ((hmark.trans (flightCounts_pollDoors c _)).trans (flightCounts_pollStop c p _)).trans (halarm _)

/-! ## The mismatch count (R35) -/

theorem disagrees_reported (s : State) (c : Car) (p : Poll) : disagrees (reported c p s) c p = disagrees s c p := by
  rw [Bool.eq_iff_iff, disagrees_iff, disagrees_iff]
  simp [Disagrees, State.params]

theorem mismatchAfter_reported (s : State) (c : Car) (p : Poll) :
    mismatchAfter (reported c p s) c p = mismatchAfter s c p := by
  simp [mismatchAfter, disagrees_reported]

/-- In flight the third disagreeing poll in a row raises SPEED_MISMATCH; any other is counted alone. -/
theorem pollMatched_flying (hf : inFlight s.trc.state = true) (c : Car) (p : Poll) :
    pollMatched c p s =
      if disagrees s c p = true ∧ s.psu.mismatch.get c = 2 then
        raiseCause .speedMismatch (.mismatch c p.speed s.psu.vRope)
          (mismatchCounted c (mismatchAfter s c p) (reported c p s))
      else mismatchCounted c (mismatchAfter s c p) (reported c p s) := by
  rw [pollMatched, checkMismatch_flying (by simpa using hf), mismatchAfter_reported, disagrees_reported]
  simp

theorem pollMatched_grounded (hf : inFlight s.trc.state = false) (c : Car) (p : Poll) :
    pollMatched c p s = reported c p s := checkMismatch_grounded (by simpa using hf) c p

theorem pollMatched_quiet (h : ¬ (Disagrees s c p ∧ s.psu.mismatch.get c = 2)) (hf : inFlight s.trc.state = true) :
    pollMatched c p s = mismatchCounted c (mismatchAfter s c p) (reported c p s) := by
  rw [pollMatched_flying hf, if_neg (by rwa [disagrees_iff])]

theorem flightCounts_counted (hf : inFlight s.trc.state = true) (c : Car) (p : Poll) :
    FlightCounts (mismatchCounted c (mismatchAfter s c p) (reported c p s)) (takePoll c p s) := by
  refine .trans ?_ (flightCounts_afterMatched c p s)
  rw [pollMatched_flying hf]
  exact .ite (fun _ => flightCounts_raiseCause _ _ _) (fun _ => .refl _)

/-- The mismatch check of a poll with a trip in flight. -/
theorem takePoll_mismatch (hf : inFlight s.trc.state = true) (c : Car) (p : Poll) :
    (Disagrees s c p → s.psu.mismatch.get c = 2 →
      RaisedWith .speedMismatch (.mismatch c p.speed s.psu.vRope) s (takePoll c p s)) ∧
    (inFlight (takePoll c p s).trc.state = true →
      (takePoll c p s).psu.mismatch = s.psu.mismatch.set c (mismatchAfter s c p)) ∧
    (inFlight (takePoll c p s).trc.state = false → (takePoll c p s).psu.mismatch = ⟨0, 0⟩) := by
  have hcounts := flightCounts_counted hf c p
  have hstart : inFlight (mismatchCounted c (mismatchAfter s c p) (reported c p s)).trc.state = true := by
    simpa [mismatchCounted] using hf
  refine ⟨fun hd h2 => ?_, fun hfly => ?_, fun hend => hcounts.ended hstart hend⟩
  · refine (carried_afterMatched c p s).raisedWith ?_
    rw [pollMatched_flying hf, if_pos ⟨disagrees_iff.mpr hd, h2⟩]
    obtain ⟨hhas, hnew⟩ := raisedWith_raiseCause .speedMismatch (.mismatch c p.speed s.psu.vRope)
      (mismatchCounted c (mismatchAfter s c p) (reported c p s))
    exact ⟨hhas, fun hs => hnew (by simpa [hasCause, mismatchCounted] using hs)⟩
  · rw [hcounts.flying hstart hfly]
    simp [mismatchCounted]

/-! ## A quiet poll (R38) -/

/-- A poll that finds no trip in flight and reports nothing new replaces the record alone. -/
theorem takePoll_quiet (hf : inFlight s.trc.state = false) (hm : p.marker = none) (hstop : p.stopReq = .none) :
    takePoll c p s = pollAlarm c p (reported c p s) := by
  have hmarked : pollMarked c p s = reported c p s := by
    simp [pollMarked, pollMarker, hm, pollMatched_grounded hf]
  have hdoors : pollDoors c (reported c p s) = reported c p s := by
    rcases pollDoors_cases c (reported c p s) with ⟨h, -⟩ | ⟨h, -, -⟩ | h
    · cases hs : s.trc.state <;> simp_all [inFlight, isPowered]
    · simp_all [inFlight]
    · exact h
  rw [takePoll_eq, hmarked, hdoors, pollStop_none hstop]

theorem pollAlarm_old (h : p.alarm = false ∨ (s.cru.get c).latch = true) : pollAlarm c p s = s := by
  rw [pollAlarm_eq, if_neg]
  rcases h with h | h <;> simp [h]

/-- Off the powered states the record leaves outputs that stand as they should. -/
theorem reported_brs (hf : inFlight s.trc.state = false) (h : OutputInv s) (c : Car) (p : Poll) :
    (reported c p s).brs = s.brs := by
  have hp : isPowered s.trc.state = false := by cases hs : s.trc.state <;> simp_all [inFlight, isPowered]
  exact ((outputsStand_of_unpowered hp h).congr (t := storePoll c p s) hp rfl rfl).updateOutputs

/-- Before the alarm is looked at, the record is replaced with its latch as it stood. -/
theorem pollStop_cru (c : Car) (p : Poll) (s : State) :
    (pollStop c p (pollDoors c (pollMarked c p s))).cru =
      s.cru.set c { poll := p, fresh := true, takenAt := s.now, latch := (s.cru.get c).latch } := by
  simp [pollMarked, pollMatched]

theorem takePoll_cru (c : Car) (p : Poll) (s : State) :
    (takePoll c p s).cru =
      s.cru.set c { poll := p, fresh := true, takenAt := s.now, latch := (s.cru.get c).latch || p.alarm } := by
  rw [takePoll_eq, pollAlarm_cru, pollStop_cru]
  cases c <;> rfl

/-! ## The doors of a poll (R98, R114) -/

theorem isFresh_polled
    (hcru : v.cru.get c = { poll := p, fresh := true, takenAt := s.now, latch := (s.cru.get c).latch })
    (hnow : v.now = s.now) : isFresh v c = true := by
  simp [isFresh_iff, hcru, reportAge, hnow]

theorem takePoll_doorOpen (hp : isPowered s.trc.state = true) (hm : p.marker = none)
    (hq : ¬ (Disagrees s c p ∧ s.psu.mismatch.get c = 2)) :
    (p.left ≠ .locked → RaisedWith .doorOpen (.door c .left p.left) s (takePoll c p s)) ∧
      (p.left = .locked → p.right ≠ .locked → RaisedWith .doorOpen (.door c .right p.right) s (takePoll c p s)) := by
  have hf : inFlight s.trc.state = true := by cases hs : s.trc.state <;> simp_all [inFlight, isPowered]
  have hmarked : pollMarked c p s = mismatchCounted c (mismatchAfter s c p) (reported c p s) := by
    simp [pollMarked, pollMarker, hm, pollMatched_quiet hq hf]
  have hcru : (pollMarked c p s).cru.get c =
      { poll := p, fresh := true, takenAt := s.now, latch := (s.cru.get c).latch } := by
    simp [hmarked, mismatchCounted]
  have hdoors : pollDoors c (pollMarked c p s) = doorCheck c (pollMarked c p s) := by
    unfold pollDoors
    rw [if_pos (by simpa [hmarked, mismatchCounted] using hp)]
  have hafter : Carried (doorCheck c (pollMarked c p s)) (takePoll c p s) := by
    rw [takePoll_eq, hdoors]
    exact (raises_pollStop c p _).carried.trans (carried_pollAlarm c p _)
  obtain ⟨hleft, hright⟩ := doorCheck_raised
    (isFresh_polled (s := s) hcru (by simp [hmarked, mismatchCounted]))
  rw [hcru] at hleft hright
  have hfrom (x : Cause) (hx : hasCause s x = false) : hasCause (pollMarked c p s) x = false := by
    simpa [hasCause, hmarked, mismatchCounted] using hx
  exact ⟨fun h => ⟨(hafter.raisedWith (hleft h)).1, fun hs => (hafter.raisedWith (hleft h)).2 (hfrom _ hs)⟩,
    fun h h' => ⟨(hafter.raisedWith (hright h h')).1, fun hs => (hafter.raisedWith (hright h h')).2 (hfrom _ hs)⟩⟩

/-- Only the polls, their age and the store decide whether the doors are LOCKED. -/
theorem allLocked_polls (hpoll : ∀ o, (t.cru.get o).poll = (s.cru.get o).poll)
    (hfresh : ∀ o, (t.cru.get o).fresh = (s.cru.get o).fresh) (hat : ∀ o, (t.cru.get o).takenAt = (s.cru.get o).takenAt)
    (hcfg : t.cfg = s.cfg) (hnow : t.now = s.now) : allLocked t = allLocked s := by
  have hage (o : Car) : isFresh t o = isFresh s o := by
    simp [isFresh, reportAge, State.params, hfresh, hat, hcfg, hnow]
  have ha := hpoll .a
  have hb := hpoll .b
  rw [Bool.eq_iff_iff, allLocked_iff, allLocked_iff, hage, hage]
  simp only [PerCar.get] at ha hb
  rw [ha, hb]

theorem settleEntered_pollAlarm (h : SettleEntered s t) (c : Car) (p : Poll) : SettleEntered s (pollAlarm c p t) := by
  obtain ⟨hfrozen, hder, hdoor, hwait, hrel⟩ := h
  have ha := pollAlarm_aboard c .a p t
  have hb := pollAlarm_aboard c .b p t
  simp only [PerCar.get] at ha hb
  refine ⟨by simpa [ha, hb] using hfrozen, by simpa using hder, by simpa using hdoor, by simpa using hwait,
    fun h0 hn => ?_⟩
  exact (hrel h0 hn).at (by simp) (by simp) (by simp) (by simp) (by simp) (by simp) (by simp)

/-- The wait of DOORS at a poll without more to tell (R98). -/
theorem takePoll_doors (hs : s.trc.state = .doors) (hm : p.marker = none) (hstop : p.stopReq = .none)
    (hq : ¬ (Disagrees s c p ∧ s.psu.mismatch.get c = 2)) :
    (allLocked (takePoll c p s) = true → SettleEntered s (takePoll c p s)) ∧
      (allLocked (takePoll c p s) = false →
        (takePoll c p s).trc = s.trc ∧ (takePoll c p s).dri = s.dri) := by
  have hf : inFlight s.trc.state = true := by rw [hs]; rfl
  have hmarked : pollMarked c p s = mismatchCounted c (mismatchAfter s c p) (reported c p s) := by
    simp [pollMarked, pollMarker, hm, pollMatched_quiet hq hf]
  have hrun : takePoll c p s = pollAlarm c p (pollDoors c (pollMarked c p s)) := by
    rw [takePoll_eq, pollStop_none hstop]
  have hlocked : allLocked (takePoll c p s) = allLocked (pollMarked c p s) := by
    have hcru : (pollMarked c p s).cru = (reported c p s).cru := by simp [hmarked, mismatchCounted]
    apply allLocked_polls
    · intro o
      rw [takePoll_cru, hcru]
      cases c <;> cases o <;> simp [PerCar.get, PerCar.set]
    · intro o
      rw [takePoll_cru, hcru]
      cases c <;> cases o <;> simp [PerCar.get, PerCar.set]
    · intro o
      rw [takePoll_cru, hcru]
      cases c <;> cases o <;> simp [PerCar.get, PerCar.set]
    · simp [hmarked, mismatchCounted]
    · simp [hmarked, mismatchCounted]
  have hstate : (pollMarked c p s).trc.state = .doors := by simp [hmarked, mismatchCounted, hs]
  refine ⟨fun hl => ?_, fun hl => ?_⟩
  · rw [hlocked] at hl
    have hdoors : pollDoors c (pollMarked c p s) = enterSettle (pollMarked c p s) := by
      simp [pollDoors, checkDoors, hstate, hl, isPowered]
    have hrunning : SameRun (pollMarked c p s) (storePoll c p s) := by
      constructor <;> simp [hmarked, mismatchCounted, storePoll]
    rw [hrun, hdoors]
    exact settleEntered_pollAlarm ((settleEntered_enterSettle hl).from hrunning) c p
  · rw [hlocked] at hl
    have hdoors : pollDoors c (pollMarked c p s) = pollMarked c p s := by
      simp [pollDoors, checkDoors, hl, hstate, isPowered]
    rw [hrun, hdoors]
    simp [hmarked, mismatchCounted]

end Sys2Proof.Machine
end

section
/-! The reply to a car poll, and the poll as a request (O51). -/

namespace Sys2Proof.Machine

variable {s t u v : State} {c : Car} {p : Poll} {st : Station}

/-! ## The poll reply contents (R41) -/

theorem pollReply_replyTo (r : Request) (st : Station) (a : Answer) (c : Car) :
    pollReply (replyTo r st s a) c = pollReply a.state c := by
  simp [pollReply, permit_replyTo, trackDemand, targetStop]

theorem cause_track_iff (x : Cause) :
    x.track = true ↔
      x ∈ [Cause.overspeedEmergency, .sbIneffective, .ebFail, .rollback, .unintendedMotion] := by
  cases x <;> decide

theorem trackDemand_iff (s : State) :
    trackDemand s = true ↔ s.brs.stage = .emergency ∧ ∃ h ∈ s.brs.causes,
      h.cause ∈ [Cause.overspeedEmergency, .sbIneffective, .ebFail, .rollback, .unintendedMotion] := by
  simp only [trackDemand, decide_eq_true_eq, List.any_eq_true, cause_track_iff]

theorem targetStop_flying (h : inFlight s.trc.state = true) : targetStop s = s.trc.trip.destination := by
  unfold targetStop
  split
  next k hk => simp [hk, inFlight] at h
  next => rw [if_pos h]

theorem targetStop_dwell {k : Stop} (h : s.trc.state = .dwell k) : targetStop s = some k := by simp [targetStop, h]

theorem targetStop_none (h : s.trc.state = .none ∨ s.trc.state = .stoppedOnLine) : targetStop s = none := by
  rcases h with h | h <;> simp [targetStop, h, inFlight]

/-! ## The state that a valid poll leaves -/

/-- A valid poll taken and answered. -/
def pollAnswered (st : Station) (p : Poll) (s : State) : State :=
  replyTo .carPoll st s
    ⟨takePoll (carOf st) p s, .ok, .poll (pollReply (takePoll (carOf st) p s) (carOf st))⟩

@[simp] theorem pollAnswered_frame (st : Station) (p : Poll) (s : State) :
    (pollAnswered st p s).cfg = s.cfg ∧ (pollAnswered st p s).cru = (takePoll (carOf st) p s).cru ∧
      (pollAnswered st p s).psu = (takePoll (carOf st) p s).psu ∧
      (pollAnswered st p s).clc = (takePoll (carOf st) p s).clc ∧
      (pollAnswered st p s).brs = (takePoll (carOf st) p s).brs ∧
      (pollAnswered st p s).trc = (takePoll (carOf st) p s).trc ∧
      (pollAnswered st p s).dri = (takePoll (carOf st) p s).dri ∧
      (pollAnswered st p s).adm = (takePoll (carOf st) p s).adm ∧
      (pollAnswered st p s).now = s.now ∧
      (pollAnswered st p s).niu.incidents = (takePoll (carOf st) p s).niu.incidents ∧
      (pollAnswered st p s).niu.seq = (takePoll (carOf st) p s).niu.seq ∧
      ∀ who k, isPending ((pollAnswered st p s).niu.notices.get who) k =
        isPending ((takePoll (carOf st) p s).niu.notices.get who) k := by
  simp [pollAnswered, isPending]

theorem carried_pollAnswered (st : Station) (p : Poll) (s : State) :
    Carried (takePoll (carOf st) p s) (pollAnswered st p s) :=
  ⟨by simp, fun _ _ h => by simpa using h⟩

theorem execCarPoll_known {b0 b1 b2 b3 b4 b5 b6 : Byte} (h : Heard .carPoll st s)
    (hp : pollOf b0 b1 b2 b3 b4 b5 b6 = some p) (hk : markerKnown s p = true) :
    exec (.carPoll st [b0, b1, b2, b3, b4, b5, b6]) s = .next (pollAnswered st p s) :=
  request_answer h (by simp [takeCarPoll, hp, hk, accept])

theorem takeCarPoll_refused {o : Option Poll} (h : ∀ p, o = some p → markerKnown s p = false) :
    takeCarPoll st o s = ⟨s, .refused .badValue, .poll (pollReply s (carOf st))⟩ := by
  cases o with
  | none => rfl
  | some p => simp [takeCarPoll, h p rfl, refuse]

theorem pollAnswered_replied (st : Station) (p : Poll) (s : State) :
    Replied .carPoll st .ok (.poll (pollReply (pollAnswered st p s) (carOf st))) (pollAnswered st p s) := by
  rw [pollAnswered, pollReply_replyTo]
  simp

theorem pollAnswered_keepsBut (st : Station) (p : Poll) (s : State) :
    KeepsBut [.cru, .psu, .clc, .brs, .trc, .dri, .adm, .notices, .incidents] s (pollAnswered st p s) := by
  simp [keepsBut_iff, pollAnswered]

theorem pollAnswered_stopRequest (st : Station) (p : Poll) (s : State) :
    (p.stopReq = .stop → hasCause (pollAnswered st p s) .stopRequest = true) ∧
      (p.stopReq = .estop → hasCause (pollAnswered st p s) .estopRequest = true) := by
  obtain ⟨hstop, hestop⟩ :=
    pollStop_raised (carOf st) p (pollDoors (carOf st) (pollMarked (carOf st) p s))
  have hafter := (carried_pollAlarm (carOf st) p _).trans (carried_pollAnswered st p s)
  exact ⟨fun h => hasCause_of_subset hafter.causes (hstop h), fun h => hasCause_of_subset hafter.causes (hestop h)⟩

/-- A quiet poll out of flight, with no new alarm. -/
theorem pollAnswered_quiet (hf : inFlight s.trc.state = false) (hm : p.marker = none) (hstop : p.stopReq = .none)
    (ha : p.alarm = false ∨ (s.cru.get (carOf st)).latch = true) :
    (pollAnswered st p s).brs = (reported (carOf st) p s).brs ∧ KeepsBut [.cru, .brs] s (pollAnswered st p s) := by
  have hrun : takePoll (carOf st) p s = reported (carOf st) p s := by
    rw [takePoll_quiet hf hm hstop]
    exact pollAlarm_old (ha.imp id (by simp))
  exact ⟨by simp [hrun], by simp [keepsBut_iff, pollAnswered, hrun]⟩

theorem pollAnswered_marker {m : Nat} (hm : p.marker = some m) : MarkerPassed (carOf st) m s (pollAnswered st p s) := by
  have hmarked : pollMarked (carOf st) p s = markerPass (carOf st) m (pollMatched (carOf st) p s) := by
    simp [pollMarked, pollMarker, hm]
  refine (markerPassed_markerPass (carOf st) m (pollMatched (carOf st) p s)).within
    (raises_pollMatched (carOf st) p s) (by decide) (by simp [pollMatched]) (by simp [pollMatched]) (hmarked ▸
      (carried_afterMarked (carOf st) p s).trans (carried_pollAnswered st p s)) (by simp [pollMatched]) ?_
  rw [← hmarked]
  simp [takePoll_eq]

theorem pollAnswered_mismatch (hf : inFlight s.trc.state = true) :
    (Disagrees s (carOf st) p → s.psu.mismatch.get (carOf st) = 2 →
      RaisedWith .speedMismatch (.mismatch (carOf st) p.speed s.psu.vRope) s (pollAnswered st p s)) ∧
    (inFlight (pollAnswered st p s).trc.state = true →
      (Disagrees s (carOf st) p →
        (pollAnswered st p s).psu.mismatch =
          s.psu.mismatch.set (carOf st) (min 3 (s.psu.mismatch.get (carOf st) + 1))) ∧
      (¬ Disagrees s (carOf st) p →
        (pollAnswered st p s).psu.mismatch = s.psu.mismatch.set (carOf st) 0)) ∧
    (inFlight (pollAnswered st p s).trc.state = false → (pollAnswered st p s).psu.mismatch = ⟨0, 0⟩) := by
  obtain ⟨hraised, hflying, hended⟩ := takePoll_mismatch hf (carOf st) p
  simp only [pollAnswered_frame] at hflying hended ⊢
  refine ⟨fun hd h2 => (carried_pollAnswered st p s).raisedWith (hraised hd h2),
    fun hfly => ⟨fun hd => ?_, fun hd => ?_⟩, hended⟩
  · rw [hflying hfly, mismatchAfter, if_pos (disagrees_iff.mpr hd)]
  · rw [hflying hfly, mismatchAfter, if_neg (by rwa [disagrees_iff])]

theorem pollAnswered_doors (hs : s.trc.state = .doors) (hm : p.marker = none) (hstop : p.stopReq = .none)
    (hq : ¬ (Disagrees s (carOf st) p ∧ s.psu.mismatch.get (carOf st) = 2)) :
    (allLocked (pollAnswered st p s) = true → SettleEntered s (pollAnswered st p s)) ∧
      (allLocked (pollAnswered st p s) = false →
        (pollAnswered st p s).trc = s.trc ∧ (pollAnswered st p s).dri = s.dri) := by
  obtain ⟨hsettle, hwait⟩ := takePoll_doors hs hm hstop hq
  have hlocked : allLocked (pollAnswered st p s) = allLocked (takePoll (carOf st) p s) :=
    allLocked_congr (by simp) (by simp) (by simp)
  rw [hlocked]
  exact ⟨fun h => (hsettle h).at (by constructor <;> simp), fun h => by simpa using hwait h⟩

/-! ## A new alarm (R40) -/

theorem takePoll_alarmed (ha : p.alarm = true) (hl : (s.cru.get c).latch = false) :
    takePoll c p s = alarmed c (pollStop c p (pollDoors c (pollMarked c p s))) := by
  rw [takePoll_eq, pollAlarm_eq, if_pos ⟨ha, by rw [pollStop_cru]; simpa using hl⟩]

theorem pollAnswered_alarm (ha : p.alarm = true) (hl : (s.cru.get (carOf st)).latch = false) :
    ((pollAnswered st p s).adm.loads.get (carOf st)).alarmMirror = true ∧
      isPending ((pollAnswered st p s).niu.notices.get .drv) .passengerAlarm = true ∧
      isPending ((pollAnswered st p s).niu.notices.get .con) .passengerAlarm = true := by
  simpa only [pollAnswered_frame, takePoll_alarmed ha hl] using
    alarmed_spec (carOf st) (pollStop (carOf st) p (pollDoors (carOf st) (pollMarked (carOf st) p s)))

/-- The incident of a new alarm, out of flight with nothing else to tell (R171). -/
theorem pollAnswered_incident (hf : inFlight s.trc.state = false) (hm : p.marker = none) (hstop : p.stopReq = .none)
    (ha : p.alarm = true) (hl : (s.cru.get (carOf st)).latch = false) (hroom : s.niu.incidents.length < 16) :
    (pollAnswered st p s).niu.incidents =
        s.niu.incidents ++
          [{ seq := s.niu.seq, cause := .passengerAlarm (carOf st), stage := s.brs.stage
             tripNumber := s.trc.trip.number, tripState := s.trc.state, p := pos s, v := s.psu.vEval, c := s.clc.c
             aboardA := s.adm.loads.a.aboard, aboardB := s.adm.loads.b.aboard, read := false, acked := false }] ∧
      (pollAnswered st p s).niu.seq = (s.niu.seq + 1) % 65536 ∧
      isPending ((pollAnswered st p s).niu.notices.get .con) .incidentCaptured = true ∧
      KeepsBut [.cru, .brs, .adm, .notices, .incidents] s (pollAnswered st p s) := by
  have hrun : takePoll (carOf st) p s = alarmed (carOf st) (reported (carOf st) p s) := by
    rw [takePoll_quiet hf hm hstop, pollAlarm_eq, if_pos ⟨ha, by simpa using hl⟩]
  have hpos : pos (reported (carOf st) p s) = pos s := by apply pos_same <;> simp
  obtain ⟨hinc, hseq, hcap⟩ := alarmed_incident (s := reported (carOf st) p s) (by simpa using hroom)
    (by simpa using hf) (carOf st)
  refine ⟨?_, ?_, ?_, ?_⟩
  · simpa [hrun, hpos] using hinc
  · simpa [hrun] using hseq
  · simpa [hrun] using hcap
  · simp [keepsBut_iff, pollAnswered, hrun, alarmed]

/-- Settles O51: a valid poll goes through its steps one after another, each with its own lemma; an invalid one is
refused. -/
theorem carPollTaken : Obligations.CarPollTaken := by
  unfold Obligations.CarPollTaken
  refine ⟨fun st b0 b1 b2 b3 b4 b5 b6 p s hh hp hk => ?_, fun st b0 b1 b2 b3 b4 b5 b6 s hh hno => ?_, fun s c => ?_⟩
  · obtain ⟨hstop, hestop⟩ := pollAnswered_stopRequest st p s
    refine ⟨pollAnswered st p s, execCarPoll_known hh hp hk, pollAnswered_replied st p s,
      by simpa using takePoll_cru (carOf st) p s, hstop, hestop, fun hf hm hnone ha => ?_,
      fun m hm => pollAnswered_marker hm, pollAnswered_mismatch, fun hpow hm hq => ?_,
      fun hs _ hm hnone hq => pollAnswered_doors hs hm hnone hq, pollAnswered_alarm,
      fun hf hm hnone ha => ⟨fun hl => ?_, fun hl => pollAnswered_incident hf hm hnone ha hl⟩, pollAnswered_keepsBut st p s⟩
    · obtain ⟨hbrs, hkeeps⟩ := pollAnswered_quiet (st := st) hf hm hnone (.inl ha)
      refine ⟨?_, fun hout => hbrs.trans (reported_brs hf hout _ p), hkeeps⟩
      rw [hbrs]
      exact updateOutputs_outputsOnly (storePoll (carOf st) p s)
    · obtain ⟨hleft, hright⟩ := takePoll_doorOpen hpow hm hq
      have hafter := carried_pollAnswered st p s
      exact ⟨fun h => hafter.raisedWith (hleft h), fun h h' => hafter.raisedWith (hright h h')⟩
    · exact (pollAnswered_quiet hf hm hnone (.inr hl)).2
  · exact request_refused (takeCarPoll st) hh _ (takeCarPoll_refused hno)
  · exact ⟨permit_iff c .left, permit_iff c .right, trackDemand_iff s, rfl, rfl, rfl, targetStop_flying,
      fun k => targetStop_dwell, targetStop_none⟩

end Sys2Proof.Machine
end
